-- ==== Sys2Proof/Word.lean ====
section
/-! DEFINITION. The words and numbered things of the ZT832: octets, samples, ports, key slots, channels, groups,
zones, cue slots, points on the show clock and sets of ports (spec/00_scope.md, Conventions). -/

namespace Sys2Proof

/-- One octet of a frame or of a message (R171, R173). -/
abbrev Octet := BitVec 8

/-- A talk sample, two's complement, -32,768 to 32,767 (R171). -/
abbrev Sample := BitVec 16

/-- A station line port P0–P31. -/
abbrev Port := Fin 32

/-- A key slot of a station: K1 is 0, K4 is 3. -/
abbrev KeySlot := Fin 4

/-- A talk channel: C1 is 0, C16 is 15. -/
abbrev Chan := Fin 16

/-- A target group: G1 is 0, G24 is 23. -/
abbrev GroupNo := Fin 24

/-- A zone: Z1 is 0, Z6 is 5. -/
abbrev ZoneNo := Fin 6

/-- A cue slot 0–255. -/
abbrev CueSlot := Fin 256

/-- A notice kind: kind 1 (PORT_UP) is 0, kind 18 (LANE_LOST) is 17. -/
abbrev NoticeKind := Fin 18

/-- A notice lane L0–L3. -/
abbrev Lane := Fin 4

/-- A point on the show clock, or a span of it, counted in frame intervals of 0.125 ms
(spec/00_scope.md, Time). -/
abbrev Time := Nat

/-- A field of a message that selects among named items: `none` is a number outside them (R178). -/
abbrev Named (α : Type) := Option α

/-- A set of ports: each of P0–P31 at most once, in no order. Bit n is the membership of Pn, as a group write
carries the membership of each of the 32 ports (R8, R9). -/
structure PortSet where
  bits : BitVec 32
  deriving DecidableEq, Repr

end Sys2Proof
end

