-- ==== Sys2Proof/Syntax.lean ====
section
/-! DEFINITION. The commands of the ZT832: one constructor of `Instr` for each row of spec/opcode_table.json, with
the named values and the written entries the commands carry. -/

namespace Sys2Proof

/-- The two banks (R101). -/
inductive Bank | a | b
  deriving DecidableEq, Repr

/-- The bank field of READ_ENTRY (R102). -/
inductive BankSel | live | edit
  deriving DecidableEq, Repr

/-- Ack policy ALL, ANY, NONE (R2, R21). -/
inductive AckPolicy | all | any | nobody
  deriving DecidableEq, Repr

/-- Go policy (R2). -/
inductive GoPolicy | readyOnly | anyState
  deriving DecidableEq, Repr

/-- Link kind of a successor (R3). -/
inductive LinkKind | standbyNext | autofollow
  deriving DecidableEq, Repr

/-- The motion counters M1, M2 (R76). -/
inductive CounterId | m1 | m2
  deriving DecidableEq, Repr

/-- Counting modes (R77). -/
inductive CountMode | quadrature | pulseDirection | upDown | countUp
  deriving DecidableEq, Repr

/-- The step direction an entry accepts (R84). -/
inductive StepDirection | up | down | either
  deriving DecidableEq, Repr

/-- The request a position entry sends (R84). -/
inductive PositionAction | standby | go
  deriving DecidableEq, Repr

/-- Key slot modes (R117). -/
inductive SlotMode | listen | talk | talkListen
  deriving DecidableEq, Repr

/-- Key actions (R117). -/
inductive KeyAction | momentary | latching | auto
  deriving DecidableEq, Repr

/-- Station classes (R157). -/
inductive StationClass | desk | beltpack | panel | booth
  deriving DecidableEq, Repr

/-- Expected class of a profile: ANY or one class (R164). -/
inductive ExpectedClass | any | only (c : StationClass)
  deriving DecidableEq, Repr

/-- The set of CUE, READ and WRITE (R164). -/
structure Rights where
  cue : Bool
  read : Bool
  write : Bool
  deriving DecidableEq, Repr

/-- Delivery modes of a notice lane (R189). -/
inductive LaneMode | autoClear | holdUntilClear
  deriving DecidableEq, Repr

/-- The key levels of one upstream frame, 1 = pressed: bit i of `talk` and `call` is slot K(i+1) (R171). -/
structure Keys where
  talk : BitVec 4
  call : BitVec 4
  cue : Bool
  deriving DecidableEq, Repr

/-- An upstream frame as it stands on the line, octets 0–6 (R171). -/
abbrev UpFrame := Vector Octet 7

/-- A change of level of a counter's input signals: new levels of A and B, or a new level of Z, as the counter takes
them (R77); or levels that stand on the pins while the counter has yet to take the change (R98, log 43). -/
inductive LevelChange | ab (a b : Bool) | z (level : Bool) | pins (a b z : Bool)
  deriving DecidableEq, Repr

/-- The eight tables (R183). -/
inductive Table
  | cueTable | groupTable | positionLists | zoneTable | profiles | channelTable | noticeControl | routerSettings
  deriving DecidableEq, Repr

/-- The successor field as written (R3). -/
structure SuccessorWrite where
  kind : Named LinkKind
  slot : Nat
  delay : Option Nat
  deriving DecidableEq, Repr

/-- A whole cue record as a write carries it, before the tests of R5. -/
structure CueWrite where
  valid : Named Bool
  label : List Octet
  groups : List Nat
  ackPolicy : Named AckPolicy
  ackTimeout : Nat
  goPolicy : Named GoPolicy
  cueChannel : Option Nat
  interlock : Option Nat
  goDisplay : Nat
  successor : Option SuccessorWrite
  deriving DecidableEq, Repr

/-- A whole group as a write carries it (R9). -/
structure GroupWrite where
  valid : Named Bool
  ports : PortSet
  deriving DecidableEq, Repr

/-- A whole position entry as a write carries it, before the tests of R85. -/
structure PositionWrite where
  valid : Named Bool
  target : Int
  direction : Named StepDirection
  slot : Nat
  action : Named PositionAction
  deriving DecidableEq, Repr

/-- A whole zone as a write carries it, before the tests of R91. -/
structure ZoneWrite where
  valid : Named Bool
  counter : Named CounterId
  lower : Int
  upper : Int
  group : Option Nat
  warn : Named Bool
  deriving DecidableEq, Repr

/-- A key slot as a profile write carries it, before the tests of R118. -/
structure SlotWrite where
  channel : Option Nat
  mode : Named SlotMode
  action : Named KeyAction
  callAllowed : Named Bool
  deriving DecidableEq, Repr

/-- A whole station profile as a write carries it, before the tests of R165. -/
structure ProfileWrite where
  enabled : Named Bool
  expected : Named ExpectedClass
  rights : Named Rights
  priority : Nat
  sidetone : Named Bool
  slots : Vector SlotWrite 4
  deriving DecidableEq, Repr

/-- A whole channel entry as a write carries it, before the tests of R114. -/
structure ChannelWrite where
  maxTalkers : Nat
  level : Nat
  preemption : Named Bool
  idleRelease : Nat
  callDisplay : Nat
  deriving DecidableEq, Repr

/-- The Router Settings entry as a write carries it, before the tests of R119. -/
structure RouterWrite where
  threshold : Nat
  holdoff : Nat
  deriving DecidableEq, Repr

/-- One of the three entry forms of Notice Control as a write carries it (R189). -/
inductive NoticeEntryWrite
  | global (hold : Named Bool)
  | kind (enable : Named Bool) (lane : Nat)
  | lane (dest : Nat) (isOpen : Named Bool) (mode : Named LaneMode)
  deriving DecidableEq, Repr

/-- Which request of row UNNAMED_SUBJECT_OR_COMMAND names something outside its named items (R94, R167, R184, R193). -/
inductive UnnamedIn
  | status
  | counter (c : Named CounterId)
  | port
  | notice
  deriving DecidableEq, Repr

/-- The commands. A request carries the sending port `p` and its tag `tag`, then its own fields. A field that the
request's own rule tests (an index, a number, a named value) is carried as it stands in the message, in or out of its
range. -/
inductive Instr
  | powerOn
  | loadEnd (answered : Bool)
  | goodFrame (p : Port) (f : UpFrame)
  | frameDiscarded (p : Port) (f : UpFrame)
  | frameMissing (p : Port)
  | linkLoss (p : Port)
  | downstreamFrame (p : Port)
  | deferredAction (p : Port)
  | restartCarriedOut
  | identReply (p : Port) (tag cls keyCount : Octet) (serial : BitVec 32) (keys : Keys)
  | askDeadlineExpiry (p : Port)
  | step (c : CounterId) (a b : Bool)
  | indexPulse (c : CounterId)
  | standby (p : Port) (tag : Octet) (slot : CueSlot)
  | go (p : Port) (tag : Octet) (slot : CueSlot)
  | goNext (p : Port) (tag : Octet)
  | hold (p : Port) (tag : Octet) (slot : CueSlot)
  | holdAll (p : Port) (tag : Octet)
  | release (p : Port) (tag : Octet) (slot : CueSlot)
  | releaseAll (p : Port) (tag : Octet)
  | cancel (p : Port) (tag : Octet) (slot : CueSlot)
  | cancelAll (p : Port) (tag : Octet)
  | ackDeadlineExpiry (slot : CueSlot)
  | followDeadlineExpiry (slot : CueSlot)
  | goDisplayExpiry (slot : CueSlot)
  | noticeBuild (k : NoticeKind)
  | idleTimerExpiry (c : Chan)
  | deniedPeriodExpiry (p : Port) (k : KeySlot)
  | displayDeadlineExpiry (p : Port) (k : KeySlot)
  | holdoffDeadlineExpiry (p : Port) (k : KeySlot)
  | unknownKind (p : Port) (tag kind : Octet)
  | readCueEntry (p : Port) (tag : Octet) (bank : Named BankSel) (index : Nat)
  | writeCueEntry (p : Port) (tag : Octet) (index : Nat) (entry : CueWrite)
  | readGroupEntry (p : Port) (tag : Octet) (bank : Named BankSel) (index : Nat)
  | writeGroupEntry (p : Port) (tag : Octet) (index : Nat) (entry : GroupWrite)
  | readPositionEntry (p : Port) (tag : Octet) (bank : Named BankSel) (index : Nat)
  | writePositionEntry (p : Port) (tag : Octet) (index : Nat) (entry : PositionWrite)
  | readZoneEntry (p : Port) (tag : Octet) (bank : Named BankSel) (index : Nat)
  | writeZoneEntry (p : Port) (tag : Octet) (index : Nat) (entry : ZoneWrite)
  | readProfile (p : Port) (tag : Octet) (bank : Named BankSel) (index : Nat)
  | writeProfile (p : Port) (tag : Octet) (index : Nat) (entry : ProfileWrite)
  | readChannelEntry (p : Port) (tag : Octet) (bank : Named BankSel) (index : Nat)
  | writeChannelEntry (p : Port) (tag : Octet) (index : Nat) (entry : ChannelWrite)
  | readNoticeControl (p : Port) (tag : Octet) (bank : Named BankSel) (index : Nat)
  | writeNoticeControl (p : Port) (tag : Octet) (index : Nat) (entry : NoticeEntryWrite)
  | readRouterSettings (p : Port) (tag : Octet) (bank : Named BankSel) (index : Nat)
  | writeRouterSettings (p : Port) (tag : Octet) (index : Nat) (entry : RouterWrite)
  | copyLiveToEdit (p : Port) (tag : Octet)
  | swap (p : Port) (tag : Octet)
  | cancelSwap (p : Port) (tag : Octet)
  | set (p : Port) (tag : Octet) (c : Named CounterId) (value : Int)
  | preset (p : Port) (tag : Octet) (c : Named CounterId) (value : Int)
  | armIndex (p : Port) (tag : Octet) (c : Named CounterId)
  | disarmIndex (p : Port) (tag : Octet) (c : Named CounterId)
  | start (p : Port) (tag : Octet) (c : Named CounterId)
  | stop (p : Port) (tag : Octet) (c : Named CounterId)
  | seek (p : Port) (tag : Octet) (c : Named CounterId) (index : Nat)
  | mode (p : Port) (tag : Octet) (c : Named CounterId) (m : Named CountMode)
  | enable (p : Port) (tag : Octet) (n : Nat)
  | disable (p : Port) (tag : Octet) (n : Nat)
  | quiet (p : Port) (tag : Octet) (n : Nat)
  | unquiet (p : Port) (tag : Octet) (n : Nat)
  | portRestart (p : Port) (tag : Octet) (n : Nat)
  | noticeHold (p : Port) (tag : Octet) (extra : Option Nat)
  | noticeUnhold (p : Port) (tag : Octet) (extra : Option Nat)
  | noticeClear (p : Port) (tag : Octet) (kind : Option Nat)
  | noticeOpen (p : Port) (tag : Octet) (lane : Option Nat)
  | noticeClose (p : Port) (tag : Octet) (lane : Option Nat)
  | statusActiveList (p : Port) (tag : Octet) (position : Nat)
  | statusChannel (p : Port) (tag : Octet) (n : Nat)
  | statusPort (p : Port) (tag : Octet) (n : Nat)
  | statusCounter (p : Port) (tag : Octet) (c : Named CounterId)
  | statusNotice (p : Port) (tag : Octet) (n : Nat)
  | save (p : Port) (tag : Octet)
  | saveWriteAnswered
  | saveCompletion
  | saveFailure
  | restart (p : Port) (tag : Octet)
  | powerLoss
  | changeOfLevel (c : CounterId) (change : LevelChange)
  | badTable (p : Port) (tag : Octet) (isWrite : Bool) (table : Nat)
  | unnamedSubjectOrCommand (p : Port) (tag : Octet) (what : UnnamedIn)
  deriving DecidableEq, Repr

/-- What an accepted message asks for, once its payload has been read: the request rows of `Instr` without the port
and the tag. `misfit` is a COUNTER_CONTROL whose payload length does not fit its command (R94), `misfitEntry` a
WRITE_ENTRY whose entry has not the length the named table's entry takes (R183). -/
inductive Request
  | standby (slot : CueSlot)
  | go (slot : CueSlot)
  | goNext
  | hold (slot : CueSlot)
  | holdAll
  | release (slot : CueSlot)
  | releaseAll
  | cancel (slot : CueSlot)
  | cancelAll
  | readCueEntry (bank : Named BankSel) (index : Nat)
  | writeCueEntry (index : Nat) (entry : CueWrite)
  | readGroupEntry (bank : Named BankSel) (index : Nat)
  | writeGroupEntry (index : Nat) (entry : GroupWrite)
  | readPositionEntry (bank : Named BankSel) (index : Nat)
  | writePositionEntry (index : Nat) (entry : PositionWrite)
  | readZoneEntry (bank : Named BankSel) (index : Nat)
  | writeZoneEntry (index : Nat) (entry : ZoneWrite)
  | readProfile (bank : Named BankSel) (index : Nat)
  | writeProfile (index : Nat) (entry : ProfileWrite)
  | readChannelEntry (bank : Named BankSel) (index : Nat)
  | writeChannelEntry (index : Nat) (entry : ChannelWrite)
  | readNoticeControl (bank : Named BankSel) (index : Nat)
  | writeNoticeControl (index : Nat) (entry : NoticeEntryWrite)
  | readRouterSettings (bank : Named BankSel) (index : Nat)
  | writeRouterSettings (index : Nat) (entry : RouterWrite)
  | misfitEntry (table : Table) (index : Nat)
  | badTable (isWrite : Bool)
  | copyLiveToEdit
  | swap
  | cancelSwap
  | set (c : Named CounterId) (value : Int)
  | preset (c : Named CounterId) (value : Int)
  | armIndex (c : Named CounterId)
  | disarmIndex (c : Named CounterId)
  | start (c : Named CounterId)
  | stop (c : Named CounterId)
  | seek (c : Named CounterId) (index : Nat)
  | mode (c : Named CounterId) (m : Named CountMode)
  | misfit (c : Named CounterId)
  | enable (n : Nat)
  | disable (n : Nat)
  | quiet (n : Nat)
  | unquiet (n : Nat)
  | portRestart (n : Nat)
  | noticeHold (extra : Option Nat)
  | noticeUnhold (extra : Option Nat)
  | noticeClear (kind : Option Nat)
  | noticeOpen (lane : Option Nat)
  | noticeClose (lane : Option Nat)
  | statusActiveList (position : Nat)
  | statusChannel (n : Nat)
  | statusPort (n : Nat)
  | statusCounter (c : Named CounterId)
  | statusNotice (n : Nat)
  | save
  | restart
  | unnamed (what : UnnamedIn)
  deriving DecidableEq, Repr

end Sys2Proof
end

