-- ==== Sys2Proof/Decode.lean ====
section
/-! DEFINITION. The command that a word spells by the bits of spec/opcode_table.json: no row of the table gives bits, so
no word spells a command (log 25). -/

namespace Sys2Proof

/-- The command that the bits of a row spell: none, for every word. -/
def decodeTableWord (_nbits _w : Nat) : Option Instr := none

end Sys2Proof
end

