-- ==== Sys2Proof/Machine/Types.lean ====
section
/-! DEFINITION. The records, entries and messages the ZT832 keeps: what stands in its tables, in its lists and in
its transmit queues. Plain data, no behaviour. -/

namespace Sys2Proof.Machine

/-! ## Tables -/

/-- The successor field of a cue record (R3); the follow delay in ms. -/
inductive Successor
  | standbyNext (slot : CueSlot)
  | autofollow (slot : CueSlot) (delay : Nat)
  deriving DecidableEq, Repr

/-- A cue record (R2): ack timeout and go display in ms. -/
structure CueRecord where
  valid : Bool
  label : List Octet
  groups : List GroupNo
  ackPolicy : AckPolicy
  ackTimeout : Nat
  goPolicy : GoPolicy
  cueChannel : Option Chan
  interlock : Option ZoneNo
  goDisplay : Nat
  successor : Option Successor
  deriving DecidableEq, Repr

/-- A group (R8). -/
structure Group where
  valid : Bool
  ports : PortSet
  deriving DecidableEq, Repr

/-- An entry of a Position Cue List (R84). -/
structure PositionEntry where
  valid : Bool
  target : Int
  direction : StepDirection
  slot : CueSlot
  action : PositionAction
  deriving DecidableEq, Repr

/-- A zone (R90). -/
structure Zone where
  valid : Bool
  counter : CounterId
  lower : Int
  upper : Int
  group : Option GroupNo
  warn : Bool
  deriving DecidableEq, Repr

/-- The four banked tables of one bank (R101). `positions` is numbered as the table index of R85: 0–11 is M1's
list, 12–23 is M2's. -/
structure BankTables where
  cues : Vector CueRecord 256
  groups : Vector Group 24
  positions : Vector PositionEntry 24
  zones : Vector Zone 6
  deriving DecidableEq, Repr

/-- A key slot of a station profile (R117). -/
structure SlotConfig where
  channel : Option Chan
  mode : SlotMode
  action : KeyAction
  callAllowed : Bool
  deriving DecidableEq, Repr

/-- A station profile (R164). -/
structure Profile where
  enabled : Bool
  expected : ExpectedClass
  rights : Rights
  priority : Fin 4
  sidetone : Bool
  slots : Vector SlotConfig 4
  deriving DecidableEq, Repr

/-- A Channel Table entry (R113): idle release in s, call display in ms. -/
structure ChannelEntry where
  maxTalkers : Nat
  level : Nat
  preemption : Bool
  idleRelease : Nat
  callDisplay : Nat
  deriving DecidableEq, Repr

/-- The Router Settings (R119), both in ms. -/
structure RouterSettings where
  threshold : Nat
  holdoff : Nat
  deriving DecidableEq, Repr

/-- Notice Control, entries 1–18 (R189). -/
structure KindControl where
  enable : Bool
  lane : Lane
  deriving DecidableEq, Repr

/-- Notice Control, entries 19–22 (R189). -/
structure LaneControl where
  dest : Port
  isOpen : Bool
  mode : LaneMode
  deriving DecidableEq, Repr

/-- Notice Control (R189): the global hold, the 18 kinds and the four lanes. -/
structure NoticeControl where
  hold : Bool
  kinds : Vector KindControl 18
  lanes : Vector LaneControl 4
  deriving DecidableEq, Repr

/-- A Notice Control entry as READ_ENTRY returns it (R189). -/
inductive NoticeEntry
  | global (hold : Bool)
  | kind (k : KindControl)
  | lane (l : LaneControl)
  deriving DecidableEq, Repr

/-! ## Cue Engine -/

/-- The states of an active cue record (R16). -/
inductive CueState | standby | ready | held | going
  deriving DecidableEq, Repr

/-- What caused the standby of a record (R14, R19). -/
inductive Origin
  | desk (p : Port)
  | position (c : CounterId)
  | follow (predecessor : CueSlot)
  deriving DecidableEq, Repr

/-- An active cue record (R14). -/
structure ActiveCue where
  slot : CueSlot
  state : CueState
  prior : Option CueState
  targets : PortSet
  awaited : PortSet
  acked : PortSet
  absent : PortSet
  overdue : Bool
  unready : Bool
  origin : Origin
  ackDeadline : Option Time
  followDeadline : Option Time
  remaining : Option Time
  goDisplay : Option Time
  deriving DecidableEq, Repr

/-- The state field of a desk status message: a record's state, or its final state (R70). -/
inductive DeskState
  | inList (state : CueState)
  | done
  | cancelled
  deriving DecidableEq, Repr

/-- The six cue lamp states, lowest precedence first (R68). -/
inductive CueLamp | dark | standbySteady | standbyFlash | hold | warn | go
  deriving DecidableEq, Repr

/-! ## Motion counters -/

/-- Counter state (R76). -/
inductive CounterState | counting | overrange
  deriving DecidableEq, Repr

/-- Comparison state (R86). -/
inductive Comparison | stopped | running | suspended | exhausted
  deriving DecidableEq, Repr

/-- The levels of the signals A, B and Z of one counter. -/
structure Levels where
  a : Bool
  b : Bool
  z : Bool
  deriving DecidableEq, Repr

/-- A counter record (R76). -/
structure Counter where
  value : Int
  state : CounterState
  mode : CountMode
  ref : Levels
  preset : Int
  arm : Bool
  comparison : Comparison
  index : Nat
  deriving DecidableEq, Repr

/-! ## Talk and calls -/

/-- A talk entry (R120). -/
structure TalkEntry where
  port : Port
  slot : KeySlot
  priority : Fin 4
  latched : Bool
  pressTime : Option Time
  deriving DecidableEq, Repr

/-- The talker list, the wait queue and the idle timer of one channel (R120, R131). -/
structure ChannelTalk where
  talkers : List TalkEntry
  waiters : List TalkEntry
  idle : Option Time
  deriving DecidableEq, Repr

/-- The four talk lamp states (R134). -/
inductive TalkLamp | off | talking | waiting | denied
  deriving DecidableEq, Repr

/-- The receiving part of a call record while it flashes: calling port and display deadline (R139). -/
structure Flash where
  caller : Port
  deadline : Time
  deriving DecidableEq, Repr

/-- A call record (R139): `flash` is present while flashing is yes. -/
structure CallRecord where
  flash : Option Flash
  holdoff : Option Time
  deriving DecidableEq, Repr

/-- The talk and call lamps of a port as last derived for a frame (R134, R145, R184). -/
structure ShownLamps where
  talk : Vector TalkLamp 4
  call : Vector Bool 4
  deriving DecidableEq, Repr

/-! ## Line ports -/

/-- Port states (R157). -/
inductive PortState | disabled | down | probing | up | quiet | fault
  deriving DecidableEq, Repr

/-- An identification result (R157). -/
structure Ident where
  cls : StationClass
  keyCount : Nat
  serial : BitVec 32
  deriving DecidableEq, Repr

/-- A deferred change of port state (R168). -/
inductive Deferred | disable | restart
  deriving DecidableEq, Repr

/-- A port record (R157). -/
structure PortRecord where
  state : PortState
  lossCount : Nat
  ident : Option Ident
  asksSent : Nat
  askDeadline : Option Time
  keyRef : Option Keys
  deferred : Option Deferred
  deriving DecidableEq, Repr

/-- A receive assembly (R174): the octets stored so far, kind first. -/
inductive Assembly
  | empty
  | assembling (octets : List Octet)
  deriving DecidableEq, Repr

/-- How a frame interval is classed (R152). -/
inductive FrameClass | good | discarded | missing
  deriving DecidableEq, Repr

/-- A downstream frame on the line, octets 0–7 (R172). -/
abbrev DownFrame := Vector Octet 8

/-! ## Notices -/

/-- Cause of PORT_FAULT (R161, R162). -/
inductive FaultCause
  | classMismatch (reported : StationClass) (expected : ExpectedClass)
  | identTimeout
  deriving DecidableEq, Repr

/-- Cause of PORT_DOWN (R154, R167). -/
inductive DownCause | linkLoss | portRestart
  deriving DecidableEq, Repr

/-- Cause of MSG_ERROR (R175). -/
inductive MsgErrorCause | marker | length | check
  deriving DecidableEq, Repr

/-- The status codes of R180. -/
inductive Status
  | ok | denied | unknown | badTable | badIndex | badValue | badCue | noTargets | full | already | alreadyGoing
  | notStoodBy | notReady | nothingReady | held | notHeld | tooLate | zoneBlocked | swapPending | notPending
  | overrange | exhausted | busy | lockout
  deriving DecidableEq, Repr

/-- The origin in the detail of CUE_REFUSED (R45): for FOLLOW the predecessor may be left out. -/
inductive RefusedOrigin
  | position (c : CounterId)
  | follow (predecessor : Option CueSlot)
  deriving DecidableEq, Repr

/-- Cause of TALK_PREEMPTED (R115, R125). -/
inductive PreemptCause
  | priority (requester : Port)
  | channelWrite
  deriving DecidableEq, Repr

/-- Outcome of TALK_PREEMPTED (R115, R125). -/
inductive PreemptOutcome | queued | dropped
  deriving DecidableEq, Repr

/-- Cause of BANK_SWAPPED (R109). -/
inductive SwapCause | request | drain
  deriving DecidableEq, Repr

/-- Detail of STARTED (R196, R199). -/
inductive StartCause | loaded | defaults | restart
  deriving DecidableEq, Repr

/-- The eighteen notice kinds with the detail each carries (11_notices.md, 11.1), in kind order. -/
inductive NoticeDetail
  | portUp (p : Port) (cls : StationClass) (keyCount : Nat)
  | portDown (p : Port) (cause : DownCause)
  | portFault (p : Port) (cause : FaultCause)
  | msgError (p : Port) (cause : MsgErrorCause)
  | requestDropped (p : Port) (kind tag : Octet)
  | targetAbsent (slot : CueSlot) (absent : Nat)
  | ackOverdue (slot : CueSlot) (awaited : Nat)
  | cueRefused (slot : CueSlot) (status : Status) (origin : RefusedOrigin)
  | positionExhausted (c : CounterId) (length : Nat)
  | counterOverrange (c : CounterId) (bound : Int)
  | counterReset (c : CounterId) (before preset : Int)
  | zoneChange (z : ZoneNo) (occupied : Bool) (value : Int)
  | idleRelease (c : Chan) (removed : Nat)
  | talkPreempted (c : Chan) (p : Port) (cause : PreemptCause) (outcome : PreemptOutcome)
  | bankSwapped (live : Bank) (cause : SwapCause)
  | saveDone (ok : Bool)
  | started (cause : StartCause)
  | laneLost (l : Lane) (p : Port)
  deriving DecidableEq, Repr

/-- A notice record (R187). -/
structure NoticeRecord where
  pending : Bool
  count : Nat
  detail : Option NoticeDetail
  sent : Bool
  deriving DecidableEq, Repr

/-! ## Messages -/

/-- The per-record fields of STATUS ACTIVE_LIST (R184); times are left until the deadline. -/
structure ActiveDetail where
  slot : CueSlot
  state : CueState
  prior : Option CueState
  awaited : PortSet
  acked : PortSet
  absent : PortSet
  overdue : Bool
  unready : Bool
  origin : Origin
  ackLeft : Option Time
  followLeft : Option Time
  remaining : Option Time
  goDisplayLeft : Option Time
  deriving DecidableEq, Repr

/-- A talk entry as STATUS CHANNEL reports it (R184). -/
structure TalkView where
  port : Port
  slot : KeySlot
  priority : Fin 4
  latched : Bool
  deriving DecidableEq, Repr

/-- A call record as STATUS PORT reports it (R184). -/
structure CallView where
  caller : Option Port
  displayLeft : Option Time
  holdoffLeft : Option Time
  deriving DecidableEq, Repr

/-- STATUS PORT (R184). -/
structure PortView where
  state : PortState
  lossCount : Nat
  ident : Option Ident
  asksSent : Nat
  askLeft : Option Time
  deferred : Option Deferred
  cueLamp : CueLamp
  lamps : ShownLamps
  calls : List CallView
  queued : Nat
  deriving DecidableEq, Repr

/-- STATUS COUNTER (R76, R184). -/
structure CounterView where
  value : Int
  state : CounterState
  mode : CountMode
  preset : Int
  arm : Bool
  comparison : Comparison
  index : Nat
  length : Nat
  zones : List (ZoneNo × Bool)
  deriving DecidableEq, Repr

/-- The data of a reply after its status code (R179). -/
inductive ReplyData
  | nothing
  | cue (slot : CueSlot) (state : CueState)
  | slot (slot : CueSlot)
  | bank (live : Bank) (pending : Bool)
  | counter (value : Int) (state : CounterState) (comparison : Comparison) (index : Nat)
  | portState (state : PortState)
  | cueEntry (r : CueRecord)
  | groupEntry (g : Group)
  | positionEntry (e : PositionEntry)
  | zoneEntry (z : Zone)
  | profileEntry (f : Profile)
  | channelEntry (e : ChannelEntry)
  | noticeEntry (e : NoticeEntry)
  | routerEntry (r : RouterSettings)
  | activeList (live : Bank) (pending : Bool) (records : List (CueSlot × CueState)) (detail : Option ActiveDetail)
  | channelStatus (e : ChannelEntry) (talkers waiters : List TalkView) (idleLeft : Option Time)
  | portStatus (v : PortView)
  | counterStatus (v : CounterView)
  | noticeStatus (r : NoticeRecord) (enable : Bool) (lane : Lane) (hold : Bool)
  | unknownKind (kind : Octet)
  deriving DecidableEq, Repr

/-- The fields of a desk status message but its gap mark (R70, R71). -/
inductive DeskBody
  | cue (slot : CueSlot) (label : List Octet) (state : DeskState) (awaited acked absent : Nat) (overdue unready : Bool)
      (origin : Origin)
  | bank (live : Bank)
  deriving DecidableEq, Repr

/-- A notice message (R190). -/
structure NoticeBody where
  kind : NoticeKind
  lane : Lane
  count : Nat
  detail : Option NoticeDetail
  deriving DecidableEq, Repr

/-- What an entry of a transmit queue holds (R181). -/
inductive TxContent
  | reserved
  | reply (kind tag : Octet) (status : Status) (data : ReplyData)
  | notice (n : NoticeBody)
  | desk (body : DeskBody) (gap : Bool)
  | identAsk (n : Nat)
  deriving DecidableEq, Repr

/-- What waits for the last octet of a reply: nothing, the port's deferred action (R168), or RESTART (R185). -/
inductive Waits | nothing | deferred | restart
  deriving DecidableEq, Repr

/-- An entry of a transmit queue (R181): `sent` octets of it have gone out. -/
structure TxEntry where
  content : TxContent
  sent : Nat
  waits : Waits
  deriving DecidableEq, Repr

/-- An owner's answer to a request: status, data, and what waits for the reply. -/
structure Answer where
  status : Status
  data : ReplyData
  waits : Waits
  deriving DecidableEq, Repr

/-! ## Start-up Loader -/

/-- Loader state (R195). -/
inductive LoaderState | loading | idle | saving
  deriving DecidableEq, Repr

/-- A copy of the live banked tables and the four single tables (R197). -/
structure Snapshot where
  banked : BankTables
  profiles : Vector Profile 32
  channels : Vector ChannelEntry 16
  noticeControl : NoticeControl
  router : RouterSettings
  deriving DecidableEq, Repr

/-- The memory write a running save is waiting on once the marker has been overwritten (R197, R198): the tables (with the
number of writes already answered), the image check, the marker. -/
inductive SaveStage
  | tables (answered : Nat)
  | imageCheck
  | marker
  deriving DecidableEq, Repr

/-- A running save (R195, R197). -/
structure Save where
  snapshot : Snapshot
  stage : SaveStage
  deriving DecidableEq, Repr

/-- A valid stored image: entries as written, each to be tested by its own table's write rule at the load (R195). -/
structure StoredImage where
  cues : Vector CueWrite 256
  groups : Vector GroupWrite 24
  positions : Vector PositionWrite 24
  zones : Vector ZoneWrite 6
  profiles : Vector ProfileWrite 32
  channels : Vector ChannelWrite 16
  noticeControl : Vector NoticeEntryWrite 23
  router : RouterWrite
  deriving DecidableEq, Repr

end Sys2Proof.Machine
end

