-- ==== Sys2Proof/Config.lean ====
section
/-! DEFINITION. What the manual leaves to the part and what it leaves open: uninterpreted constants. None has a body,
so no proof can rest on a value of one. -/

namespace Sys2Proof.Config

/-- What the payload of a request asks for, for the kinds whose payload layout the manual does not give
(COUNTER_CONTROL, PORT_CONTROL, NOTICE_CONTROL, STATUS): kind octet, payload. `none`: the payload does not have the
kind's form (R178). Log 4. -/
opaque payloadRequest : Octet → List Octet → Option Request

/-- The fields of a READ_ENTRY payload: table number, bank, index; the manual gives their order, not their layout
(R178). `none`: the payload does not have the form. Log 4. -/
opaque readFields : List Octet → Option (Nat × Named BankSel × Nat)

/-- The fields of a WRITE_ENTRY payload: table number, index, and the octets of the entry (R178). `none`: the payload
holds no table and index. Log 4. -/
opaque writeFields : List Octet → Option (Nat × Nat × List Octet)

/-! The entry that the octets of a WRITE_ENTRY hold, table by table; `none`: they have not the length the table's entry
takes (R183). Log 4. -/

opaque cueEntry : List Octet → Option CueWrite
opaque groupEntry : List Octet → Option GroupWrite
opaque positionEntry : List Octet → Option PositionWrite
opaque zoneEntry : List Octet → Option ZoneWrite
opaque profileEntry : List Octet → Option ProfileWrite
opaque channelEntry : List Octet → Option ChannelWrite

/-- The index chooses among the three entry forms of Notice Control (R189). -/
opaque noticeEntry : Nat → List Octet → Option NoticeEntryWrite

opaque routerEntry : List Octet → Option RouterWrite

/-- The octets of a reply's data after the status code, whose layout the manual does not give (R179). Log 4. -/
opaque dataOctets : Machine.ReplyData → List Octet

/-- The payload octets of a notice (R190). Log 4. -/
opaque noticeOctets : Machine.NoticeBody → List Octet

/-- The payload octets of a desk status message: body and gap mark (R70, R71). Log 4. -/
opaque deskOctets : Machine.DeskBody → Bool → List Octet

/-- FREE VALUE: whether the memory answers the first write of a save (R197, log 42) or the write that a RESTART finds in
progress (R198, log 8); a fresh one for each value of `State.fresh`. -/
opaque memoryAnswers : Nat → Bool

/-- How many memory writes a save makes for the tables (R198; the placement in the memory is the part's own, R195).
Log 9. -/
opaque tableWrites : Nat

/-- FREE VALUE: what A and B rising together yield in UP_DOWN (R77 names a step for each rise alone): some up, some
down, or no step; a fresh one for each value of `State.fresh`. Log 21. -/
opaque bothRise : Nat → Option Bool

end Sys2Proof.Config
end

