-- ==== Sys2Proof/Machine/Defaults.lean ====
section
/-! DEFINITION. Cleared records, default entries and power-on values of the tables and records (R4, R8, R84, R90,
R113, R117, R119, R139, R187, R189, R196, R99, R170). -/

namespace Sys2Proof

/-- The set of no ports. -/
def PortSet.none : PortSet := ⟨0⟩

end Sys2Proof

namespace Sys2Proof.Machine

/-- `n` milliseconds in frame intervals of 0.125 ms (spec/00_scope.md, Time). -/
def ms (n : Nat) : Time := 8 * n

/-- `n` seconds in frame intervals. -/
def seconds (n : Nat) : Time := 8000 * n

/-- R4: a cleared cue record. -/
def CueRecord.cleared : CueRecord :=
  { valid := false, label := [], groups := [], ackPolicy := .all, ackTimeout := 0, goPolicy := .readyOnly,
    cueChannel := .none, interlock := .none, goDisplay := 1000, successor := .none }

/-- R8: a cleared group. -/
def Group.cleared : Group := { valid := false, ports := PortSet.none }

/-- R84: a cleared position entry. -/
def PositionEntry.cleared : PositionEntry :=
  { valid := false, target := 0, direction := .either, slot := 0, action := .standby }

/-- R90: a cleared zone. -/
def Zone.cleared : Zone :=
  { valid := false, counter := .m1, lower := 0, upper := 0, group := .none, warn := false }

/-- A bank with every entry cleared. -/
def BankTables.cleared : BankTables :=
  { cues := Vector.replicate 256 CueRecord.cleared
    groups := Vector.replicate 24 Group.cleared
    positions := Vector.replicate 24 PositionEntry.cleared
    zones := Vector.replicate 6 Zone.cleared }

/-- R117: a cleared key slot. -/
def SlotConfig.cleared : SlotConfig :=
  { channel := .none, mode := .listen, action := .momentary, callAllowed := false }

/-- R117, R196: K1 on C1 in TALK_LISTEN, AUTO, call allowed; K2–K4 cleared. -/
def SlotConfig.defaults : Vector SlotConfig 4 :=
  (Vector.replicate 4 SlotConfig.cleared).set 0
    { channel := some 0, mode := .talkListen, action := .auto, callAllowed := true }

/-- R196: the default profile of P1–P31. -/
def Profile.plain : Profile :=
  { enabled := true, expected := .any, rights := ⟨false, false, false⟩, priority := 1, sidetone := false,
    slots := SlotConfig.defaults }

/-- R196: the default profile of P0. -/
def Profile.ofP0 : Profile := { Profile.plain with rights := ⟨true, true, true⟩, priority := 3 }

/-- R196: the default profile of port p. -/
def Profile.default (p : Port) : Profile := if p = 0 then Profile.ofP0 else Profile.plain

/-- R196: the default Station Profiles. -/
def Profile.defaults : Vector Profile 32 := (Vector.replicate 32 Profile.plain).set 0 Profile.ofP0

/-- R113: a default channel entry. -/
def ChannelEntry.default : ChannelEntry :=
  { maxTalkers := 4, level := 16, preemption := true, idleRelease := 0, callDisplay := 3000 }

/-- R119: the default Router Settings. -/
def RouterSettings.default : RouterSettings := { threshold := 400, holdoff := 500 }

/-- R189: the defaults of Notice Control. -/
def NoticeControl.default : NoticeControl :=
  { hold := false
    kinds := Vector.replicate 18 { enable := true, lane := 0 }
    lanes := (Vector.replicate 4 { dest := 0, isOpen := false, mode := .autoClear }).set 0
      { dest := 0, isOpen := true, mode := .autoClear } }

/-- R187: an empty notice record with no detail yet. -/
def NoticeRecord.empty : NoticeRecord := { pending := false, count := 0, detail := .none, sent := false }

/-- R99: a counter record at power-on. The input reference is taken at the end of loading (R83); until then it
stands at the low levels, as the pins do (log 7). -/
def Counter.powerOn : Counter :=
  { value := 0, state := .counting, mode := .quadrature, ref := ⟨false, false, false⟩, preset := 0, arm := false,
    comparison := .stopped, index := 0 }

/-- R170: a port record at power-on. -/
def PortRecord.powerOn : PortRecord :=
  { state := .down, lossCount := 0, ident := .none, asksSent := 0, askDeadline := .none, keyRef := .none,
    deferred := .none }

/-- R138: a channel's lists and timer at power-on. -/
def ChannelTalk.powerOn : ChannelTalk := { talkers := [], waiters := [], idle := .none }

/-- R139: a cleared call record. -/
def CallRecord.cleared : CallRecord := { flash := .none, holdoff := .none }

/-- Every talk lamp and call lamp OFF. -/
def ShownLamps.off : ShownLamps := { talk := Vector.replicate 4 .off, call := Vector.replicate 4 false }

end Sys2Proof.Machine
end

