-- ==== Sys2Proof/Machine/State.lean ====
section
/-! DEFINITION. The state of the ZT832, as plain data: every piece of state the spec names (INVENTORY.md, State),
the commands that wait, and the state right after power-on reset. -/

namespace Sys2Proof.Machine

structure State where
  /-- The commands that wait, first in, first out (log 1). -/
  pending : List Instr
  /-- The part has power (R195, R198; log 10). -/
  powered : Bool
  /-- The show clock, in frame intervals of 0.125 ms (spec/00_scope.md, Time; log 5). -/
  clock : Time
  /-- The model's own: how many free values have been drawn (log 8). -/
  fresh : Nat
  /-- Port records (R157). -/
  ports : Vector PortRecord 32
  /-- Receive assemblies (R174). -/
  assemblies : Vector Assembly 32
  /-- Transmit queues, head first (R181). -/
  queues : Vector (List TxEntry) 32
  /-- Desk status gap flags (R74). -/
  gaps : Vector Bool 32
  /-- The restart-pending mark with the requesting port (R185). -/
  restartBy : Option Port
  /-- Station Profiles (R164). -/
  profiles : Vector Profile 32
  /-- The banked tables of bank A (R101). -/
  bankA : BankTables
  /-- The banked tables of bank B (R101). -/
  bankB : BankTables
  /-- The live selector (R101). -/
  live : Bank
  /-- The swap-pending flag (R101). -/
  swapPending : Bool
  /-- The Active Cue List, oldest first (R13). -/
  active : List ActiveCue
  /-- The counter records of M1 and M2 (R76). -/
  counters : Vector Counter 2
  /-- The present levels on the input pins of M1 and M2 (R83). -/
  pins : Vector Levels 2
  /-- Zone occupancy (R92). -/
  occupied : Vector Bool 6
  /-- The Channel Table (R113). -/
  channels : Vector ChannelEntry 16
  /-- The Router Settings (R119). -/
  router : RouterSettings
  /-- Talker lists, wait queues and idle timers (R120, R131). -/
  talk : Vector ChannelTalk 16
  /-- DENIED periods (R135). -/
  denied : Vector (Vector (Option Time) 4) 32
  /-- Call records (R139). -/
  calls : Vector (Vector CallRecord 4) 32
  /-- Latest accepted samples; `none` is void (R147). -/
  samples : Vector (Option Sample) 32
  /-- Talk and call lamps as last derived (R134, R145, R184). -/
  shown : Vector ShownLamps 32
  /-- The downstream frame on each line (R156). -/
  line : Vector (Option DownFrame) 32
  /-- Notice records (R187). -/
  notices : Vector NoticeRecord 18
  /-- Notice Control (R189). -/
  noticeControl : NoticeControl
  /-- Loader state (R195). -/
  loader : LoaderState
  /-- The running save (R195, R197). -/
  save : Option Save
  /-- The image in the external serial memory: `none` when no valid image stands there (R195; log 6). -/
  store : Option StoredImage
  deriving DecidableEq, Repr

/-- The spec stops the machine nowhere: a refused request is answered, a bad frame is counted (R180, R152). So no
command raises a fault and the type has no constructor. -/
inductive Fault
  deriving DecidableEq, Repr

/-- Refusals of the model. -/
inductive Refusal
  /-- Raised only by an arm of exec that has no meaning yet. Safe: the model stops where the part goes on. -/
  | notModelled (mnemonic : String)
  deriving DecidableEq, Repr

/-- What a command answers. -/
abbrev Result := Host.Outcome State Fault Refusal

/-- The machine right after power-on reset: every piece of state at the value its own rule gives (R195), the loader
LOADING, no command waiting. -/
def State.reset : State :=
  { pending := []
    powered := true
    clock := 0
    fresh := 0
    ports := Vector.replicate 32 PortRecord.powerOn
    assemblies := Vector.replicate 32 Assembly.empty
    queues := Vector.replicate 32 []
    gaps := Vector.replicate 32 false
    restartBy := none
    profiles := Profile.defaults
    bankA := BankTables.cleared
    bankB := BankTables.cleared
    live := Bank.a
    swapPending := false
    active := []
    counters := Vector.replicate 2 Counter.powerOn
    pins := Vector.replicate 2 ⟨false, false, false⟩
    occupied := Vector.replicate 6 false
    channels := Vector.replicate 16 ChannelEntry.default
    router := RouterSettings.default
    talk := Vector.replicate 16 ChannelTalk.powerOn
    denied := Vector.replicate 32 (Vector.replicate 4 none)
    calls := Vector.replicate 32 (Vector.replicate 4 CallRecord.cleared)
    samples := Vector.replicate 32 none
    shown := Vector.replicate 32 ShownLamps.off
    line := Vector.replicate 32 none
    notices := Vector.replicate 18 NoticeRecord.empty
    noticeControl := NoticeControl.default
    loader := LoaderState.loading
    save := none
    store := none }

end Sys2Proof.Machine
end

