-- ==== Sys2Proof/Machine/Ops.lean ====
section
/-! DEFINITION. Named reads and updates of the state, sets of ports, and the two views of the banked tables. -/

namespace Sys2Proof

/-! ## Sets of ports and fixed tables -/

/-- Membership of a port. -/
def PortSet.mem (x : PortSet) (p : Port) : Bool := x.bits.getLsbD p.val

/-- The set of one port. -/
def PortSet.single (p : Port) : PortSet := ⟨BitVec.twoPow 32 p.val⟩

def PortSet.union (x y : PortSet) : PortSet := ⟨x.bits ||| y.bits⟩

def PortSet.inter (x y : PortSet) : PortSet := ⟨x.bits &&& y.bits⟩

def PortSet.diff (x y : PortSet) : PortSet := ⟨x.bits &&& ~~~y.bits⟩

def PortSet.insert (x : PortSet) (p : Port) : PortSet := x.union (PortSet.single p)

def PortSet.erase (x : PortSet) (p : Port) : PortSet := x.diff (PortSet.single p)

/-- Every port, P0 first. -/
def allPorts : List Port := List.finRange 32

/-- The number of ports in a set. -/
def PortSet.count (x : PortSet) : Nat := allPorts.countP x.mem

def PortSet.isEmpty (x : PortSet) : Bool := x.bits == 0

/-- The set of the ports that pass a test. -/
def PortSet.ofTest (f : Port → Bool) : PortSet :=
  allPorts.foldl (fun x p => if f p then x.insert p else x) PortSet.none

/-- The bank that is not live is the edit bank (R101). -/
def Bank.other : Bank → Bank
  | .a => .b
  | .b => .a

end Sys2Proof

namespace Sys2Proof.Machine

/-- Replace the entry of a fixed table at one place. -/
def put {α : Type} {n : Nat} (v : Vector α n) (i : Fin n) (x : α) : Vector α n := v.set i.val x i.isLt

/-- Apply a function to every entry of a fixed table, with its number. -/
def mapTable {α β : Type} {n : Nat} (f : Fin n → α → β) (v : Vector α n) : Vector β n :=
  ⟨((List.finRange n).map fun i => f i v[i]).toArray, by simp⟩

/-! ## Named updates of the state: one home for each kind of write -/

def State.setPort (s : State) (p : Port) (r : PortRecord) : State := { s with ports := put s.ports p r }

def State.setAssembly (s : State) (p : Port) (a : Assembly) : State := { s with assemblies := put s.assemblies p a }

def State.setQueue (s : State) (p : Port) (q : List TxEntry) : State := { s with queues := put s.queues p q }

def State.setGap (s : State) (p : Port) (g : Bool) : State := { s with gaps := put s.gaps p g }

def State.setProfile (s : State) (p : Port) (f : Profile) : State := { s with profiles := put s.profiles p f }

def State.setActive (s : State) (l : List ActiveCue) : State := { s with active := l }

def State.counterIdx : CounterId → Fin 2
  | .m1 => 0
  | .m2 => 1

def State.setCounter (s : State) (c : CounterId) (r : Counter) : State :=
  { s with counters := put s.counters (State.counterIdx c) r }

def State.setPins (s : State) (c : CounterId) (l : Levels) : State :=
  { s with pins := put s.pins (State.counterIdx c) l }

def State.setOccupied (s : State) (z : ZoneNo) (o : Bool) : State := { s with occupied := put s.occupied z o }

def State.setTalk (s : State) (c : Chan) (t : ChannelTalk) : State := { s with talk := put s.talk c t }

def State.setDenied (s : State) (p : Port) (k : KeySlot) (d : Option Time) : State :=
  { s with denied := put s.denied p (put s.denied[p] k d) }

def State.setCall (s : State) (p : Port) (k : KeySlot) (r : CallRecord) : State :=
  { s with calls := put s.calls p (put s.calls[p] k r) }

def State.setSample (s : State) (p : Port) (x : Option Sample) : State := { s with samples := put s.samples p x }

def State.setShown (s : State) (p : Port) (x : ShownLamps) : State := { s with shown := put s.shown p x }

def State.setLine (s : State) (p : Port) (f : Option DownFrame) : State := { s with line := put s.line p f }

def State.setNotice (s : State) (k : NoticeKind) (r : NoticeRecord) : State := { s with notices := put s.notices k r }

/-! ## Named reads -/

def State.counter (s : State) (c : CounterId) : Counter := s.counters[State.counterIdx c]

def State.pin (s : State) (c : CounterId) : Levels := s.pins[State.counterIdx c]

def State.bank (s : State) : Bank → BankTables
  | .a => s.bankA
  | .b => s.bankB

/-- The tables that serve traffic (R101). -/
def State.liveTables (s : State) : BankTables := s.bank s.live

/-- The tables that take writes (R101). -/
def State.editTables (s : State) : BankTables := s.bank s.live.other

/-- Replace the edit bank's tables; the live bank's stand (R103). -/
def State.setEdit (s : State) (t : BankTables) : State :=
  match s.live with
  | .a => { s with bankB := t }
  | .b => { s with bankA := t }

/-- LIVE and EDIT name banks through the selector at the moment of the read (R102). -/
def State.selected (s : State) : BankSel → BankTables
  | .live => s.liveTables
  | .edit => s.editTables

/-- The live cue record of a slot (R12). -/
def State.cue (s : State) (slot : CueSlot) : CueRecord := s.liveTables.cues[slot]

/-- R15: a port is present while its state is UP or QUIET. -/
def PortState.present : PortState → Bool
  | .up => true
  | .quiet => true
  | _ => false

def State.present (s : State) (p : Port) : Bool := s.ports[p].state.present

/-- The present ports as a set. -/
def State.presentSet (s : State) : PortSet := PortSet.ofTest s.present

/-- The record of a slot in the Active Cue List (R13: at most one). -/
def State.findCue (s : State) (slot : CueSlot) : Option ActiveCue := s.active.find? (fun r => r.slot == slot)

/-- Replace the record of a slot, in its place. -/
def State.putCue (s : State) (r : ActiveCue) : State :=
  s.setActive (s.active.map fun x => if x.slot == r.slot then r else x)

/-- Take the record of a slot out of the list; the records after it close up (R13). -/
def State.dropCue (s : State) (slot : CueSlot) : State := s.setActive (s.active.filter fun x => x.slot != slot)

/-- The time left until a deadline (R184). -/
def State.left (s : State) (d : Time) : Time := d - s.clock

/-- A deadline has been reached by the show clock (spec/00_scope.md, Time). -/
def State.reached (s : State) (d : Option Time) : Bool :=
  match d with
  | some t => decide (t ≤ s.clock)
  | none => false

end Sys2Proof.Machine
end

