-- ==== Sys2Proof/Machine/Operands.lean ====
section
/-! DEFINITION. The operands of requests and stored entries: the tests each table's write rule makes (R5, R9, R85,
R91, R114, R118, R119, R165, R189), and the entry a stored image holds for each record (R197). -/

namespace Sys2Proof.Machine

/-- A number 1–k as an index from 0, or none outside. -/
def oneBased (k n : Nat) : Option (Fin k) :=
  if h : 1 ≤ n ∧ n ≤ k then some ⟨n - 1, by omega⟩ else none

/-- A number 0 to k-1 as an index, or none outside. -/
def zeroBased (k n : Nat) : Option (Fin k) :=
  if h : n < k then some ⟨n, h⟩ else none

/-- An optional number 1–k: absent is allowed, outside is not. -/
def optOneBased (k : Nat) : Option Nat → Option (Option (Fin k))
  | none => some none
  | some n => (oneBased k n).map some

/-- A list of numbers 1–k, or none when one lies outside. -/
def listOneBased (k : Nat) : List Nat → Option (List (Fin k))
  | [] => some []
  | n :: rest => (oneBased k n).bind fun i => (listOneBased k rest).map fun l => i :: l

/-- Keep a value when a test holds. -/
def guarded {α : Type} (test : Bool) (x : α) : Option α := if test then some x else none

/-! ## Cue Table and Group Table -/

/-- R3, R5: the successor field of a record at slot `own`. -/
def checkSuccessor (own : CueSlot) : Option SuccessorWrite → Option (Option Successor)
  | none => some none
  | some w =>
    (zeroBased 256 w.slot).bind fun t =>
      if t = own then none
      else match w.kind, w.delay with
        | some .standbyNext, none => some (some (.standbyNext t))
        | some .autofollow, some d => guarded (decide (d ≤ 600000)) (some (.autofollow t d))
        | _, _ => none

/-- R2, R5: a label has 1–8 characters of octet value 32–126. -/
def labelOk (l : List Octet) : Bool :=
  decide (1 ≤ l.length ∧ l.length ≤ 8) && l.all fun c => decide (32 ≤ c.toNat ∧ c.toNat ≤ 126)

/-- R5: an ack timeout of 0 or 500–60,000 ms. -/
def ackTimeoutOk (t : Nat) : Bool := decide (t = 0 ∨ (500 ≤ t ∧ t ≤ 60000))

/-- R5, R6: the record a write puts at slot `own`, or none for BAD_VALUE. With valid no, nothing else is tested. -/
def checkCue (own : CueSlot) (w : CueWrite) : Option CueRecord :=
  match w.valid with
  | none => none
  | some false => some CueRecord.cleared
  | some true => do
    let groups ← listOneBased 24 w.groups
    let policy ← w.ackPolicy
    let goPolicy ← w.goPolicy
    let channel ← optOneBased 16 w.cueChannel
    let interlock ← optOneBased 6 w.interlock
    let successor ← checkSuccessor own w.successor
    guarded
      (labelOk w.label && decide (1 ≤ groups.length ∧ groups.length ≤ 4) && decide groups.Nodup
        && ackTimeoutOk w.ackTimeout && decide (100 ≤ w.goDisplay ∧ w.goDisplay ≤ 5000))
      { valid := true, label := w.label, groups := groups, ackPolicy := policy, ackTimeout := w.ackTimeout,
        goPolicy := goPolicy, cueChannel := channel, interlock := interlock, goDisplay := w.goDisplay,
        successor := successor }

/-- R9: the group a write puts in place; valid no stores an empty set. -/
def checkGroup (w : GroupWrite) : Option Group :=
  match w.valid with
  | none => none
  | some false => some Group.cleared
  | some true => some { valid := true, ports := w.ports }

/-! ## Position Cue Lists and Zone Table -/

/-- R76, R95: −999,999 to +999,999. -/
def inRange (v : Int) : Bool := decide (-999999 ≤ v ∧ v ≤ 999999)

/-- R85: the entry a write puts in place, or none for BAD_VALUE. -/
def checkPosition (w : PositionWrite) : Option PositionEntry :=
  match w.valid with
  | none => none
  | some false => some PositionEntry.cleared
  | some true => do
    let direction ← w.direction
    let slot ← zeroBased 256 w.slot
    let action ← w.action
    guarded (inRange w.target)
      { valid := true, target := w.target, direction := direction, slot := slot, action := action }

/-- R91: the zone a write puts in place, or none for BAD_VALUE. -/
def checkZone (w : ZoneWrite) : Option Zone :=
  match w.valid with
  | none => none
  | some false => some Zone.cleared
  | some true => do
    let counter ← w.counter
    let group ← optOneBased 24 w.group
    let warn ← w.warn
    guarded (inRange w.lower && inRange w.upper && decide (w.lower ≤ w.upper))
      { valid := true, counter := counter, lower := w.lower, upper := w.upper, group := group, warn := warn }

/-! ## Single tables -/

/-- R118: one key slot. -/
def checkSlot (w : SlotWrite) : Option SlotConfig := do
  let channel ← optOneBased 16 w.channel
  let mode ← w.mode
  let action ← w.action
  let callAllowed ← w.callAllowed
  some { channel := channel, mode := mode, action := action, callAllowed := callAllowed }

/-- R118: two slots of one profile naming the same channel give BAD_VALUE. -/
def channelsDistinct (v : Vector SlotConfig 4) : Bool :=
  decide (v.toList.filterMap SlotConfig.channel).Nodup

/-- R165 test 2: the profile a write puts in place, or none for BAD_VALUE. -/
def checkProfile (w : ProfileWrite) : Option Profile := do
  let enabled ← w.enabled
  let expected ← w.expected
  let rights ← w.rights
  let priority ← zeroBased 4 w.priority
  let sidetone ← w.sidetone
  let k1 ← checkSlot w.slots[0]
  let k2 ← checkSlot w.slots[1]
  let k3 ← checkSlot w.slots[2]
  let k4 ← checkSlot w.slots[3]
  guarded (channelsDistinct #v[k1, k2, k3, k4])
    { enabled := enabled, expected := expected, rights := rights, priority := priority, sidetone := sidetone,
      slots := #v[k1, k2, k3, k4] }

/-- R114: the channel entry a write puts in place, or none for BAD_VALUE. -/
def checkChannel (w : ChannelWrite) : Option ChannelEntry := do
  let preemption ← w.preemption
  guarded
    (decide (1 ≤ w.maxTalkers ∧ w.maxTalkers ≤ 4) && decide (w.level ≤ 16)
      && decide (w.idleRelease = 0 ∨ (10 ≤ w.idleRelease ∧ w.idleRelease ≤ 3600))
      && decide (500 ≤ w.callDisplay ∧ w.callDisplay ≤ 10000))
    { maxTalkers := w.maxTalkers, level := w.level, preemption := preemption, idleRelease := w.idleRelease,
      callDisplay := w.callDisplay }

/-- R119: the Router Settings a write puts in place, or none for BAD_VALUE. -/
def checkRouter (w : RouterWrite) : Option RouterSettings :=
  guarded (decide (150 ≤ w.threshold ∧ w.threshold ≤ 1000) && decide (w.holdoff ≤ 2000))
    { threshold := w.threshold, holdoff := w.holdoff }

/-- The place a Notice Control index names (R189). -/
inductive NoticePlace
  | global
  | kind (k : NoticeKind)
  | lane (l : Lane)
  deriving DecidableEq, Repr

/-- R189: index 0 is the global entry, 1–18 the kinds, 19–22 the lanes L0–L3; above 22 none. -/
def noticePlace (i : Nat) : Option NoticePlace :=
  if i = 0 then some .global
  else if h : i ≤ 18 then some (.kind ⟨i - 1, by omega⟩)
  else if h : i ≤ 22 then some (.lane ⟨i - 19, by omega⟩)
  else none

/-- R183: the index passes the table's own rule (R5, R9, R85, R91, R114, R119, R165, R189). -/
def tableHasIndex (i : Nat) : Table → Bool
  | .cueTable => (zeroBased 256 i).isSome
  | .groupTable => (oneBased 24 i).isSome
  | .positionLists => (zeroBased 24 i).isSome
  | .zoneTable => (oneBased 6 i).isSome
  | .profiles => (zeroBased 32 i).isSome
  | .channelTable => (oneBased 16 i).isSome
  | .noticeControl => (noticePlace i).isSome
  | .routerSettings => (zeroBased 1 i).isSome

/-- R189: Notice Control with an entry written at a place, or none for BAD_VALUE (an entry of another form has
another length, R178). -/
def writeNoticeEntry (c : NoticeControl) : NoticePlace → NoticeEntryWrite → Option NoticeControl
  | .global, .global hold => hold.map fun h => { c with hold := h }
  | .kind k, .kind enable lane =>
    enable.bind fun e => (zeroBased 4 lane).map fun l => { c with kinds := put c.kinds k { enable := e, lane := l } }
  | .lane l, .lane dest isOpen mode =>
    (zeroBased 32 dest).bind fun d => isOpen.bind fun o => mode.map fun m =>
      { c with lanes := put c.lanes l { dest := d, isOpen := o, mode := m } }
  | _, _ => none

/-- R189: the entry at a place. -/
def readNoticeEntry (c : NoticeControl) : NoticePlace → NoticeEntry
  | .global => .global c.hold
  | .kind k => .kind c.kinds[k]
  | .lane l => .lane c.lanes[l]

/-! ## What a stored image holds (R195, R197): each entry in the form its own write takes -/

def Successor.toWrite : Successor → SuccessorWrite
  | .standbyNext t => { kind := some .standbyNext, slot := t.val, delay := none }
  | .autofollow t d => { kind := some .autofollow, slot := t.val, delay := some d }

def CueRecord.toWrite (r : CueRecord) : CueWrite :=
  { valid := some r.valid, label := r.label, groups := r.groups.map (·.val + 1), ackPolicy := some r.ackPolicy,
    ackTimeout := r.ackTimeout, goPolicy := some r.goPolicy, cueChannel := r.cueChannel.map (·.val + 1),
    interlock := r.interlock.map (·.val + 1), goDisplay := r.goDisplay, successor := r.successor.map Successor.toWrite }

def Group.toWrite (g : Group) : GroupWrite := { valid := some g.valid, ports := g.ports }

def PositionEntry.toWrite (e : PositionEntry) : PositionWrite :=
  { valid := some e.valid, target := e.target, direction := some e.direction, slot := e.slot.val,
    action := some e.action }

def Zone.toWrite (z : Zone) : ZoneWrite :=
  { valid := some z.valid, counter := some z.counter, lower := z.lower, upper := z.upper,
    group := z.group.map (·.val + 1), warn := some z.warn }

def SlotConfig.toWrite (k : SlotConfig) : SlotWrite :=
  { channel := k.channel.map (·.val + 1), mode := some k.mode, action := some k.action,
    callAllowed := some k.callAllowed }

def Profile.toWrite (f : Profile) : ProfileWrite :=
  { enabled := some f.enabled, expected := some f.expected, rights := some f.rights, priority := f.priority.val,
    sidetone := some f.sidetone, slots := mapTable (fun _ k => SlotConfig.toWrite k) f.slots }

def ChannelEntry.toWrite (e : ChannelEntry) : ChannelWrite :=
  { maxTalkers := e.maxTalkers, level := e.level, preemption := some e.preemption, idleRelease := e.idleRelease,
    callDisplay := e.callDisplay }

def RouterSettings.toWrite (r : RouterSettings) : RouterWrite := { threshold := r.threshold, holdoff := r.holdoff }

def NoticeEntry.toWrite : NoticeEntry → NoticeEntryWrite
  | .global h => .global (some h)
  | .kind k => .kind (some k.enable) k.lane.val
  | .lane l => .lane l.dest.val (some l.isOpen) (some l.mode)

/-- The 23 entries of Notice Control as an image holds them. -/
def NoticeControl.toWrite (c : NoticeControl) : Vector NoticeEntryWrite 23 :=
  mapTable
    (fun i _ => match noticePlace i.val with
      | some place => (readNoticeEntry c place).toWrite
      | none => .global none)
    (Vector.replicate 23 ())

/-- The image that holds a snapshot (R198). -/
def Snapshot.toImage (n : Snapshot) : StoredImage :=
  { cues := mapTable (fun _ r => r.toWrite) n.banked.cues
    groups := mapTable (fun _ g => g.toWrite) n.banked.groups
    positions := mapTable (fun _ e => e.toWrite) n.banked.positions
    zones := mapTable (fun _ z => z.toWrite) n.banked.zones
    profiles := mapTable (fun _ f => f.toWrite) n.profiles
    channels := mapTable (fun _ e => e.toWrite) n.channels
    noticeControl := n.noticeControl.toWrite
    router := n.router.toWrite }

/-! ## What an image loads (R195): an entry that fails its table's tests is loaded as the cleared or default entry -/

/-- The banked tables an image gives. -/
def StoredImage.banked (i : StoredImage) : BankTables :=
  { cues := mapTable (fun slot w => (checkCue slot w).getD CueRecord.cleared) i.cues
    groups := mapTable (fun _ w => (checkGroup w).getD Group.cleared) i.groups
    positions := mapTable (fun _ w => (checkPosition w).getD PositionEntry.cleared) i.positions
    zones := mapTable (fun _ w => (checkZone w).getD Zone.cleared) i.zones }

/-- The Notice Control an image gives: each entry over its default (R189). -/
def StoredImage.notices (i : StoredImage) : NoticeControl :=
  (List.finRange 23).foldl
    (fun c n => match noticePlace n.val with
      | some place => (writeNoticeEntry c place i.noticeControl[n]).getD c
      | none => c)
    NoticeControl.default

end Sys2Proof.Machine
end

