-- ==== Sys2Proof/Machine/Frames.lean ====
section
/-! DEFINITION. The layouts of frames and messages (R171–R173), the kind octets and rights (R178), the status code
values (R180), and the octets of every message the part sends. -/

namespace Sys2Proof.Machine

/-! ## The frame check -/

/-- One shift of the check register: generator x^8 + x^2 + x + 1 (R171). -/
def crcShift (r : Octet) : Octet := if r.msb then (r <<< 1) ^^^ 0x07#8 else r <<< 1

/-- Take one octet, its bit 7 first. -/
def crcOctet (r o : Octet) : Octet :=
  crcShift (crcShift (crcShift (crcShift (crcShift (crcShift (crcShift (crcShift (r ^^^ o))))))))

/-- The check over octets, from a start value: 0 for frames (R171), 0xFF for messages (R173). -/
def crc8 (start : Octet) (l : List Octet) : Octet := l.foldl crcOctet start

/-! ## Upstream frames -/

/-- R171: octets 1–2 are the sample, high octet first. -/
def UpFrame.sample (f : UpFrame) : Sample := f[1] ++ f[2]

/-- R171: octet 3 bits 7–4 talk keys K4–K1, bits 3–0 call keys K4–K1; octet 4 bit 7 the cue key. -/
def UpFrame.keys (f : UpFrame) : Keys :=
  { talk := f[3].extractLsb' 4 4, call := f[3].extractLsb' 0 4, cue := f[4].getLsbD 7 }

/-- R171: octet 4 bit 6. -/
def UpFrame.lanePresent (f : UpFrame) : Bool := f[4].getLsbD 6

/-- R171: octet 4 bit 5. -/
def UpFrame.startMarker (f : UpFrame) : Bool := f[4].getLsbD 5

/-- R152: how the Line Port Unit classes a frame interval that brings these octets. -/
def UpFrame.classify (f : UpFrame) : FrameClass :=
  if f[0] ≠ 0x4E#8 then .missing
  else if f[6] ≠ crc8 0 [f[1], f[2], f[3], f[4], f[5]] then .discarded
  else if UpFrame.startMarker f && !UpFrame.lanePresent f then .discarded
  else .good

/-! ## Message kinds -/

/-- The rights a request kind asks for (R178). -/
inductive Right | cue | read | write
  deriving DecidableEq, Repr

/-- R177, R178: the right in a profile. -/
def hasRight (r : Rights) : Right → Bool
  | .cue => r.cue
  | .read => r.read
  | .write => r.write

/-- R178: the request kinds and their rights; none for a kind that is not a request kind. -/
def kindRight (kind : Octet) : Option Right :=
  match kind.toNat with
  | 0x10 => some .cue
  | 0x11 => some .cue
  | 0x12 => some .cue
  | 0x13 => some .cue
  | 0x14 => some .cue
  | 0x15 => some .cue
  | 0x20 => some .read
  | 0x21 => some .write
  | 0x30 => some .write
  | 0x31 => some .write
  | 0x32 => some .write
  | 0x40 => some .write
  | 0x48 => some .write
  | 0x50 => some .write
  | 0x58 => some .read
  | 0x60 => some .write
  | 0x68 => some .write
  | _ => none

/-- The kind octet of an IDENT reply (R173). -/
def identReplyKind : Octet := 0xF1#8

/-- The kind octet of a request (R178). -/
def requestKind : Request → Octet
  | .standby _ => 0x10#8
  | .go _ => 0x11#8
  | .goNext => 0x12#8
  | .hold _ | .holdAll => 0x13#8
  | .release _ | .releaseAll => 0x14#8
  | .cancel _ | .cancelAll => 0x15#8
  | .readCueEntry .. | .readGroupEntry .. | .readPositionEntry .. | .readZoneEntry .. | .readProfile ..
  | .readChannelEntry .. | .readNoticeControl .. | .readRouterSettings .. => 0x20#8
  | .writeCueEntry .. | .writeGroupEntry .. | .writePositionEntry .. | .writeZoneEntry .. | .writeProfile ..
  | .writeChannelEntry .. | .writeNoticeControl .. | .writeRouterSettings .. => 0x21#8
  | .misfitEntry .. => 0x21#8
  | .badTable isWrite => if isWrite then 0x21#8 else 0x20#8
  | .copyLiveToEdit => 0x30#8
  | .swap => 0x31#8
  | .cancelSwap => 0x32#8
  | .set .. | .preset .. | .armIndex _ | .disarmIndex _ | .start _ | .stop _ | .seek .. | .mode .. | .misfit _ => 0x40#8
  | .enable _ | .disable _ | .quiet _ | .unquiet _ | .portRestart _ => 0x48#8
  | .noticeHold _ | .noticeUnhold _ | .noticeClear _ | .noticeOpen _ | .noticeClose _ => 0x50#8
  | .statusActiveList _ | .statusChannel _ | .statusPort _ | .statusCounter _ | .statusNotice _ => 0x58#8
  | .save => 0x60#8
  | .restart => 0x68#8
  | .unnamed .status => 0x58#8
  | .unnamed (.counter _) => 0x40#8
  | .unnamed .port => 0x48#8
  | .unnamed .notice => 0x50#8

/-- A cue slot is one octet (R178). -/
def slotOf (o : Octet) : CueSlot := o.toFin

/-! ### READ_ENTRY and WRITE_ENTRY -/

/-- R183: the table a table number names. -/
def tableOf : Nat → Option Table
  | 1 => some .cueTable
  | 2 => some .groupTable
  | 3 => some .positionLists
  | 4 => some .zoneTable
  | 5 => some .profiles
  | 6 => some .channelTable
  | 7 => some .noticeControl
  | 8 => some .routerSettings
  | _ => none

/-- READ_ENTRY of a table. -/
def readOf (bank : Named BankSel) (index : Nat) : Table → Request
  | .cueTable => .readCueEntry bank index
  | .groupTable => .readGroupEntry bank index
  | .positionLists => .readPositionEntry bank index
  | .zoneTable => .readZoneEntry bank index
  | .profiles => .readProfile bank index
  | .channelTable => .readChannelEntry bank index
  | .noticeControl => .readNoticeControl bank index
  | .routerSettings => .readRouterSettings bank index

/-- WRITE_ENTRY of a table, its entry read from its octets; none when they have not the entry's length. -/
def writeOf (index : Nat) (entry : List Octet) : Table → Option Request
  | .cueTable => (Config.cueEntry entry).map (.writeCueEntry index)
  | .groupTable => (Config.groupEntry entry).map (.writeGroupEntry index)
  | .positionLists => (Config.positionEntry entry).map (.writePositionEntry index)
  | .zoneTable => (Config.zoneEntry entry).map (.writeZoneEntry index)
  | .profiles => (Config.profileEntry entry).map (.writeProfile index)
  | .channelTable => (Config.channelEntry entry).map (.writeChannelEntry index)
  | .noticeControl => (Config.noticeEntry index entry).map (.writeNoticeControl index)
  | .routerSettings => (Config.routerEntry entry).map (.writeRouterSettings index)

/-- R183: READ_ENTRY naming a table by its number; the number is tested before the bank and the index. -/
def readRequest (table : Nat) (bank : Named BankSel) (index : Nat) : Request :=
  match tableOf table with
  | none => .badTable false
  | some t => readOf bank index t

/-- R183: WRITE_ENTRY naming a table by its number; the number is tested before the index, and the index before the
length of the entry. -/
def writeRequest (table index : Nat) (entry : List Octet) : Request :=
  match tableOf table with
  | none => .badTable true
  | some t => (writeOf index entry t).getD (.misfitEntry t index)

/-! ### The payload of a request kind -/

/-- R178: read the payload of a request kind. The payloads of the cue requests and of the empty requests are laid
down; the fields of the others are read by the uninterpreted readers of Config, each kept to its own kind (log 4). -/
def readPayload (kind : Octet) (payload : List Octet) : Option Request :=
  match kind.toNat, payload with
  | 0x10, [o] => some (.standby (slotOf o))
  | 0x11, [o] => some (.go (slotOf o))
  | 0x12, [] => some .goNext
  | 0x13, [o] => some (.hold (slotOf o))
  | 0x13, [] => some .holdAll
  | 0x14, [o] => some (.release (slotOf o))
  | 0x14, [] => some .releaseAll
  | 0x15, [o] => some (.cancel (slotOf o))
  | 0x15, [] => some .cancelAll
  | 0x20, l => (Config.readFields l).map fun f => readRequest f.1 f.2.1 f.2.2
  | 0x21, l => (Config.writeFields l).map fun f => writeRequest f.1 f.2.1 f.2.2
  | 0x30, [] => some .copyLiveToEdit
  | 0x31, [] => some .swap
  | 0x32, [] => some .cancelSwap
  | 0x60, [] => some .save
  | 0x68, [] => some .restart
  | n, l =>
    if n = 0x40 ∨ n = 0x48 ∨ n = 0x50 ∨ n = 0x58 then
      (Config.payloadRequest kind l).bind fun r => guarded (requestKind r == kind) r
    else none

/-! ## Status codes -/

/-- R180: the values of the status codes. -/
def Status.code : Status → Octet
  | .ok => 0
  | .denied => 1
  | .unknown => 2
  | .badTable => 3
  | .badIndex => 4
  | .badValue => 5
  | .badCue => 6
  | .noTargets => 7
  | .full => 8
  | .already => 9
  | .alreadyGoing => 10
  | .notStoodBy => 11
  | .notReady => 12
  | .nothingReady => 13
  | .held => 14
  | .notHeld => 15
  | .tooLate => 16
  | .zoneBlocked => 17
  | .swapPending => 18
  | .notPending => 19
  | .overrange => 20
  | .exhausted => 21
  | .busy => 22
  | .lockout => 23

/-! ## Messages sent -/

/-- The kind octet of a message (R178, R190). -/
def TxContent.kind : TxContent → Octet
  | .reserved => 0
  | .reply kind _ _ _ => kind
  | .notice _ => 0xC4#8
  | .desk (.cue ..) _ => 0xD4#8
  | .desk (.bank _) _ => 0xD5#8
  | .identAsk _ => 0xF0#8

/-- The tag of a message: messages of the part's own accord carry 0, an ask its number (R178, R160). -/
def TxContent.tag : TxContent → Octet
  | .reply _ tag _ _ => tag
  | .identAsk n => BitVec.ofNat 8 n
  | _ => 0

/-- The octets of a reply's data: nothing, the unknown kind received (R178), or as Config lays them down, within the
48 octets of payload (R179). -/
def replyDataOctets : ReplyData → List Octet
  | .nothing => []
  | .unknownKind k => [k]
  | d => (Config.dataOctets d).take 47

/-- The payload of a message: a reply begins with its status code (R179). -/
def TxContent.payload : TxContent → List Octet
  | .reserved => []
  | .reply _ _ status data => status.code :: replyDataOctets data
  | .notice n => (Config.noticeOctets n).take 48
  | .desk body gap => (Config.deskOctets body gap).take 48
  | .identAsk _ => []

/-- R173: kind, tag, length, payload, check. -/
def TxContent.octets (c : TxContent) : List Octet :=
  let body := c.kind :: c.tag :: BitVec.ofNat 8 c.payload.length :: c.payload
  body ++ [crc8 0xFF#8 body]

/-- R172: a downstream frame, its check computed over octets 1–6. -/
def downFrame (start o1 o2 o3 o4 o5 o6 : Octet) : DownFrame :=
  #v[start, o1, o2, o3, o4, o5, o6, crc8 0 [o1, o2, o3, o4, o5, o6]]

/-- R172: the value of a talk lamp. -/
def TalkLamp.code : TalkLamp → BitVec 2
  | .off => 0
  | .talking => 1
  | .waiting => 2
  | .denied => 3

/-- R172: the value of a cue lamp. -/
def CueLamp.code : CueLamp → BitVec 3
  | .dark => 0
  | .standbySteady => 1
  | .standbyFlash => 2
  | .hold => 3
  | .warn => 4
  | .go => 5

/-- R172: octet 3, the talk lamps K4, K3, K2, K1. -/
def talkOctet (v : Vector TalkLamp 4) : Octet := v[3].code ++ v[2].code ++ v[1].code ++ v[0].code

/-- R172: octet 4, the call lamps K4–K1, the cue lamp and the lane-octet-present bit. -/
def lampOctet (call : Vector Bool 4) (cue : CueLamp) (lane : Bool) : Octet :=
  BitVec.ofBool call[3] ++ BitVec.ofBool call[2] ++ BitVec.ofBool call[1] ++ BitVec.ofBool call[0] ++ cue.code
    ++ BitVec.ofBool lane

/-- The kind a detail belongs to (11_notices.md, 11.1). -/
def NoticeDetail.kind : NoticeDetail → NoticeKind
  | .portUp .. => 0
  | .portDown .. => 1
  | .portFault .. => 2
  | .msgError .. => 3
  | .requestDropped .. => 4
  | .targetAbsent .. => 5
  | .ackOverdue .. => 6
  | .cueRefused .. => 7
  | .positionExhausted .. => 8
  | .counterOverrange .. => 9
  | .counterReset .. => 10
  | .zoneChange .. => 11
  | .idleRelease .. => 12
  | .talkPreempted .. => 13
  | .bankSwapped .. => 14
  | .saveDone _ => 15
  | .started _ => 16
  | .laneLost .. => 17

end Sys2Proof.Machine
end

