-- ==== Sys2Proof/Machine/Flags.lean ====
section
/-! DEFINITION. What follows from the state at every moment and is stored nowhere: occupancy tests, target
resolution, the READY policy, cue, talk and call lamps, listen sets, the mix, and the gates of notice delivery. -/

namespace Sys2Proof

/-- R136: a slot in mode LISTEN or TALK_LISTEN hears its channel. -/
def SlotMode.hears : SlotMode → Bool
  | .listen => true
  | .talk => false
  | .talkListen => true

/-- R123: a slot in mode TALK or TALK_LISTEN may request talk. -/
def SlotMode.talks : SlotMode → Bool
  | .listen => false
  | .talk => true
  | .talkListen => true

end Sys2Proof

namespace Sys2Proof.Machine

/-! ## Key slots -/

/-- The key count the port's station reported at identification (R117). A port with no identification result is not
present, so none of its slots is asked about. -/
def State.keyCount (s : State) (p : Port) : Nat :=
  match s.ports[p].ident with
  | some i => i.keyCount
  | none => 4

/-- R117: a slot numbered above the key count is inert. -/
def State.inert (s : State) (p : Port) (k : KeySlot) : Bool := decide (s.keyCount p < k.val + 1)

/-- The four key slots, K1 first. -/
def allSlots : List KeySlot := [0, 1, 2, 3]

def State.slotConfig (s : State) (p : Port) (k : KeySlot) : SlotConfig := s.profiles[p].slots[k]

/-! ## Zones and position lists -/

/-- R92: an occupied zone is valid, and its counter is OVERRANGE or its value lies within the bounds. -/
def zoneInside (z : Zone) (c : Counter) : Bool :=
  z.valid && (c.state == .overrange || decide (z.lower ≤ c.value ∧ c.value ≤ z.upper))

/-- The occupancy an evaluation of a zone of the live Zone Table gives now (R92). -/
def State.zoneNow (s : State) (z : ZoneNo) : Bool :=
  zoneInside s.liveTables.zones[z] (s.counter s.liveTables.zones[z].counter)

/-- The six zones, Z1 first. -/
def allZones : List ZoneNo := List.finRange 6

/-- R84, R85: the live Position Cue List of a counter, 12 entries. -/
def State.positionList (s : State) (c : CounterId) : List PositionEntry :=
  match c with
  | .m1 => s.liveTables.positions.toList.take 12
  | .m2 => s.liveTables.positions.toList.drop 12

/-- R84: the length is the number of leading valid entries. -/
def State.listLength (s : State) (c : CounterId) : Nat :=
  ((s.positionList c).takeWhile PositionEntry.valid).length

/-! ## Targets and the READY policy -/

/-- R8, R10: the ports a group of the live Group Table gives; an invalid group gives none. -/
def State.groupPorts (s : State) (g : GroupNo) : PortSet :=
  if s.liveTables.groups[g].valid then s.liveTables.groups[g].ports else PortSet.none

/-- R10: target resolution, the union over the record's groups. -/
def State.resolve (s : State) (r : CueRecord) : PortSet :=
  r.groups.foldl (fun x g => x.union (s.groupPorts g)) PortSet.none

/-- R21: when the ack policy of a record's cue is met. -/
def State.policyMet (s : State) (r : ActiveCue) : Bool :=
  match (s.cue r.slot).ackPolicy with
  | .all => r.awaited.isEmpty
  | .any => !r.acked.isEmpty || (r.targets.inter s.presentSet).isEmpty
  | .nobody => true

/-- R21: testing a record for READY. -/
def State.testReady (s : State) (r : ActiveCue) : ActiveCue :=
  if r.state = .standby ∧ s.policyMet r = true then { r with state := .ready } else r

/-- R44: the interlock zone of the record's cue is valid and occupied. -/
def State.blocked (s : State) (slot : CueSlot) : Bool :=
  match (s.cue slot).interlock with
  | none => false
  | some z => s.liveTables.zones[z].valid && s.occupied[z]

/-! ## Cue lamps -/

/-- R68: precedence, lowest first. -/
def CueLamp.rank : CueLamp → Nat
  | .dark => 0
  | .standbySteady => 1
  | .standbyFlash => 2
  | .hold => 3
  | .warn => 4
  | .go => 5

/-- The higher of two contributions (R68). -/
def CueLamp.higher (a b : CueLamp) : CueLamp := if a.rank < b.rank then b else a

/-- R65, R66: what a record contributes to a present port. -/
def recordLamp (r : ActiveCue) (p : Port) : CueLamp :=
  if r.targets.mem p then
    match r.state with
    | .standby | .ready =>
      if r.acked.mem p then .standbySteady
      else if r.awaited.mem p && r.overdue then .warn
      else .standbyFlash
    | .held => .hold
    | .going => .go
  else .dark

/-- R67: what a zone contributes to a present port. -/
def State.zoneLamp (s : State) (z : ZoneNo) (p : Port) : CueLamp :=
  if s.liveTables.zones[z].valid && s.occupied[z] && s.liveTables.zones[z].warn then
    match s.liveTables.zones[z].group with
    | some g => if (s.groupPorts g).mem p then .warn else .dark
    | none => .dark
  else .dark

/-- R64, R68: the cue lamp result of a port. -/
def State.cueLamp (s : State) (p : Port) : CueLamp :=
  if s.present p then
    (s.active.map (recordLamp · p) ++ allZones.map (s.zoneLamp · p)).foldl CueLamp.higher .dark
  else .dark

/-! ## Talk lamps and call lamps -/

/-- A talk entry made from a slot of a port. -/
def TalkEntry.isFrom (e : TalkEntry) (p : Port) (k : KeySlot) : Bool := e.port == p && e.slot == k

/-- R134: the talk lamp of a slot, derived as it stands. -/
def State.talkLamp (s : State) (p : Port) (k : KeySlot) : TalkLamp :=
  if s.inert p k || (s.slotConfig p k).channel.isNone || !(s.slotConfig p k).mode.talks then .off
  else if s.talk.toList.any fun t => t.talkers.any fun e => e.isFrom p k then .talking
  else if s.talk.toList.any fun t => t.waiters.any fun e => e.isFrom p k then .waiting
  else if s.denied[p][k].isSome then .denied
  else .off

/-- R145: FLASH while the slot's record is flashing. -/
def State.callLamp (s : State) (p : Port) (k : KeySlot) : Bool := !s.inert p k && s.calls[p][k].flash.isSome

/-- The talk and call lamps of a port as a frame built now shows them. -/
def State.lampsNow (s : State) (p : Port) : ShownLamps :=
  { talk := #v[s.talkLamp p 0, s.talkLamp p 1, s.talkLamp p 2, s.talkLamp p 3]
    call := #v[s.callLamp p 0, s.callLamp p 1, s.callLamp p 2, s.callLamp p 3] }

/-! ## Listening and the mix -/

/-- R136: a channel named by a non-inert slot in mode LISTEN or TALK_LISTEN. -/
def State.slotListens (s : State) (p : Port) (c : Chan) : Bool :=
  allSlots.any fun k => !s.inert p k && (s.slotConfig p k).channel == some c && (s.slotConfig p k).mode.hears

/-- R136: a cue channel forces listening while its record is in STANDBY, READY or HELD. -/
def CueState.forces : CueState → Bool
  | .going => false
  | _ => true

/-- R136: the forced channels of a port. -/
def State.forced (s : State) (p : Port) (c : Chan) : Bool :=
  s.active.any fun r => r.state.forces && r.targets.mem p && (s.cue r.slot).cueChannel == some c

/-- R136: a channel of the port's listen set. -/
def State.listens (s : State) (p : Port) (c : Chan) : Bool :=
  s.present p && (s.slotListens p c || s.forced p c)

/-- R147: a void sample contributes 0. -/
def State.sampleValue (s : State) (p : Port) : Int :=
  match s.samples[p] with
  | some x => x.toInt
  | none => 0

/-- R148 step 1: the sum of the talkers' samples, without the listener's own unless it has sidetone. -/
def State.channelSum (s : State) (p : Port) (c : Chan) : Int :=
  ((s.talk[c].talkers.filter fun e => e.port != p || s.profiles[p].sidetone).map fun e => s.sampleValue e.port).sum

/-- R148 step 2: times the level, divided by 16, truncated toward zero. -/
def State.channelResult (s : State) (p : Port) (c : Chan) : Int :=
  (s.channelSum p c * (s.channels[c].level : Int)).tdiv 16

/-- The sixteen channels. -/
def allChannels : List Chan := List.finRange 16

/-- R149: the total over the listen set. -/
def State.mixTotal (s : State) (p : Port) : Int :=
  ((allChannels.filter (s.listens p)).map (s.channelResult p)).sum

/-- R149: clamped to the sample range. -/
def clampSample (v : Int) : Int := max (-32768) (min 32767 v)

/-- R149: the outgoing sample. -/
def State.mixSample (s : State) (p : Port) : Sample := BitVec.ofInt 16 (clampSample (s.mixTotal p))

/-! ## Notice delivery -/

/-- The lane of a kind, and that lane's control (R189). -/
def State.laneOf (s : State) (k : NoticeKind) : LaneControl := s.noticeControl.lanes[s.noticeControl.kinds[k].lane]

/-- R181: a free entry not reserved for a reply; reserved entries are part of the eight. -/
def State.hasRoom (s : State) (p : Port) : Bool := decide (s.queues[p].length < 8)

/-- R190: all six gates of a record. -/
def State.deliverable (s : State) (k : NoticeKind) : Bool :=
  s.notices[k].pending && !s.notices[k].sent && s.noticeControl.kinds[k].enable && !s.noticeControl.hold
    && (s.laneOf k).isOpen && s.present (s.laneOf k).dest && s.hasRoom (s.laneOf k).dest

end Sys2Proof.Machine
end

