-- ==== Sys2Proof/Machine/Messages.lean ====
section
/-! DEFINITION. The transmit queues: notices raised and built (R188, R190, R191), desk status copies (R73, R74),
identification asks (R160), and the reservation and filling of a reply (R177, R179). -/

namespace Sys2Proof.Machine

/-! ## Notices -/

/-- R188: an occurrence sets pending, adds one to the count up to 255 and replaces the detail. -/
def NoticeRecord.occur (r : NoticeRecord) (d : NoticeDetail) : NoticeRecord :=
  { r with pending := true, count := min 255 (r.count + 1), detail := some d }

/-- R190: the record after its notice has been built. -/
def NoticeRecord.built (r : NoticeRecord) : LaneMode → NoticeRecord
  | .autoClear => { r with pending := false, count := 0 }
  | .holdUntilClear => { r with sent := true }

/-- R190: the message of a record as it stands. -/
def State.noticeBody (s : State) (k : NoticeKind) : NoticeBody :=
  { kind := k, lane := s.noticeControl.kinds[k].lane, count := s.notices[k].count, detail := s.notices[k].detail }

/-- An entry that joins a queue with none of its octets sent. -/
def TxEntry.fresh (c : TxContent) : TxEntry := { content := c, sent := 0, waits := .nothing }

/-- R190: test a record, and build its notice at the tail of its lane's destination when every gate passes. -/
def State.testNotice (s : State) (k : NoticeKind) : State :=
  if s.deliverable k then
    (s.setQueue (s.laneOf k).dest (s.queues[(s.laneOf k).dest] ++ [TxEntry.fresh (.notice (s.noticeBody k))])).setNotice k
      (s.notices[k].built (s.laneOf k).mode)
  else s

/-- R191: lane order L0–L3, and within a lane kind order. -/
def deliveryOrder : List (Lane × NoticeKind) :=
  (List.finRange 4).flatMap fun l => (List.finRange 18).map fun k => (l, k)

/-- Test, in the order of R191, every record that a selection names by lane and kind. -/
def State.testNotices (s : State) (selected : Lane → NoticeKind → Bool) : State :=
  deliveryOrder.foldl
    (fun t x => if s.noticeControl.kinds[x.2].lane = x.1 ∧ selected x.1 x.2 = true then t.testNotice x.2 else t) s

/-- R181, R190: an entry freed in a port's queue, or the port entering UP, offers the records whose lanes lead there. -/
def State.offer (s : State) (p : Port) : State :=
  s.testNotices fun l _ => s.noticeControl.lanes[l].dest == p

/-- R188: record an occurrence. -/
def State.record (s : State) (d : NoticeDetail) : State := s.setNotice d.kind (s.notices[d.kind].occur d)

/-- R188: raise a notice: record the occurrence, then test the record within the same event. An entry that stands freed
in its destination's queue goes first to the notices that have been waiting for one (R181, R191, log 27). -/
def State.raise (s : State) (d : NoticeDetail) : State := ((s.offer (s.laneOf d.kind).dest).record d).testNotice d.kind

/-! ## Desk status -/

/-- A desk status entry whose first octet has not been sent (R74). -/
def TxEntry.isWaitingDesk (e : TxEntry) : Bool :=
  match e.content with
  | .desk _ _ => e.sent == 0
  | _ => false

/-- The queue without the oldest desk status not yet begun, or none when it holds none (R74). -/
def dropOldestDesk : List TxEntry → Option (List TxEntry)
  | [] => none
  | e :: rest => if e.isWaitingDesk then some rest else (dropOldestDesk rest).map fun q => e :: q

/-- R74: one desk status copy for one port. -/
def State.deskCopy (s : State) (body : DeskBody) (p : Port) : State :=
  if s.queues[p].length < 8 then
    (s.setQueue p (s.queues[p] ++ [TxEntry.fresh (.desk body s.gaps[p])])).setGap p false
  else
    match dropOldestDesk s.queues[p] with
    | some q => (s.setQueue p (q ++ [TxEntry.fresh (.desk body true)])).setGap p false
    | none => s.setGap p true

/-- R73: the ports that receive desk status, present and with CUE rights. -/
def State.isDesk (s : State) (p : Port) : Bool := s.present p && s.profiles[p].rights.cue

/-- R73: one copy for each receiving port. -/
def State.deskStatus (s : State) (body : DeskBody) : State :=
  (allPorts.filter s.isDesk).foldl (fun t p => t.deskCopy body p) s

/-- R70: the fields of the message about a record. -/
def State.deskBody (s : State) (r : ActiveCue) (st : DeskState) : DeskBody :=
  .cue r.slot (s.cue r.slot).label st r.awaited.count r.acked.count r.absent.count r.overdue r.unready r.origin

/-- R36: hand on a change of a record that stands in the list. -/
def State.handOn (s : State) (r : ActiveCue) : State := s.deskStatus (s.deskBody r (.inList r.state))

/-- Put a changed record in its place and hand the change on (R36). -/
def State.changeCue (s : State) (r : ActiveCue) : State := (s.putCue r).handOn r

/-! ## Asks -/

/-- R160: queue an IDENT_ASK with its number as tag; the queue has room in PROBING (log 32). -/
def State.queueAsk (s : State) (p : Port) (n : Nat) : State :=
  if s.queues[p].length < 8 then s.setQueue p (s.queues[p] ++ [TxEntry.fresh (.identAsk n)]) else s

/-- R161: an IDENT_ASK still in the queue that has not begun. -/
def TxEntry.isWaitingAsk (e : TxEntry) : Bool :=
  match e.content with
  | .identAsk _ => e.sent == 0
  | _ => false

/-- R161: remove the asks that have not begun. -/
def State.dropAsks (s : State) (p : Port) : State := s.setQueue p (s.queues[p].filter fun e => !e.isWaitingAsk)

/-! ## Replies -/

/-- R177 step 1: reserve an entry at the tail for the reply. -/
def State.reserve (s : State) (p : Port) : State := s.setQueue p (s.queues[p] ++ [TxEntry.fresh .reserved])

/-- Put a reply into the first reserved entry of a list. -/
def fillFirst (e : TxEntry) : List TxEntry → List TxEntry
  | [] => []
  | x :: rest => if x.content = .reserved then e :: rest else x :: fillFirst e rest

/-- Put a reply into the reserved entry of a queue: the one reserved last. -/
def fillReserved (e : TxEntry) (q : List TxEntry) : List TxEntry := (fillFirst e q.reverse).reverse

/-- R168: a reply that a deferred action waits for takes that part over from an earlier reply (log 14). -/
def clearDeferredWaits (q : List TxEntry) : List TxEntry :=
  q.map fun e => if e.waits = .deferred then { e with waits := .nothing } else e

/-- R179: build the reply into its reserved entry. -/
def State.answer (s : State) (p : Port) (kind tag : Octet) (a : Answer) : State :=
  s.setQueue p
    (fillReserved { content := .reply kind tag a.status a.data, sent := 0, waits := a.waits }
      (if a.waits = .deferred then clearDeferredWaits s.queues[p] else s.queues[p]))

/-- A bare answer: the status code alone. -/
def Answer.bare (st : Status) : Answer := { status := st, data := .nothing, waits := .nothing }

/-- An answer with data. -/
def Answer.with (st : Status) (d : ReplyData) : Answer := { status := st, data := d, waits := .nothing }

/-- R178: the kind octet of a reply is the request's plus 0x80. -/
def replyKind (kind : Octet) : Octet := kind + 0x80#8

/-- R177: acceptance of a complete message of a request kind: from a present port only; reservation, rights, then the
owner, whose answer fills the reserved entry, ahead of what the request raises on the sender's queue (R179; R183 reads
otherwise for writes, log 44). -/
def State.accept (s : State) (p : Port) (kind tag : Octet) (right : Right) (owner : State → State × Answer) : State :=
  if s.present p then
    if s.hasRoom p then
      if hasRight s.profiles[p].rights right then
        (owner (s.reserve p)).1.answer p (replyKind kind) tag (owner (s.reserve p)).2
      else (s.reserve p).answer p (replyKind kind) tag (Answer.bare .denied)
    else s.raise (.requestDropped p kind tag)
  else s

/-- R177 step 2: a kind that is not a request kind is answered UNKNOWN with kind octet 0xFE. -/
def State.acceptUnknown (s : State) (p : Port) (kind tag : Octet) : State :=
  if s.present p then
    if s.hasRoom p then (s.reserve p).answer p 0xFE#8 tag (Answer.with .unknown (.unknownKind kind))
    else s.raise (.requestDropped p kind tag)
  else s

/-- A request that reads and changes nothing: its owner only answers. -/
def reading (f : State → Answer) (s : State) : State × Answer := (s, f s)

end Sys2Proof.Machine
end

