-- ==== Sys2Proof/Machine/Banks.lean ====
section
/-! DEFINITION. Zone occupancy as it is evaluated (R92), the completion of a swap (R109), and the banked tables as
they are read, written, copied and swapped (R5–R9, R85, R91, R102–R107). -/

namespace Sys2Proof.Machine

/-! ## Zone occupancy -/

/-- R92: evaluate one zone afresh; a change of occupancy raises ZONE_CHANGE with the value of the zone's counter. -/
def State.evalZone (s : State) (z : ZoneNo) : State :=
  if s.zoneNow z = s.occupied[z] then s
  else
    (s.setOccupied z (s.zoneNow z)).raise
      (.zoneChange z (s.zoneNow z) (s.counter s.liveTables.zones[z].counter).value)

/-- R92: the valid zones of the live Zone Table that name a counter. -/
def State.zoneNames (s : State) (c : CounterId) (z : ZoneNo) : Bool :=
  s.liveTables.zones[z].valid && s.liveTables.zones[z].counter == c

/-- R92: evaluate zones in zone order. -/
def State.evalZones (s : State) (zones : List ZoneNo) : State := zones.foldl State.evalZone s

/-- R78, R79, R82: evaluate the valid zones that name a counter. -/
def State.evalCounterZones (s : State) (c : CounterId) : State := s.evalZones (allZones.filter (s.zoneNames c))

/-! ## Swap completion -/

/-- R100: a comparison passes to STOPPED with current index 0; the rest of the counter record is kept. -/
def Counter.rewound (r : Counter) : Counter := { r with comparison := .stopped, index := 0 }

/-- R109 step 1: the selector moves to the other bank and the flag clears. -/
def State.flip (s : State) : State := { s with live := s.live.other, swapPending := false }

/-- R109, R100: both comparisons rewound. -/
def State.rewindCounters (s : State) : State :=
  (s.setCounter .m1 (s.counter .m1).rewound).setCounter .m2 (s.counter .m2).rewound

/-- R109: a swap completes. The lamps of step 3 are derived from what steps 1 and 2 leave. -/
def State.completeSwap (s : State) (cause : SwapCause) : State :=
  ((s.flip.rewindCounters.evalZones allZones).raise (.bankSwapped s.live.other cause)).deskStatus
    (.bank s.live.other)

/-! ## Bank requests -/

/-- The live bank and the swap-pending flag as they stand (R112). -/
def State.bankData (s : State) : ReplyData := .bank s.live s.swapPending

/-- An answer that carries the bank data after the request (R112). -/
def State.bankAnswer (s : State) (st : Status) : State × Answer := (s, Answer.with st s.bankData)

/-- R104: the copy itself. -/
def State.copyLive (s : State) : State := s.setEdit s.liveTables

/-- R104: COPY_LIVE_TO_EDIT. -/
def copyRequest (s : State) : State × Answer :=
  if s.swapPending then (s, Answer.bare .swapPending) else s.copyLive.bankAnswer .ok

/-- R105: SWAP. -/
def swapRequest (s : State) : State × Answer :=
  if s.swapPending then s.bankAnswer .already
  else if s.active.isEmpty then (s.completeSwap .request).bankAnswer .ok
  else State.bankAnswer { s with swapPending := true } .ok

/-- R107: CANCEL_SWAP. -/
def cancelSwapRequest (s : State) : State × Answer :=
  if s.swapPending then State.bankAnswer { s with swapPending := false } .ok else s.bankAnswer .notPending

/-! ## Reads and writes of the banked tables -/

/-- R102: a read of a table entry: the bank field first, then the index, then the entry. -/
def readEntry {ι : Type} (bank : Named BankSel) (index : Option ι) (entry : BankSel → ι → ReplyData) : Answer :=
  match bank with
  | none => Answer.bare .badValue
  | some b =>
    match index with
    | none => Answer.bare .badIndex
    | some i => Answer.with .ok (entry b i)

/-- R103: a write of a table entry: the index first, then the entry's own tests, then the replacement. -/
def writeEntry {ι α : Type} (index : Option ι) (entry : ι → Option α) (store : ι → α → State) (s : State) :
    State × Answer :=
  match index with
  | none => (s, Answer.bare .badIndex)
  | some i =>
    match entry i with
    | none => (s, Answer.bare .badValue)
    | some x => (store i x, Answer.bare .ok)

/-- R7: READ_ENTRY of the Cue Table. -/
def readCue (bank : Named BankSel) (index : Nat) (s : State) : Answer :=
  readEntry bank (zeroBased 256 index) fun b i => .cueEntry (s.selected b).cues[i]

/-- R5, R6: WRITE_ENTRY of the Cue Table. -/
def writeCue (index : Nat) (w : CueWrite) (s : State) : State × Answer :=
  writeEntry (zeroBased 256 index) (fun i => checkCue i w)
    (fun i r => s.setEdit { s.editTables with cues := put s.editTables.cues i r }) s

/-- R9: READ_ENTRY of the Group Table. -/
def readGroup (bank : Named BankSel) (index : Nat) (s : State) : Answer :=
  readEntry bank (oneBased 24 index) fun b i => .groupEntry (s.selected b).groups[i]

/-- R9: WRITE_ENTRY of the Group Table. -/
def writeGroup (index : Nat) (w : GroupWrite) (s : State) : State × Answer :=
  writeEntry (oneBased 24 index) (fun _ => checkGroup w)
    (fun i g => s.setEdit { s.editTables with groups := put s.editTables.groups i g }) s

/-- R85: READ_ENTRY of the Position Cue Lists. -/
def readPosition (bank : Named BankSel) (index : Nat) (s : State) : Answer :=
  readEntry bank (zeroBased 24 index) fun b i => .positionEntry (s.selected b).positions[i]

/-- R85: WRITE_ENTRY of the Position Cue Lists. -/
def writePosition (index : Nat) (w : PositionWrite) (s : State) : State × Answer :=
  writeEntry (zeroBased 24 index) (fun _ => checkPosition w)
    (fun i e => s.setEdit { s.editTables with positions := put s.editTables.positions i e }) s

/-- R91: READ_ENTRY of the Zone Table. -/
def readZone (bank : Named BankSel) (index : Nat) (s : State) : Answer :=
  readEntry bank (oneBased 6 index) fun b i => .zoneEntry (s.selected b).zones[i]

/-- R91: WRITE_ENTRY of the Zone Table. -/
def writeZone (index : Nat) (w : ZoneWrite) (s : State) : State × Answer :=
  writeEntry (oneBased 6 index) (fun _ => checkZone w)
    (fun i z => s.setEdit { s.editTables with zones := put s.editTables.zones i z }) s

end Sys2Proof.Machine
end

