-- ==== Sys2Proof/Machine/Cue.lean ====
section
/-! DEFINITION. The Cue Engine: STANDBY (R17–R19), GO and its chain of successor links (R39–R53), HOLD and RELEASE
(R30–R34), CANCEL and removal (R47, R48, R57, R58), expiries (R29, R47, R55), cue-key presses (R22) and the changes of
presence (R25, R26). -/

namespace Sys2Proof.Machine

/-! ## STANDBY -/

/-- R17: the five tests in their order; the status code of the first that fails. -/
def State.standbyRefusal (s : State) (slot : CueSlot) : Option Status :=
  if (s.cue slot).valid = false then some .badCue
  else if s.swapPending then some .swapPending
  else if (s.findCue slot).isSome then some .already
  else if 8 ≤ s.active.length then some .full
  else if (s.resolve (s.cue slot)).isEmpty then some .noTargets
  else none

/-- R18, R14: the record of an accepted STANDBY before its test for READY. -/
def State.standingCue (s : State) (slot : CueSlot) (o : Origin) (follow : Option Time) : ActiveCue :=
  { slot := slot
    state := .standby
    prior := none
    targets := s.resolve (s.cue slot)
    awaited := (s.resolve (s.cue slot)).inter s.presentSet
    acked := PortSet.none
    absent := (s.resolve (s.cue slot)).diff s.presentSet
    overdue := false
    unready := false
    origin := o
    ackDeadline := if (s.cue slot).ackTimeout = 0 then none else some (s.clock + ms (s.cue slot).ackTimeout)
    followDeadline := follow
    remaining := none
    goDisplay := none }

/-- R18, R51: the record appended, tested for READY within the same change. -/
def State.newCue (s : State) (slot : CueSlot) (o : Origin) (follow : Option Time) : ActiveCue :=
  s.testReady (s.standingCue slot o follow)

/-- R18: TARGET_ABSENT when the split left ports absent. -/
def State.noticeAbsent (s : State) (r : ActiveCue) : State :=
  if r.absent.isEmpty then s else s.raise (.targetAbsent r.slot r.absent.count)

/-- R13, R18: a record joins the list at its end. -/
def State.joinList (s : State) (r : ActiveCue) : State := s.setActive (s.active ++ [r])

/-- R18, R36: append a record, hand the change on, then raise TARGET_ABSENT. -/
def State.appendCue (s : State) (r : ActiveCue) : State := ((s.joinList r).handOn r).noticeAbsent r

/-- R17, R18: STANDBY from a desk. -/
def standbyRequest (p : Port) (slot : CueSlot) (s : State) : State × Answer :=
  match s.standbyRefusal slot with
  | some st => (s, Answer.bare st)
  | none =>
    (s.appendCue (s.newCue slot (.desk p) none), Answer.with .ok (.cue slot (s.newCue slot (.desk p) none).state))

/-- R45: a refusal of a request that has no reply raises CUE_REFUSED. -/
def State.refuseCue (s : State) (slot : CueSlot) (st : Status) (o : RefusedOrigin) : State :=
  s.raise (.cueRefused slot st o)

/-- R19: STANDBY of origin POSITION. -/
def State.standbyByPosition (s : State) (c : CounterId) (slot : CueSlot) : State :=
  match s.standbyRefusal slot with
  | some st => s.refuseCue slot st (.position c)
  | none => s.appendCue (s.newCue slot (.position c) none)

/-! ## GO -/

/-- R39: the five tests in their order: the record a GO takes, or the status code. -/
def State.goTarget (s : State) (slot : CueSlot) : Except Status ActiveCue :=
  match s.findCue slot with
  | none => .error .notStoodBy
  | some r =>
    if r.state = .going then .error .alreadyGoing
    else if r.state = .held then .error .held
    else if r.state = .standby ∧ (s.cue slot).goPolicy = .readyOnly then .error .notReady
    else if s.blocked slot then .error .zoneBlocked
    else .ok r

/-- R40, R41: the record as it enters GOING. -/
def State.goingCue (s : State) (r : ActiveCue) : ActiveCue :=
  { r with
    state := .going
    prior := none
    unready := r.unready || r.state == .standby
    ackDeadline := none
    followDeadline := none
    remaining := none
    goDisplay := some (s.clock + ms (s.cue r.slot).goDisplay) }

/-- R40, R42: entry to GOING, handed on. -/
def State.enterGoing (s : State) (r : ActiveCue) : State := s.changeCue (s.goingCue r)

/-- R52: what an AUTOFOLLOW link with a delay does to a record already standing. -/
def State.linkStanding (s : State) (r : ActiveCue) (from_ : CueSlot) (delay : Nat) : State :=
  match r.state with
  | .standby | .ready => s.putCue { r with followDeadline := some (s.clock + ms delay) }
  | .held => s.putCue { r with remaining := some (ms delay) }
  | .going => s.refuseCue r.slot .alreadyGoing (.follow (some from_))

/-- R49–R53: the successor link of a record that has entered GOING. With delay 0 it may send the next record in turn,
whose own link follows; a record stood by and sent in one event is handed on once, as the event leaves it (R72). The
model's choice: a chain is handed on send by send, each record's GOING ahead of its successor's (R42), also where the
next record stands earlier in the list, for which R72 gives list order (log 45). The count of links is bounded, since
each send takes one more record of the list to GOING (log 28). -/
def State.applyLink : Nat → ActiveCue → State → State
  | 0, _, s => s
  | n + 1, r, s =>
    match (s.cue r.slot).successor with
    | none => s
    | some (.standbyNext next) =>
      match s.standbyRefusal next with
      | some st => s.refuseCue next st (.follow (some r.slot))
      | none => s.appendCue (s.newCue next (.follow r.slot) none)
    | some (.autofollow next delay) =>
      match s.findCue next with
      | none =>
        match s.standbyRefusal next with
        | some st => s.refuseCue next st (.follow (some r.slot))
        | none =>
          if delay = 0 then
            let c := s.newCue next (.follow r.slot) none
            match (s.joinList c).goTarget next with
            | .error st => (s.appendCue c).refuseCue next st (.follow (some r.slot))
            | .ok x => State.applyLink n x (((s.joinList c).enterGoing x).noticeAbsent c)
          else s.appendCue (s.newCue next (.follow r.slot) (some (s.clock + ms delay)))
      | some x =>
        if delay = 0 then
          match s.goTarget next with
          | .error st => s.refuseCue next st (.follow (some r.slot))
          | .ok x => State.applyLink n x (s.enterGoing x)
        else s.linkStanding x r.slot delay

/-- More sends than any chain can make (R53, log 28). -/
def State.chainBound (s : State) : Nat := s.active.length + 9

/-- R40: a GO that has passed its tests: entry to GOING, then the successor link. -/
def State.takeGo (s : State) (r : ActiveCue) : State := State.applyLink s.chainBound r (s.enterGoing r)

/-- R39, R40: GO from a desk. -/
def goRequest (slot : CueSlot) (s : State) : State × Answer :=
  match s.goTarget slot with
  | .error st => (s, Answer.bare st)
  | .ok r => (s.takeGo r, Answer.with .ok (.cue slot .going))

/-- R43: the oldest READY record. -/
def State.oldestReady (s : State) : Option ActiveCue := s.active.find? fun r => r.state == .ready

/-- R43: GO_NEXT. A refusal ZONE_BLOCKED carries the slot too. -/
def goNextRequest (s : State) : State × Answer :=
  match s.oldestReady with
  | none => (s, Answer.bare .nothingReady)
  | some r =>
    match s.goTarget r.slot with
    | .error st => (s, Answer.with st (.slot r.slot))
    | .ok x => (s.takeGo x, Answer.with .ok (.cue r.slot .going))

/-- R39, R56: GO of origin POSITION. -/
def State.goByPosition (s : State) (c : CounterId) (slot : CueSlot) : State :=
  match s.goTarget slot with
  | .error st => s.refuseCue slot st (.position c)
  | .ok r => s.takeGo r

/-! ## HOLD and RELEASE -/

/-- R30, R32: the record as HOLD leaves it; the remaining time is at least one frame interval (log 19). -/
def State.heldCue (s : State) (r : ActiveCue) : ActiveCue :=
  { r with
    state := .held
    prior := some r.state
    followDeadline := none
    remaining := r.followDeadline.map fun d => max 1 (d - s.clock) }

/-- R30: the tests of HOLD. -/
def State.holdTarget (s : State) (slot : CueSlot) : Except Status ActiveCue :=
  match s.findCue slot with
  | none => .error .notStoodBy
  | some r =>
    match r.state with
    | .held => .error .already
    | .going => .error .tooLate
    | _ => .ok r

/-- R30: HOLD of a slot. -/
def holdRequest (slot : CueSlot) (s : State) : State × Answer :=
  match s.holdTarget slot with
  | .error st => (s, Answer.bare st)
  | .ok r => (s.changeCue (s.heldCue r), Answer.with .ok (.slot slot))

/-- A record that HOLD(ALL) takes. -/
def ActiveCue.holdable (r : ActiveCue) : Bool := r.state == .standby || r.state == .ready

/-- R31: HOLD(ALL). -/
def holdAllRequest (s : State) : State × Answer :=
  if s.active.any ActiveCue.holdable then
    ((s.active.filter ActiveCue.holdable).foldl (fun t r => t.changeCue (t.heldCue r)) s, Answer.bare .ok)
  else if s.active.isEmpty then (s, Answer.bare .notStoodBy)
  else if s.active.any fun r => r.state == .held then (s, Answer.bare .already)
  else (s, Answer.bare .tooLate)

/-- R33, R34: the record as RELEASE leaves it, tested for READY when it returned to STANDBY. -/
def State.releasedCue (s : State) (r : ActiveCue) : ActiveCue :=
  s.testReady
    { r with
      state := r.prior.getD .standby
      prior := none
      followDeadline := r.remaining.map fun d => s.clock + d
      remaining := none }

/-- R33: the tests of RELEASE. -/
def State.releaseTarget (s : State) (slot : CueSlot) : Except Status ActiveCue :=
  match s.findCue slot with
  | none => .error .notStoodBy
  | some r => if r.state = .held then .ok r else .error .notHeld

/-- R33: RELEASE of a slot. -/
def releaseRequest (slot : CueSlot) (s : State) : State × Answer :=
  match s.releaseTarget slot with
  | .error st => (s, Answer.bare st)
  | .ok r => (s.changeCue (s.releasedCue r), Answer.with .ok (.cue slot (s.releasedCue r).state))

/-- A record that RELEASE(ALL) takes. -/
def ActiveCue.isHeld (r : ActiveCue) : Bool := r.state == .held

/-- R34: RELEASE(ALL). -/
def releaseAllRequest (s : State) : State × Answer :=
  if s.active.any ActiveCue.isHeld then
    ((s.active.filter ActiveCue.isHeld).foldl (fun t r => t.changeCue (t.releasedCue r)) s, Answer.bare .ok)
  else if s.active.isEmpty then (s, Answer.bare .notStoodBy)
  else (s, Answer.bare .notHeld)

/-! ## Removal and CANCEL -/

/-- R108, R109: the list has become empty; with a swap pending it completes. -/
def State.listEmptied (s : State) : State :=
  if s.active.isEmpty && s.swapPending then s.completeSwap .drain else s

/-- R48: remove a record with a final state and hand the removal on. -/
def State.removeCue (s : State) (r : ActiveCue) (final : DeskState) : State :=
  ((s.dropCue r.slot).deskStatus (s.deskBody r final)).listEmptied

/-- R57: the tests of CANCEL. -/
def State.cancelTarget (s : State) (slot : CueSlot) : Except Status ActiveCue :=
  match s.findCue slot with
  | none => .error .notStoodBy
  | some r => if r.state = .going then .error .tooLate else .ok r

/-- R57: CANCEL of a slot. -/
def cancelRequest (slot : CueSlot) (s : State) : State × Answer :=
  match s.cancelTarget slot with
  | .error st => (s, Answer.bare st)
  | .ok r => (s.removeCue r .cancelled, Answer.with .ok (.slot slot))

/-- A record that CANCEL(ALL) takes. -/
def ActiveCue.cancellable (r : ActiveCue) : Bool := r.state != .going

/-- R58: CANCEL(ALL). -/
def cancelAllRequest (s : State) : State × Answer :=
  if s.active.any ActiveCue.cancellable then
    ((s.active.filter ActiveCue.cancellable).foldl (fun t r => t.removeCue r .cancelled) s, Answer.bare .ok)
  else if s.active.isEmpty then (s, Answer.bare .notStoodBy)
  else (s, Answer.bare .tooLate)

/-! ## Expiries -/

/-- R29: the ack deadline of a record expires. -/
def State.ackExpired (s : State) (r : ActiveCue) : State :=
  if r.state = .standby ∨ (r.state = .held ∧ r.prior = some .standby) then
    (s.changeCue { r with ackDeadline := none, overdue := true }).raise (.ackOverdue r.slot r.awaited.count)
  else s.putCue { r with ackDeadline := none }

/-- R29: expiry of the ack deadline of a slot's record, when it is due. -/
def State.ackExpiry (s : State) (slot : CueSlot) : State :=
  match s.findCue slot with
  | none => s
  | some r => if s.reached r.ackDeadline then s.ackExpired r else s

/-- R45: the origin a refused follow GO of a record carries. -/
def ActiveCue.followOrigin (r : ActiveCue) : RefusedOrigin :=
  match r.origin with
  | .follow q => .follow (some q)
  | _ => .follow none

/-- R55: the deadline leaves the record, then GO with origin FOLLOW. -/
def State.followExpired (s : State) (r : ActiveCue) : State :=
  let t := s.putCue { r with followDeadline := none }
  match t.goTarget r.slot with
  | .error st => t.refuseCue r.slot st r.followOrigin
  | .ok x => t.takeGo x

/-- R55: expiry of the follow deadline of a slot's record, when it is due. -/
def State.followExpiry (s : State) (slot : CueSlot) : State :=
  match s.findCue slot with
  | none => s
  | some r => if s.reached r.followDeadline then s.followExpired r else s

/-- R47: expiry of the go-display deadline of a slot's record, when it is due. -/
def State.goDisplayExpiry (s : State) (slot : CueSlot) : State :=
  match s.findCue slot with
  | none => s
  | some r => if s.reached r.goDisplay then s.removeCue r .done else s

/-! ## Cue keys and presence -/

/-- R22: a record that a cue-key press of a port reaches. -/
def ActiveCue.takesAck (r : ActiveCue) (p : Port) : Bool :=
  (r.state == .standby || r.state == .held) && r.awaited.mem p

/-- R22: the record with the port acknowledged, tested for READY (a HELD record is not tested, R21). -/
def State.ackedCue (s : State) (r : ActiveCue) (p : Port) : ActiveCue :=
  s.testReady { r with awaited := r.awaited.erase p, acked := r.acked.insert p }

/-- R22: a cue-key press. -/
def State.cuePress (s : State) (p : Port) : State :=
  (s.active.filter fun r => r.takesAck p).foldl (fun t r => t.changeCue (t.ackedCue r p)) s

/-- R25: a record in which a port leaving presence moves. -/
def ActiveCue.losesPort (r : ActiveCue) (p : Port) : Bool := r.awaited.mem p || r.acked.mem p

/-- R25: the record with the port absent, tested for READY. -/
def State.lostCue (s : State) (r : ActiveCue) (p : Port) : ActiveCue :=
  s.testReady { r with awaited := r.awaited.erase p, acked := r.acked.erase p, absent := r.absent.insert p }

/-- R25: a port has left presence. -/
def State.portLost (s : State) (p : Port) : State :=
  (s.active.filter fun r => r.losesPort p).foldl (fun t r => t.changeCue (t.lostCue r p)) s

/-- R26: a record in which a returning port moves. -/
def ActiveCue.regainsPort (r : ActiveCue) (p : Port) : Bool :=
  (r.state == .standby || r.state == .held) && r.absent.mem p

/-- R26: the record with the port awaited again; no test follows. -/
def ActiveCue.regained (r : ActiveCue) (p : Port) : ActiveCue :=
  { r with absent := r.absent.erase p, awaited := r.awaited.insert p }

/-- R26: a port has become present. -/
def State.portReturned (s : State) (p : Port) : State :=
  (s.active.filter fun r => r.regainsPort p).foldl (fun t r => t.changeCue (r.regained p)) s

end Sys2Proof.Machine
end

