-- ==== Sys2Proof/Machine/Motion.lean ====
section
/-! DEFINITION. The Motion Counter Unit: levels and steps (R77–R79), index pulses and jumps (R80–R83), the comparison
with the Position Cue List (R87, R88), and COUNTER_CONTROL (R94–R97). -/

namespace Sys2Proof.Machine

/-! ## What a change of level yields -/

/-- R77: the next pair along the forward cycle 00, 10, 11, 01, 00. -/
def forwardPair (a b : Bool) : Bool × Bool := (!b, a)

/-- R77: the step a change of A and B yields, judged against the reference: some true is UP, some false is DOWN, none
is no step. `both` is the step of a double rise in UP_DOWN (log 21). -/
def stepOf (mode : CountMode) (ref : Levels) (a b : Bool) (both : Option Bool) : Option Bool :=
  match mode with
  | .quadrature =>
    if (a, b) = (ref.a, ref.b) then none
    else if (a, b) = forwardPair ref.a ref.b then some true
    else if (ref.a, ref.b) = forwardPair a b then some false
    else none
  | .pulseDirection => if !ref.a && a then some (!b) else none
  | .upDown =>
    if !ref.a && a then (if !ref.b && b then both else some true)
    else if !ref.b && b then some false
    else none
  | .countUp => if !ref.a && a then some true else none

/-- A double rise in UP_DOWN, whose step is a free value (log 21). -/
def drawsFree (mode : CountMode) (ref : Levels) (a b : Bool) : Bool := mode == .upDown && !ref.a && a && !ref.b && b

/-! ## Position matches -/

/-- R87: the direction of an entry accepts a step. -/
def StepDirectionAccepts (d : StepDirection) (up : Bool) : Bool :=
  match d with
  | .up => up
  | .down => !up
  | .either => true

/-- R87: an entry matches the value after a step and the step's direction. -/
def PositionEntry.matchesStep (e : PositionEntry) (value : Int) (up : Bool) : Bool :=
  e.target == value && StepDirectionAccepts e.direction up

/-- R88: the entry's request, with origin POSITION. -/
def State.sendPosition (s : State) (c : CounterId) (e : PositionEntry) : State :=
  match e.action with
  | .standby => s.standbyByPosition c e.slot
  | .go => s.goByPosition c e.slot

/-- R88: the index advances, and the comparison is exhausted when the index reaches the length. -/
def State.advance (s : State) (c : CounterId) : State :=
  if (s.counter c).index + 1 = s.listLength c then
    (s.setCounter c { s.counter c with index := (s.counter c).index + 1, comparison := .exhausted }).raise
      (.positionExhausted c (s.listLength c))
  else s.setCounter c { s.counter c with index := (s.counter c).index + 1 }

/-- R87, R88: test the entry at the current index against an applied step. -/
def State.testPosition (s : State) (c : CounterId) (up : Bool) : State :=
  if (s.counter c).comparison = .running then
    match (s.positionList c)[(s.counter c).index]? with
    | some e =>
      if e.valid && e.matchesStep (s.counter c).value up then (s.sendPosition c e).advance c else s
    | none => s
  else s

/-! ## Steps -/

/-- The value after a step (R78). -/
def stepValue (v : Int) (up : Bool) : Int := if up then v + 1 else v - 1

/-- R79: a RUNNING comparison passes to SUSPENDED; any other keeps its state. -/
def Comparison.suspend : Comparison → Comparison
  | .running => .suspended
  | x => x

/-- R79: a step beyond the range puts the counter in OVERRANGE at the bound it stands at. -/
def State.overrange (s : State) (c : CounterId) (bound : Int) : State :=
  ((s.setCounter c { s.counter c with
      value := bound, state := .overrange, comparison := (s.counter c).comparison.suspend }).raise
    (.counterOverrange c bound)).evalCounterZones c

/-- The bound a step would pass (R79). -/
def boundOf (up : Bool) : Int := if up then 999999 else -999999

/-- R78, R79: one step of a counter. -/
def State.applyStep (s : State) (c : CounterId) (up : Bool) : State :=
  if (s.counter c).state = .overrange then s
  else if inRange (stepValue (s.counter c).value up) then
    ((s.setCounter c { s.counter c with value := stepValue (s.counter c).value up }).evalCounterZones c).testPosition c
      up
  else s.overrange c (boundOf up)

/-! ## Jumps and index pulses -/

/-- R80, R82: a jump to a value: the counter counts from it and its zones are evaluated. -/
def State.jumpTo (s : State) (c : CounterId) (v : Int) : State :=
  s.setCounter c { s.counter c with value := v, state := .counting }

/-- R81: an index pulse. With the arm set the value becomes the preset, the arm clears, COUNTER_RESET is raised and
the zones are evaluated. -/
def State.applyIndex (s : State) (c : CounterId) : State :=
  if (s.counter c).arm then
    (((s.jumpTo c (s.counter c).preset).setCounter c
        { (s.jumpTo c (s.counter c).preset).counter c with arm := false }).raise
      (.counterReset c (s.counter c).value (s.counter c).preset)).evalCounterZones c
  else s

/-! ## Changes of level -/

/-- R83, R170: the Start-up Loader is not running, so frames, steps and index pulses are taken. -/
def State.loaded (s : State) : Bool := s.loader != .loading

/-- R77: the new levels of A and B become the reference. -/
def State.takeAB (s : State) (c : CounterId) (a b : Bool) : State :=
  s.setCounter c { s.counter c with ref := { (s.counter c).ref with a := a, b := b } }

/-- R81: the new level of Z becomes the reference. -/
def State.takeZ (s : State) (c : CounterId) (z : Bool) : State :=
  s.setCounter c { s.counter c with ref := { (s.counter c).ref with z := z } }

/-- The step a new pair of levels yields at a counter, the free value of a double rise drawn (log 21). -/
def State.stepHere (s : State) (c : CounterId) (a b : Bool) : Option Bool :=
  stepOf (s.counter c).mode (s.counter c).ref a b (Config.bothRise s.fresh)

/-- A free value drawn is never drawn again. -/
def State.draw (s : State) (drawn : Bool) : State := { s with fresh := if drawn then s.fresh + 1 else s.fresh }

/-- R77: new levels of A and B reach a counter. -/
def State.levelAB (s : State) (c : CounterId) (a b : Bool) : State :=
  let t := s.setPins c { s.pin c with a := a, b := b }
  if t.loaded then
    let u := (t.takeAB c a b).draw (drawsFree (t.counter c).mode (t.counter c).ref a b)
    match t.stepHere c a b with
    | none => u
    | some up => u.applyStep c up
  else t

/-- R81: a new level of Z reaches a counter. -/
def State.levelZ (s : State) (c : CounterId) (z : Bool) : State :=
  let t := s.setPins c { s.pin c with z := z }
  if t.loaded then
    if z && !(t.counter c).ref.z then (t.takeZ c z).applyIndex c else t.takeZ c z
  else t

/-- R77, R81: a change of level of a counter's signals. Levels that stand on the pins before the counter takes the
change leave the counter as it is; a MODE taken first sees them in the reference it renews (R98, log 43). -/
def State.changeLevel (s : State) (c : CounterId) : LevelChange → State
  | .ab a b => s.levelAB c a b
  | .z level => s.levelZ c level
  | .pins a b z => s.setPins c { a := a, b := b, z := z }

/-! ## COUNTER_CONTROL -/

/-- R94: every reply carries the counter as it stands after the request. -/
def State.counterData (s : State) (c : CounterId) : ReplyData :=
  .counter (s.counter c).value (s.counter c).state (s.counter c).comparison (s.counter c).index

/-- An answer about a counter, with its data as it stands in the state given. -/
def State.counterAnswer (s : State) (c : CounterId) (st : Status) : State × Answer :=
  (s, Answer.with st (s.counterData c))

/-- R94: a counter other than M1 and M2 is refused BAD_INDEX; otherwise the command is tested by its own rule. The
model's choice (log 39): the counter is tested before a MODE's mode field. -/
def counterControl (c : Named CounterId) (command : CounterId → State → State × Status) (s : State) :
    State × Answer :=
  match c with
  | none => (s, Answer.bare .badIndex)
  | some x => (command x s).1.counterAnswer x (command x s).2

/-- R95: SET. -/
def commandSet (v : Int) (c : CounterId) (s : State) : State × Status :=
  if inRange v then ((s.jumpTo c v).evalCounterZones c, .ok) else (s, .badValue)

/-- R95: PRESET. -/
def commandPreset (v : Int) (c : CounterId) (s : State) : State × Status :=
  if inRange v then (s.setCounter c { s.counter c with preset := v }, .ok) else (s, .badValue)

/-- R95: ARM_INDEX and DISARM_INDEX. -/
def commandArm (arm : Bool) (c : CounterId) (s : State) : State × Status :=
  (s.setCounter c { s.counter c with arm := arm }, .ok)

/-- R96: START. An index that is not below the length has no entry to run from. -/
def commandStart (c : CounterId) (s : State) : State × Status :=
  if (s.counter c).state = .overrange then (s, .overrange)
  else if s.listLength c ≤ (s.counter c).index then (s, .exhausted)
  else (s.setCounter c { s.counter c with comparison := .running }, .ok)

/-- R96: STOP. -/
def commandStop (c : CounterId) (s : State) : State × Status :=
  (s.setCounter c { s.counter c with comparison := .stopped }, .ok)

/-- R96: EXHAUSTED passes to STOPPED at a SEEK; STOPPED and SUSPENDED are kept. -/
def Comparison.sought : Comparison → Comparison
  | .exhausted => .stopped
  | x => x

/-- R96: SEEK. -/
def commandSeek (i : Nat) (c : CounterId) (s : State) : State × Status :=
  if (s.counter c).comparison = .running then (s, .busy)
  else if s.listLength c < i then (s, .badValue)
  else (s.setCounter c { s.counter c with index := i, comparison := (s.counter c).comparison.sought }, .ok)

/-- R97: MODE. -/
def commandMode (m : Named CountMode) (c : CounterId) (s : State) : State × Status :=
  match m with
  | none => (s, .badValue)
  | some x =>
    if (s.counter c).comparison = .stopped then
      (s.setCounter c { s.counter c with mode := x, ref := s.pin c }, .ok)
    else (s, .busy)

/-- R94: a command outside the eight, or a payload whose length does not fit its command; a reply about M1 or M2
carries the counter. -/
def counterMisfit (c : Named CounterId) (s : State) : State × Answer :=
  match c with
  | none => (s, Answer.bare .badValue)
  | some x => s.counterAnswer x .badValue

end Sys2Proof.Machine
end

