-- ==== Sys2Proof/Machine/Talk.lean ====
section
/-! DEFINITION. The Talk Arbiter: talker lists, wait queues, requests, grants, preemption, key actions, idle release and
DENIED periods (R115–R135), and the Channel Table and Router Settings (R114, R119). -/

namespace Sys2Proof.Machine

/-! ## One channel's lists -/

/-- R121: join the wait queue at the end of the entry's priority class. -/
def queueAtEnd (e : TalkEntry) (q : List TalkEntry) : List TalkEntry :=
  q.takeWhile (fun x => decide (e.priority ≤ x.priority)) ++ e :: q.dropWhile fun x => decide (e.priority ≤ x.priority)

/-- R115, R121, R125: join the wait queue at the front of the entry's priority class, behind the entries of that class
whose ports are already placed by the same write. -/
def queueAtFront (placed : List Port) (e : TalkEntry) (q : List TalkEntry) : List TalkEntry :=
  let ahead : TalkEntry → Bool := fun x =>
    decide (e.priority < x.priority) || (x.priority == e.priority && placed.contains x.port)
  q.takeWhile ahead ++ e :: q.dropWhile ahead

/-- The entry a port holds on a channel, talker or waiting (R122: at most one). -/
def ChannelTalk.entryOf (t : ChannelTalk) (p : Port) : Option TalkEntry :=
  (t.talkers ++ t.waiters).find? fun e => e.port == p

/-- The lists without a port's entries. -/
def ChannelTalk.without (t : ChannelTalk) (p : Port) : ChannelTalk :=
  { t with talkers := t.talkers.filter fun e => e.port != p, waiters := t.waiters.filter fun e => e.port != p }

/-- The places free under a number of places. -/
def ChannelTalk.room (t : ChannelTalk) (places : Nat) : Nat := places - t.talkers.length

/-- R126: grant heads of the wait queue until the places are filled or the queue is empty. -/
def ChannelTalk.granted (t : ChannelTalk) (places : Nat) : ChannelTalk :=
  { t with talkers := t.talkers ++ t.waiters.take (t.room places), waiters := t.waiters.drop (t.room places) }

/-- R125: the talker a request of a priority preempts: the most recently granted of the lowest priority, when that
priority is below the request's. -/
def ChannelTalk.victim (t : ChannelTalk) (priority : Fin 4) : Option TalkEntry :=
  match (t.talkers.map TalkEntry.priority).min? with
  | none => none
  | some low => if low < priority then t.talkers.reverse.find? fun e => e.priority == low else none

/-! ## The idle timer, grants and DENIED periods -/

/-- R131: reload a channel's idle timer. -/
def State.reloadIdle (s : State) (c : Chan) : State :=
  s.setTalk c { s.talk[c] with
    idle := if s.channels[c].idleRelease = 0 then none else some (s.clock + seconds s.channels[c].idleRelease) }

/-- R126, R131: grant heads; grants reload the timer unless they are made by an idle expiry. -/
def State.grantHeads (s : State) (c : Chan) (reload : Bool) : State :=
  let t := s.setTalk c (s.talk[c].granted s.channels[c].maxTalkers)
  if reload && decide (0 < s.talk[c].room s.channels[c].maxTalkers) && !s.talk[c].waiters.isEmpty then t.reloadIdle c
  else t

/-- R135: start a DENIED period of 1,000 ms. -/
def State.startDenied (s : State) (p : Port) (k : KeySlot) : State := s.setDenied p k (some (s.clock + ms 1000))

/-- R118, R126, R133: remove a port's entry from a channel; a talker's removal grants heads. -/
def State.removeTalk (s : State) (c : Chan) (p : Port) : State :=
  let t := s.setTalk c (s.talk[c].without p)
  if s.talk[c].talkers.any fun e => e.port == p then t.grantHeads c true else t

/-- A release by a key: the removal, then the reload it is as channel activity (R123, R131). -/
def State.releaseTalk (s : State) (c : Chan) (p : Port) : State := (s.removeTalk c p).reloadIdle c

/-! ## Preemption and requests -/

/-- R115, R125: an entry taken out of the talker list is offered to the wait queue: placed at the front of its class, or
dropped when the queue holds 8; TALK_PREEMPTED is raised either way. -/
def State.displace (s : State) (c : Chan) (placed : List Port) (cause : PreemptCause) (e : TalkEntry) : State :=
  if s.talk[c].waiters.length < 8 then
    (s.setTalk c { s.talk[c] with waiters := queueAtFront placed e s.talk[c].waiters }).raise
      (.talkPreempted c e.port cause .queued)
  else (s.startDenied e.port e.slot).raise (.talkPreempted c e.port cause .dropped)

/-- Append an entry to a channel's talker list (R124 step 1). -/
def State.appendTalker (s : State) (c : Chan) (e : TalkEntry) : State :=
  s.setTalk c { s.talk[c] with talkers := s.talk[c].talkers ++ [e] }

/-- Take an entry out of a channel's talker list. -/
def State.dropTalker (s : State) (c : Chan) (e : TalkEntry) : State :=
  s.setTalk c { s.talk[c] with talkers := s.talk[c].talkers.filter fun x => x.port != e.port }

/-- The victim of a request that finds the list full, when the channel lets it preempt (R124 step 2). -/
def State.victimOf (s : State) (c : Chan) (e : TalkEntry) : Option TalkEntry :=
  if s.channels[c].preemption then s.talk[c].victim e.priority else none

/-- R124: the four steps of a request. The making of an entry clears the slot's DENIED period. -/
def State.requestSteps (s : State) (c : Chan) (e : TalkEntry) : State :=
  if s.talk[c].talkers.length < s.channels[c].maxTalkers then (s.appendTalker c e).setDenied e.port e.slot none
  else
    match s.victimOf c e with
    | some v =>
      (((s.dropTalker c v).displace c [] (.priority e.port) v).appendTalker c e).setDenied e.port e.slot none
    | none =>
      if s.talk[c].waiters.length < 8 then
        (s.setTalk c { s.talk[c] with waiters := queueAtEnd e s.talk[c].waiters }).setDenied e.port e.slot none
      else s.startDenied e.port e.slot

/-- R124, R131: a talk request, whatever its outcome, is channel activity. -/
def State.requestTalk (s : State) (c : Chan) (e : TalkEntry) : State := (s.requestSteps c e).reloadIdle c

/-! ## Talk keys -/

/-- R123: the channel a slot's talk key acts on; none for an inert slot, a slot with no channel and a LISTEN slot. -/
def State.talkChannel (s : State) (p : Port) (k : KeySlot) : Option Chan :=
  if s.inert p k || !(s.slotConfig p k).mode.talks then none else (s.slotConfig p k).channel

/-- The entry a request from a slot makes (R120, R123). -/
def State.newTalkEntry (s : State) (p : Port) (k : KeySlot) (latched : Bool) (press : Option Time) : TalkEntry :=
  { port := p, slot := k, priority := s.profiles[p].priority, latched := latched, pressTime := press }

/-- R127–R129: a talk-key press. -/
def State.talkPress (s : State) (p : Port) (k : KeySlot) : State :=
  match s.talkChannel p k with
  | none => s
  | some c =>
    match (s.slotConfig p k).action, s.talk[c].entryOf p with
    | .momentary, some _ => s
    | .momentary, none => s.requestTalk c (s.newTalkEntry p k false none)
    | .latching, some _ => s.releaseTalk c p
    | .latching, none => s.requestTalk c (s.newTalkEntry p k true none)
    | .auto, some _ => s.releaseTalk c p
    | .auto, none => s.requestTalk c (s.newTalkEntry p k false (some s.clock))

/-- R130: the entry of a port latched, its measurement ended. -/
def ChannelTalk.latch (t : ChannelTalk) (p : Port) : ChannelTalk :=
  let f : TalkEntry → TalkEntry := fun e => if e.port == p then { e with latched := true, pressTime := none } else e
  { t with talkers := t.talkers.map f, waiters := t.waiters.map f }

/-- R130: the measurement of an entry is below the auto-latch threshold. -/
def State.isTap (s : State) (e : TalkEntry) : Bool :=
  match e.pressTime with
  | some t => decide (s.clock - t < ms s.router.threshold)
  | none => false

/-- R127, R128, R130: a talk-key release. -/
def State.talkRelease (s : State) (p : Port) (k : KeySlot) : State :=
  match s.talkChannel p k with
  | none => s
  | some c =>
    match (s.slotConfig p k).action, s.talk[c].entryOf p with
    | .momentary, some _ => s.releaseTalk c p
    | .auto, some e => if s.isTap e then s.setTalk c (s.talk[c].latch p) else s.releaseTalk c p
    | _, _ => s

/-! ## Idle release and leaving UP -/

/-- R132: the lists without their latched entries. -/
def ChannelTalk.unlatched (t : ChannelTalk) : ChannelTalk :=
  { talkers := t.talkers.filter fun e => !e.latched, waiters := t.waiters.filter fun e => !e.latched, idle := none }

/-- R132: the number of latched entries. -/
def ChannelTalk.latchedCount (t : ChannelTalk) : Nat :=
  t.talkers.countP TalkEntry.latched + t.waiters.countP TalkEntry.latched

/-- R132: a channel's idle timer has expired. -/
def State.idleExpired (s : State) (c : Chan) : State :=
  if s.talk[c].latchedCount = 0 then s.setTalk c { s.talk[c] with idle := none }
  else ((s.setTalk c s.talk[c].unlatched).grantHeads c false).raise (.idleRelease c s.talk[c].latchedCount)

/-- R132: expiry of a channel's idle timer, when it is due. -/
def State.idleExpiry (s : State) (c : Chan) : State := if s.reached s.talk[c].idle then s.idleExpired c else s

/-- R135: end of a slot's DENIED period, when it is due. -/
def State.deniedExpiry (s : State) (p : Port) (k : KeySlot) : State :=
  if s.reached s.denied[p][k] then s.setDenied p k none else s

/-- R133: every DENIED period of a port ends. -/
def State.clearDenied (s : State) (p : Port) : State := { s with denied := put s.denied p (Vector.replicate 4 none) }

/-- R133: a port leaves UP: its entries go, with the grants that follow, and its DENIED periods end. -/
def State.leaveUp (s : State) (p : Port) : State :=
  (allChannels.foldl (fun t c => t.removeTalk c p) s).clearDenied p

/-! ## Table writes that reach talk -/

/-- R118, R135: a profile write changed a slot's channel or mode: the entry on the old channel goes, and the slot's
DENIED period ends. -/
def State.rewriteTalkSlot (s : State) (p : Port) (old new : Vector SlotConfig 4) (k : KeySlot) : State :=
  if old[k].channel = new[k].channel ∧ old[k].mode = new[k].mode then s
  else
    match old[k].channel with
    | none => s.setDenied p k none
    | some c => (s.removeTalk c p).setDenied p k none

/-- R115: the excess talkers are offered to the wait queue, the earliest granted first. -/
def State.displaceExcess (s : State) (c : Chan) : List Port → List TalkEntry → State
  | _, [] => s
  | placed, e :: rest => (s.displace c placed .channelWrite e).displaceExcess c (e.port :: placed) rest

/-- R115: a changed max talkers acts on the talker list. -/
def State.resizeTalkers (s : State) (c : Chan) (n : Nat) : State :=
  if n < s.talk[c].talkers.length then
    (s.setTalk c { s.talk[c] with talkers := s.talk[c].talkers.take n }).displaceExcess c []
      (s.talk[c].talkers.drop n)
  else s.grantHeads c true

/-- R116: with idle release 0 a running timer is stopped; otherwise it keeps its deadline. -/
def State.restopIdle (s : State) (c : Chan) (e : ChannelEntry) : State :=
  if e.idleRelease = 0 then s.setTalk c { s.talk[c] with idle := none } else s

/-- R114: replace a channel entry. -/
def State.setChannel (s : State) (c : Chan) (e : ChannelEntry) : State := { s with channels := put s.channels c e }

/-- R114–R116: an accepted Channel Table write. -/
def State.storeChannel (s : State) (c : Chan) (e : ChannelEntry) : State :=
  let t := (s.setChannel c e).restopIdle c e
  if e.maxTalkers = s.channels[c].maxTalkers then t else t.resizeTalkers c e.maxTalkers

/-- R114: READ_ENTRY of the Channel Table. -/
def readChannel (bank : Named BankSel) (index : Nat) (s : State) : Answer :=
  readEntry bank (oneBased 16 index) fun _ i => .channelEntry s.channels[i]

/-- R114: WRITE_ENTRY of the Channel Table. -/
def writeChannel (index : Nat) (w : ChannelWrite) (s : State) : State × Answer :=
  writeEntry (oneBased 16 index) (fun _ => checkChannel w) s.storeChannel s

/-- R119: READ_ENTRY of the Router Settings. -/
def readRouter (bank : Named BankSel) (index : Nat) (s : State) : Answer :=
  readEntry bank (zeroBased 1 index) fun _ _ => .routerEntry s.router

/-- R119: WRITE_ENTRY of the Router Settings. -/
def writeRouter (index : Nat) (w : RouterWrite) (s : State) : State × Answer :=
  writeEntry (zeroBased 1 index) (fun _ => checkRouter w) (fun _ r => { s with router := r }) s

end Sys2Proof.Machine
end

