-- ==== Sys2Proof/Machine/Calls.lean ====
section
/-! DEFINITION. The Call Unit: calls sent, answered, expired and cleared (R140–R144). -/

namespace Sys2Proof.Machine

/-- Every key slot of every port, P0's first. -/
def everySlot : List (Port × KeySlot) := allPorts.flatMap fun p => allSlots.map fun k => (p, k)

/-- R141 step 1: a slot that a call on channel c from port p reaches. -/
def State.receivesCall (s : State) (p : Port) (c : Chan) (x : Port × KeySlot) : Bool :=
  x.1 != p && s.present x.1 && !s.inert x.1 x.2 && (s.slotConfig x.1 x.2).channel == some c
    && (s.slotConfig x.1 x.2).mode.hears

/-- R141: a slot takes or restarts a flash. -/
def State.flashSlot (s : State) (p : Port) (c : Chan) (x : Port × KeySlot) : State :=
  s.setCall x.1 x.2 { s.calls[x.1][x.2] with
    flash := some { caller := p, deadline := s.clock + ms s.channels[c].callDisplay } }

/-- R141 step 1: every recipient flashes. -/
def State.flashRecipients (s : State) (p : Port) (c : Chan) : State :=
  (everySlot.filter (s.receivesCall p c)).foldl (fun t x => t.flashSlot p c x) s

/-- R141 step 2: the caller's holdoff. -/
def State.startHoldoff (s : State) (p : Port) (k : KeySlot) : State :=
  if s.router.holdoff = 0 then s
  else s.setCall p k { s.calls[p][k] with holdoff := some (s.clock + ms s.router.holdoff) }

/-- R141: a call taken on channel c from port p and slot k. -/
def State.takeCall (s : State) (p : Port) (k : KeySlot) (c : Chan) : State :=
  ((s.flashRecipients p c).startHoldoff p k).reloadIdle c

/-- R140: the channel a call-key press of an UP port calls on, when it is taken. -/
def State.callChannel (s : State) (p : Port) (k : KeySlot) : Option Chan :=
  if s.inert p k || !(s.slotConfig p k).callAllowed || s.calls[p][k].holdoff.isSome then none
  else (s.slotConfig p k).channel

/-- R140, R141: a call-key press of an UP port. -/
def State.callPress (s : State) (p : Port) (k : KeySlot) : State :=
  match s.callChannel p k with
  | none => s
  | some c => s.takeCall p k c

/-- R143: the receiving part of a slot's record is cleared. -/
def State.stopFlash (s : State) (p : Port) (k : KeySlot) : State :=
  s.setCall p k { s.calls[p][k] with flash := none }

/-- The holdoff of a slot's record is removed. -/
def State.stopHoldoff (s : State) (p : Port) (k : KeySlot) : State :=
  s.setCall p k { s.calls[p][k] with holdoff := none }

/-- R142: expiry of a display deadline, when it is due. -/
def State.displayExpiry (s : State) (p : Port) (k : KeySlot) : State :=
  if s.reached (s.calls[p][k].flash.map Flash.deadline) then s.stopFlash p k else s

/-- R142: expiry of a holdoff deadline, when it is due. -/
def State.holdoffExpiry (s : State) (p : Port) (k : KeySlot) : State :=
  if s.reached s.calls[p][k].holdoff then s.stopHoldoff p k else s

/-- R144: a port leaving presence has its four records cleared. -/
def State.clearCalls (s : State) (p : Port) : State :=
  { s with calls := put s.calls p (Vector.replicate 4 CallRecord.cleared) }

/-- R144: an accepted profile write clears the receiving part of a slot. -/
def State.rewriteFlash (s : State) (p : Port) (old new : Vector SlotConfig 4) (k : KeySlot) : State :=
  if old[k].channel ≠ new[k].channel ∨ new[k].mode.hears = false ∨ s.inert p k = true then s.stopFlash p k else s

/-- R144: an accepted profile write removes the holdoff of a slot. -/
def State.rewriteHoldoff (s : State) (p : Port) (old new : Vector SlotConfig 4) (k : KeySlot) : State :=
  if new[k].callAllowed = false ∨ old[k].channel ≠ new[k].channel then s.stopHoldoff p k else s

end Sys2Proof.Machine
end

