-- ==== Sys2Proof/Machine/Loader.lean ====
section
/-! DEFINITION. The Start-up Loader: power-on and the load (R195, R196), SAVE and its progress (R197, R198), and RESTART
across the blocks (R199). -/

namespace Sys2Proof.Machine

/-! ## Power -/

/-- R198: what stands in the memory after a power loss: a running save leaves the image invalid. -/
def State.storeAfterLoss (s : State) : Option StoredImage := if s.loader = .saving then none else s.store

/-- R195: every piece of state at its power-on value, with or without power. The image in the memory, the levels on the
pins, the free values drawn and the waiting commands are not state of the part that a reset reaches (logs 6, 7, 8). -/
def State.atPowerOn (s : State) (powered : Bool) : State :=
  { State.reset with
    pending := s.pending, powered := powered, fresh := s.fresh, pins := s.pins, store := s.storeAfterLoss }

/-! ## The end of the load -/

/-- R195: the image a load reads, when the memory answers and the image is valid. -/
def State.readImage (s : State) (answered : Bool) : Option StoredImage := if answered then s.store else none

/-- R195: a valid image loaded entry by entry; bank A's tables are copied whole into bank B. -/
def State.loadImage (s : State) (i : StoredImage) : State :=
  { s with
    bankA := i.banked
    bankB := i.banked
    profiles := mapTable (fun p w => (checkProfile w).getD (Profile.default p)) i.profiles
    channels := mapTable (fun _ w => (checkChannel w).getD ChannelEntry.default) i.channels
    noticeControl := i.notices
    router := (checkRouter i.router).getD RouterSettings.default }

/-- R165, R196: at least one profile holds WRITE. -/
def someWriter (v : Vector Profile 32) : Bool := v.toList.any fun f => f.rights.write

/-- R196: when no profile holds WRITE, P0 gets every right and is enabled. -/
def State.guaranteeWriter (s : State) : State :=
  if someWriter s.profiles then s
  else s.setProfile 0 { s.profiles[(0 : Port)] with rights := ⟨true, true, true⟩, enabled := true }

/-- R170, R196: a port's record when it has fallen: DOWN while its profile is enabled, and DISABLED otherwise. -/
def fallenPort (f : Profile) : PortRecord :=
  { PortRecord.powerOn with state := if f.enabled then .down else .disabled }

/-- R170, R196 step 1, R199: every port by its profile. -/
def State.fallPorts (s : State) : State := { s with ports := s.profiles.map fallenPort }

/-- R83, R196 step 2: each counter takes the current levels as its reference. -/
def State.takeReferences (s : State) : State :=
  (s.setCounter .m1 { s.counter .m1 with ref := s.pin .m1 }).setCounter .m2 { s.counter .m2 with ref := s.pin .m2 }

/-- R196: the load ends, after the tables stand. -/
def State.finishLoad (s : State) (cause : StartCause) : State :=
  ({ s.guaranteeWriter with loader := .idle }.fallPorts.takeReferences.evalZones allZones).raise (.started cause)

/-- R195, R196: the end of the load. -/
def State.endLoad (s : State) (answered : Bool) : State :=
  match s.readImage answered with
  | some i => (s.loadImage i).finishLoad .loaded
  | none => s.finishLoad .defaults

/-! ## SAVE -/

/-- R197: the save snapshot. -/
def State.snapshot (s : State) : Snapshot :=
  { banked := s.liveTables, profiles := s.profiles, channels := s.channels, noticeControl := s.noticeControl,
    router := s.router }

/-- R198: the save ends and SAVE_DONE is raised. -/
def State.endSave (s : State) (ok : Bool) : State :=
  State.raise { s with loader := .idle, save := none } (.saveDone ok)

/-- R198: the stage after an answered write of a table. -/
def nextTable (answered : Nat) : SaveStage :=
  if answered < Config.tableWrites then .tables answered else .imageCheck

/-- R197: a save begins with its snapshot and its first memory write, which overwrites the marker. Answered, the stored
image is invalid from the acceptance on; unanswered, the save fails at once and the image stays as it stood (R198). Whether
the memory answers is a free value (log 42). -/
def State.beginSave (s : State) : State :=
  if Config.memoryAnswers s.fresh then
    { s with
      loader := .saving, fresh := s.fresh + 1, store := none
      save := some { snapshot := s.snapshot, stage := nextTable 0 } }
  else State.endSave { s with fresh := s.fresh + 1 } false

/-- R197: SAVE. -/
def saveRequest (s : State) : State × Answer :=
  if s.loader = .idle then (s.beginSave, Answer.bare .ok) else (s, Answer.bare .busy)

/-- R198: the marker write is answered: the image is valid and holds the snapshot. -/
def State.completeSave (s : State) (x : Save) : State :=
  State.endSave { s with store := some x.snapshot.toImage } true

/-- R197, R198: the write in progress is answered and the save goes on to its next write. -/
def State.writeAnswered (s : State) (x : Save) : State :=
  match x.stage with
  | .tables n => { s with save := some { x with stage := nextTable (n + 1) } }
  | .imageCheck => { s with save := some { x with stage := .marker } }
  | .marker => s.completeSave x

/-- R198: the write in progress, a later one than the first, is not answered: the image is left invalid. -/
def State.writeFailed (s : State) (_ : Save) : State := State.endSave { s with store := none } false

/-- R198: an event of a running save. -/
def State.saveStep (s : State) (event : State → Save → State) : State :=
  if s.loader = .saving then
    match s.save with
    | some x => event s x
    | none => s
  else s

/-- R198: the answered marker write completes a running save. -/
def State.saveAtMarker (s : State) : State :=
  s.saveStep fun t x => if x.stage = .marker then t.completeSave x else t

/-- R198: the image in the memory after a RESTART has let the write in progress finish. -/
def storeAfterAbandon (stage : SaveStage) (answered : Bool) (n : Snapshot) : Option StoredImage :=
  match stage, answered with
  | .marker, true => some n.toImage
  | _, _ => none

/-- R198, R199: RESTART abandons a running save and leaves the loader IDLE; whether the memory answers the write in
progress is a free value (log 8). -/
def State.abandonSave (s : State) : State :=
  match s.save with
  | none => { s with loader := .idle }
  | some x =>
    { s with
      loader := .idle, save := none, fresh := s.fresh + 1
      store := storeAfterAbandon x.stage (Config.memoryAnswers s.fresh) x.snapshot }

/-! ## RESTART -/

/-- R99: RESTART stops the comparison and keeps its index. -/
def Counter.halted (r : Counter) : Counter := { r with comparison := .stopped }

/-- R199: what RESTART empties and clears in the blocks. -/
def State.emptied (s : State) : State :=
  { s with
    active := []
    swapPending := false
    counters := s.counters.map Counter.halted
    talk := Vector.replicate 16 ChannelTalk.powerOn
    denied := Vector.replicate 32 (Vector.replicate 4 none)
    calls := Vector.replicate 32 (Vector.replicate 4 CallRecord.cleared)
    samples := Vector.replicate 32 none
    shown := Vector.replicate 32 ShownLamps.off
    assemblies := Vector.replicate 32 Assembly.empty
    queues := Vector.replicate 32 []
    gaps := Vector.replicate 32 false
    restartBy := none
    notices := Vector.replicate 18 NoticeRecord.empty
    noticeControl := { s.noticeControl with hold := false } }

/-- R199: RESTART carried out. -/
def State.restart (s : State) : State := s.emptied.fallPorts.abandonSave.raise (.started .restart)

/-- R185: RESTART at its acceptance. -/
def restartRequest (p : Port) (s : State) : State × Answer :=
  match s.restartBy with
  | some _ => (s, Answer.bare .already)
  | none => ({ s with restartBy := some p }, { status := .ok, data := .nothing, waits := .restart })

end Sys2Proof.Machine
end

