-- ==== Sys2Proof/Machine/Ports.lean ====
section
/-! DEFINITION. The Line Port Unit's states: leaving presence (R154, R158, R163), identification (R160–R162), port
control (R167), profile writes (R165, R166) and deferred actions (R168). -/

namespace Sys2Proof.Machine

/-! ## Falling to DOWN or DISABLED -/

/-- R192: LANE_LOST for each lane that leads to a port, in lane order. -/
def State.lanesLost (s : State) (p : Port) : State :=
  ((List.finRange 4).filter fun l => s.noticeControl.lanes[l].dest == p).foldl (fun t l => t.raise (.laneLost l p)) s

/-- R158, R163, R182: the port's own part of a fall: its record, its assembly, its transmit queue and its gap flag. -/
def State.clearPort (s : State) (p : Port) (target : PortState) : State :=
  (((s.setPort p { PortRecord.powerOn with state := target }).setAssembly p .empty).setQueue p []).setGap p false

/-- R158: what the other blocks do when a port leaves presence, in the order of the rule's table (log 11). -/
def State.leavePresence (s : State) (p : Port) : State :=
  (((((s.portLost p).leaveUp p).clearCalls p).setSample p none).setShown p ShownLamps.off).lanesLost p

/-- R154, R167: PORT_DOWN when the fall has a cause that raises it. -/
def State.portDown (s : State) (p : Port) : Option DownCause → State
  | none => s
  | some cause => s.raise (.portDown p cause)

/-- R185: a RESTART whose reply was lost with its port's queue is carried out at once (log 16). -/
def State.orphanRestart (s : State) (p : Port) : State := if s.restartBy = some p then s.restart else s

/-- R168: a deferred DISABLE takes a port to DISABLED whatever makes it fall. -/
def State.fallTarget (s : State) (p : Port) (target : PortState) : PortState :=
  if s.ports[p].deferred = some .disable then .disabled else target

/-- R154, R158, R163, R166, R167: a port passes to DOWN or DISABLED. -/
def State.fall (s : State) (p : Port) (target : PortState) (cause : Option DownCause) : State :=
  if s.present p then
    (((s.clearPort p (s.fallTarget p target)).leavePresence p).portDown p cause).orphanRestart p
  else s.clearPort p (s.fallTarget p target)

/-- R154: link loss. -/
def State.lineLost (s : State) (p : Port) : State := s.fall p .down (some .linkLoss)

/-! ## Identification -/

/-- R160: a good frame in DOWN takes the port to PROBING and queues the first ask. -/
def State.startProbing (s : State) (p : Port) : State :=
  (s.setPort p { s.ports[p] with state := .probing, asksSent := 1 }).queueAsk p 1

/-- R173: the class an octet names. -/
def classOf (o : Octet) : Option StationClass :=
  match o.toNat with
  | 1 => some .desk
  | 2 => some .beltpack
  | 3 => some .panel
  | 4 => some .booth
  | _ => none

/-- R161: the identification result a reply gives, when its tag, class and key count pass. -/
def State.identOf (s : State) (p : Port) (tag cls keyCount : Octet) (serial : BitVec 32) : Option Ident :=
  (classOf cls).bind fun c =>
    guarded
      (s.ports[p].state == .probing && decide (1 ≤ tag.toNat ∧ tag.toNat ≤ s.ports[p].asksSent)
        && decide (1 ≤ keyCount.toNat ∧ keyCount.toNat ≤ 4))
      { cls := c, keyCount := keyCount.toNat, serial := serial }

/-- R161: the expected class accepts a reported class. -/
def ExpectedClassAccepts (e : ExpectedClass) (c : StationClass) : Bool :=
  match e with
  | .any => true
  | .only x => x == c

/-- R159, R161: the port enters UP. -/
def State.enterUp (s : State) (p : Port) (i : Ident) (keys : Keys) : State :=
  ((((((s.setPort p { s.ports[p] with
          state := .up, ident := some i, asksSent := 0, askDeadline := none, keyRef := some keys }).setAssembly p
    .empty).dropAsks p).portReturned p).offer p).raise (.portUp p i.cls i.keyCount))

/-- R161, R162: the port enters FAULT; its queue is emptied and a partial message discarded. -/
def State.enterFault (s : State) (p : Port) (i : Option Ident) (cause : FaultCause) : State :=
  (((s.setPort p { s.ports[p] with state := .fault, ident := i, askDeadline := none }).setAssembly p .empty).setQueue p
    []).raise (.portFault p cause)

/-- R161: an IDENT reply taken is judged against the expected class. -/
def State.judgeIdent (s : State) (p : Port) (i : Ident) (keys : Keys) : State :=
  if ExpectedClassAccepts s.profiles[p].expected i.cls then s.enterUp p i keys
  else s.enterFault p (some i) (.classMismatch i.cls s.profiles[p].expected)

/-- R161: a complete IDENT reply. -/
def State.takeIdent (s : State) (p : Port) (tag cls keyCount : Octet) (serial : BitVec 32) (keys : Keys) : State :=
  match s.identOf p tag cls keyCount serial with
  | none => s
  | some i => s.judgeIdent p i keys

/-- R162: the ask deadline of a port has expired. -/
def State.askExpired (s : State) (p : Port) : State :=
  if s.ports[p].asksSent < 3 then
    (s.setPort p { s.ports[p] with askDeadline := none, asksSent := s.ports[p].asksSent + 1 }).queueAsk p
      (s.ports[p].asksSent + 1)
  else s.enterFault p none .identTimeout

/-- R162: expiry of a port's ask deadline, when it is due. -/
def State.askExpiry (s : State) (p : Port) : State :=
  if s.ports[p].state = .probing ∧ s.reached s.ports[p].askDeadline = true then s.askExpired p else s

/-! ## Deferred actions -/

/-- R168: a deferred action carried out. -/
def State.carryOut (s : State) (p : Port) : State :=
  match s.ports[p].deferred with
  | none => s
  | some .disable => s.fall p .disabled none
  | some .restart => s.fall p .down (some .portRestart)

/-- R168: store a deferred action. -/
def State.defer (s : State) (p : Port) (d : Option Deferred) : State :=
  s.setPort p { s.ports[p] with deferred := d }

/-- R168, R185: the reply that something waits for has been fully sent: no entry of the queue holds it. -/
def replySent (w : Waits) (q : List TxEntry) : Bool := q.all fun e => e.waits != w

/-! ## Port control -/

/-- R167: an answer that carries a port's state after the command. -/
def State.portAnswer (s : State) (n : Port) (w : Waits) : State × Answer :=
  (s, { status := .ok, data := .portState s.ports[n].state, waits := w })

/-- R167: a number above 31 is refused BAD_INDEX. -/
def portControl (n : Nat) (command : Port → State → State × Answer) (s : State) : State × Answer :=
  match zeroBased 32 n with
  | none => (s, Answer.bare .badIndex)
  | some x => command x s

/-- R167: the enabled field of a profile. -/
def State.setEnabled (s : State) (n : Port) (e : Bool) : State := s.setProfile n { s.profiles[n] with enabled := e }

/-- R166, R167: a DISABLED port passes to DOWN. -/
def State.wake (s : State) (n : Port) : State := s.setPort n { PortRecord.powerOn with state := .down }

/-- R167: ENABLE. -/
def commandEnable (n : Port) (s : State) : State × Answer :=
  if s.ports[n].state = .disabled then ((s.setEnabled n true).wake n).portAnswer n .nothing
  else (s, Answer.bare .already)

/-- R167, R168: DISABLE, sent by port p. -/
def commandDisable (p n : Port) (s : State) : State × Answer :=
  if s.ports[n].state = .disabled then (s, Answer.bare .already)
  else if n = p then
    ((s.setEnabled n false).defer n (some .disable),
      { status := .ok, data := .portState .disabled, waits := .deferred })
  else ((s.setEnabled n false).fall n .disabled none).portAnswer n .nothing

/-- R167: QUIET. -/
def commandQuiet (n : Port) (s : State) : State × Answer :=
  match s.ports[n].state with
  | .up => ((s.setPort n { s.ports[n] with state := .quiet }).leaveUp n).portAnswer n .nothing
  | .quiet => (s, Answer.bare .already)
  | _ => (s, Answer.bare .busy)

/-- R167: UNQUIET. -/
def commandUnquiet (n : Port) (s : State) : State × Answer :=
  match s.ports[n].state with
  | .quiet => (s.setPort n { s.ports[n] with state := .up }).portAnswer n .nothing
  | .up => (s, Answer.bare .already)
  | _ => (s, Answer.bare .busy)

/-- R167, R168: RESTART of a port, sent by port p. A deferred DISABLE stands through it (log 14). -/
def commandRestart (p n : Port) (s : State) : State × Answer :=
  if s.ports[n].state = .disabled then (s, Answer.bare .busy)
  else if n = p then
    if s.ports[n].deferred = some .disable then
      (s, { status := .ok, data := .portState .disabled, waits := .nothing })
    else (s.defer n (some .restart), { status := .ok, data := .portState .down, waits := .deferred })
  else (s.fall n .down (some .portRestart)).portAnswer n .nothing

/-! ## Profile writes -/

/-- R118, R144: the slots of a profile write act on the port's talk entries and call records. -/
def State.rewriteSlots (s : State) (n : Port) (old new : Vector SlotConfig 4) : State :=
  allSlots.foldl (fun t k => ((t.rewriteTalkSlot n old new k).rewriteFlash n old new k).rewriteHoldoff n old new k) s

/-- R166: a change of enabled from no to yes: a DISABLED port passes to DOWN, and a deferred DISABLE is removed
(R168). -/
def State.reenable (s : State) (n : Port) : State :=
  if s.ports[n].state = .disabled then s.wake n
  else if s.ports[n].deferred = some .disable then s.defer n none
  else s

/-- R165, R166: an accepted profile write, sent by port p. -/
def State.storeProfile (s : State) (p n : Port) (f : Profile) : State × Answer :=
  let t := (s.setProfile n f).rewriteSlots n s.profiles[n].slots f.slots
  if s.profiles[n].enabled = f.enabled then (t, Answer.bare .ok)
  else if f.enabled then (t.reenable n, Answer.bare .ok)
  else if t.ports[n].state = .disabled then (t, Answer.bare .ok)
  else if n = p then
    (t.defer n (some .disable), { status := .ok, data := .nothing, waits := .deferred })
  else (t.fall n .disabled none, Answer.bare .ok)

/-- R165: WRITE_ENTRY of the Station Profiles, sent by port p. -/
def writeProfileRequest (p : Port) (index : Nat) (w : ProfileWrite) (s : State) : State × Answer :=
  match zeroBased 32 index with
  | none => (s, Answer.bare .badIndex)
  | some n =>
    match checkProfile w with
    | none => (s, Answer.bare .badValue)
    | some f => if someWriter (put s.profiles n f) then s.storeProfile p n f else (s, Answer.bare .lockout)

/-- R164: READ_ENTRY of the Station Profiles. -/
def readProfileRequest (bank : Named BankSel) (index : Nat) (s : State) : Answer :=
  readEntry bank (zeroBased 32 index) fun _ n => .profileEntry s.profiles[n]

end Sys2Proof.Machine
end

