-- ==== Sys2Proof/Machine/Notices.lean ====
section
/-! DEFINITION. Notice Control: its reads and writes (R189), NOTICE_CONTROL (R193) and the building of a waiting notice
(R190, R191). -/

namespace Sys2Proof.Machine

/-- Replace Notice Control. -/
def State.setControl (s : State) (c : NoticeControl) : State := { s with noticeControl := c }

/-- Test every record, in the order of R191. -/
def State.testAll (s : State) : State := s.testNotices fun _ _ => true

/-- Test the records of one lane, in the order of R191. -/
def State.testLane (s : State) (l : Lane) : State := s.testNotices fun x _ => x == l

/-- R189: the records that a write of an entry reaches are tested. -/
def State.testPlace (s : State) : NoticePlace → State
  | .global => s.testAll
  | .kind k => s.testNotice k
  | .lane l => s.testLane l

/-- R189: READ_ENTRY of Notice Control. -/
def readNoticeRequest (bank : Named BankSel) (index : Nat) (s : State) : Answer :=
  readEntry bank (noticePlace index) fun _ place => .noticeEntry (readNoticeEntry s.noticeControl place)

/-- R189: WRITE_ENTRY of Notice Control. Entries that stand freed go first to the notices that have been waiting for them
(R181, R191, log 27); then the write takes effect and its tests are made. The reply stands ahead of what they build (log
44). -/
def writeNoticeRequest (index : Nat) (w : NoticeEntryWrite) (s : State) : State × Answer :=
  match noticePlace index with
  | none => (s, Answer.bare .badIndex)
  | some place =>
    match writeNoticeEntry s.noticeControl place w with
    | none => (s, Answer.bare .badValue)
    | some c => ((s.testAll.setControl c).testPlace place, Answer.bare .ok)

/-- R193: HOLD. -/
def noticeHoldRequest (extra : Option Nat) (s : State) : State × Answer :=
  match extra with
  | some _ => (s, Answer.bare .badValue)
  | none =>
    if s.noticeControl.hold then (s, Answer.bare .already)
    else (s.setControl { s.noticeControl with hold := true }, Answer.bare .ok)

/-- R193: UNHOLD. -/
def noticeUnholdRequest (extra : Option Nat) (s : State) : State × Answer :=
  match extra with
  | some _ => (s, Answer.bare .badValue)
  | none =>
    if s.noticeControl.hold then
      ((s.setControl { s.noticeControl with hold := false }).testAll, Answer.bare .ok)
    else (s, Answer.bare .already)

/-- R193: the record as CLEAR leaves it. -/
def NoticeRecord.emptiedOf (r : NoticeRecord) : NoticeRecord := { r with pending := false, sent := false, count := 0 }

/-- R193: CLEAR of a kind. -/
def noticeClearRequest (kind : Option Nat) (s : State) : State × Answer :=
  match kind with
  | none => (s, Answer.bare .badValue)
  | some n =>
    match oneBased 18 n with
    | none => (s, Answer.bare .badIndex)
    | some k => (s.setNotice k s.notices[k].emptiedOf, Answer.bare .ok)

/-- Set the open field of a lane (R193). -/
def State.setOpen (s : State) (l : Lane) (o : Bool) : State :=
  s.setControl { s.noticeControl with
    lanes := put s.noticeControl.lanes l { s.noticeControl.lanes[l] with isOpen := o } }

/-- R193: a command that names a lane. -/
def laneCommand (lane : Option Nat) (command : Lane → State → State × Answer) (s : State) : State × Answer :=
  match lane with
  | none => (s, Answer.bare .badValue)
  | some n =>
    match zeroBased 4 n with
    | none => (s, Answer.bare .badIndex)
    | some l => command l s

/-- R193: OPEN of a lane. Entries that stand freed go first to the notices that have been waiting for them (R181, R191,
log 27). -/
def commandOpen (l : Lane) (s : State) : State × Answer :=
  if s.noticeControl.lanes[l].isOpen then (s, Answer.bare .already)
  else ((s.testAll.setOpen l true).testLane l, Answer.bare .ok)

/-- R193: CLOSE of a lane. -/
def commandClose (l : Lane) (s : State) : State × Answer :=
  if s.noticeControl.lanes[l].isOpen then (s.setOpen l false, Answer.bare .ok) else (s, Answer.bare .already)

/-- R191: no record that stands before this one in the order of building waits for the same port. -/
def State.firstToBuild (s : State) (k : NoticeKind) : Bool :=
  deliveryOrder.all fun x =>
    !(s.noticeControl.kinds[x.2].lane == x.1 && s.deliverable x.2
        && (s.laneOf x.2).dest == (s.laneOf k).dest
        && (decide (x.1 < s.noticeControl.kinds[k].lane)
          || (x.1 == s.noticeControl.kinds[k].lane && decide (x.2 < k))))

/-- R190: the building of a waiting notice, taken as an event of its own (log 34). -/
def State.buildNotice (s : State) (k : NoticeKind) : State := if s.firstToBuild k then s.testNotice k else s

end Sys2Proof.Machine
end

