-- ==== Sys2Proof/Machine/Status.lean ====
section
/-! DEFINITION. STATUS: the fields each subject's owner answers with (R76, R113, R139, R157, R184, R187). -/

namespace Sys2Proof.Machine

/-- The time left on an optional deadline (R184). -/
def State.leftOf (s : State) (d : Option Time) : Option Time := d.map s.left

/-- R184: the per-record fields of an active cue record. -/
def State.activeDetail (s : State) (r : ActiveCue) : ActiveDetail :=
  { slot := r.slot, state := r.state, prior := r.prior, awaited := r.awaited, acked := r.acked, absent := r.absent,
    overdue := r.overdue, unready := r.unready, origin := r.origin, ackLeft := s.leftOf r.ackDeadline,
    followLeft := s.leftOf r.followDeadline, remaining := r.remaining, goDisplayLeft := s.leftOf r.goDisplay }

/-- R184: ACTIVE_LIST. -/
def statusActive (position : Nat) (s : State) : Answer :=
  match zeroBased 8 position with
  | none => Answer.bare .badIndex
  | some i =>
    Answer.with .ok
      (.activeList s.live s.swapPending (s.active.map fun r => (r.slot, r.state))
        (s.active[i.val]?.map s.activeDetail))

/-- R184: a talk entry as CHANNEL reports it. -/
def TalkEntry.view (e : TalkEntry) : TalkView :=
  { port := e.port, slot := e.slot, priority := e.priority, latched := e.latched }

/-- R184: CHANNEL. -/
def statusOfChannel (n : Nat) (s : State) : Answer :=
  match oneBased 16 n with
  | none => Answer.bare .badIndex
  | some c =>
    Answer.with .ok
      (.channelStatus s.channels[c] (s.talk[c].talkers.map TalkEntry.view) (s.talk[c].waiters.map TalkEntry.view)
        (s.leftOf s.talk[c].idle))

/-- R184: a call record as PORT reports it. -/
def State.callView (s : State) (r : CallRecord) : CallView :=
  { caller := r.flash.map Flash.caller, displayLeft := s.leftOf (r.flash.map Flash.deadline),
    holdoffLeft := s.leftOf r.holdoff }

/-- R184: the fields of PORT. -/
def State.portView (s : State) (p : Port) : PortView :=
  { state := s.ports[p].state, lossCount := s.ports[p].lossCount, ident := s.ports[p].ident,
    asksSent := s.ports[p].asksSent, askLeft := s.leftOf s.ports[p].askDeadline, deferred := s.ports[p].deferred,
    cueLamp := s.cueLamp p, lamps := s.shown[p], calls := s.calls[p].toList.map s.callView,
    queued := s.queues[p].length }

/-- R184: PORT. -/
def statusOfPort (n : Nat) (s : State) : Answer :=
  match zeroBased 32 n with
  | none => Answer.bare .badIndex
  | some p => Answer.with .ok (.portStatus (s.portView p))

/-- R184: the fields of COUNTER. -/
def State.counterView (s : State) (c : CounterId) : CounterView :=
  { value := (s.counter c).value, state := (s.counter c).state, mode := (s.counter c).mode,
    preset := (s.counter c).preset, arm := (s.counter c).arm, comparison := (s.counter c).comparison,
    index := (s.counter c).index, length := s.listLength c,
    zones := (allZones.filter (s.zoneNames c)).map fun z => (z, s.occupied[z]) }

/-- R184: COUNTER. -/
def statusOfCounter (c : Named CounterId) (s : State) : Answer :=
  match c with
  | none => Answer.bare .badIndex
  | some x => Answer.with .ok (.counterStatus (s.counterView x))

/-- R184: NOTICE. -/
def statusOfNotice (n : Nat) (s : State) : Answer :=
  match oneBased 18 n with
  | none => Answer.bare .badIndex
  | some k =>
    Answer.with .ok
      (.noticeStatus s.notices[k] s.noticeControl.kinds[k].enable s.noticeControl.kinds[k].lane s.noticeControl.hold)

end Sys2Proof.Machine
end

