-- ==== Sys2Proof/Machine/Requests.lean ====
section
/-! DEFINITION. The owner of each request (R178, R183) and the acceptance of a request and of a complete message
(R176, R177). -/

namespace Sys2Proof.Machine

/-- R94, R178, R184: a subject or command outside the named ones. -/
def unnamedRequest (what : UnnamedIn) (s : State) : State × Answer :=
  match what with
  | .counter c => counterMisfit c s
  | _ => (s, Answer.bare .badValue)

/-- R183: a WRITE_ENTRY whose entry has not the length its table's entry takes: the index is tested first. -/
def misfitWrite (t : Table) (index : Nat) (s : State) : State × Answer :=
  (s, Answer.bare (if tableHasIndex index t then .badValue else .badIndex))

/-- R177 step 5: what the owner of a request from port p does with it. -/
def owner (p : Port) : Request → State → State × Answer
  | .standby slot => standbyRequest p slot
  | .go slot => goRequest slot
  | .goNext => goNextRequest
  | .hold slot => holdRequest slot
  | .holdAll => holdAllRequest
  | .release slot => releaseRequest slot
  | .releaseAll => releaseAllRequest
  | .cancel slot => cancelRequest slot
  | .cancelAll => cancelAllRequest
  | .readCueEntry bank index => reading (readCue bank index)
  | .writeCueEntry index entry => writeCue index entry
  | .readGroupEntry bank index => reading (readGroup bank index)
  | .writeGroupEntry index entry => writeGroup index entry
  | .readPositionEntry bank index => reading (readPosition bank index)
  | .writePositionEntry index entry => writePosition index entry
  | .readZoneEntry bank index => reading (readZone bank index)
  | .writeZoneEntry index entry => writeZone index entry
  | .readProfile bank index => reading (readProfileRequest bank index)
  | .writeProfile index entry => writeProfileRequest p index entry
  | .readChannelEntry bank index => reading (readChannel bank index)
  | .writeChannelEntry index entry => writeChannel index entry
  | .readNoticeControl bank index => reading (readNoticeRequest bank index)
  | .writeNoticeControl index entry => writeNoticeRequest index entry
  | .readRouterSettings bank index => reading (readRouter bank index)
  | .writeRouterSettings index entry => writeRouter index entry
  | .misfitEntry t index => misfitWrite t index
  | .badTable _ => reading fun _ => Answer.bare .badTable
  | .copyLiveToEdit => copyRequest
  | .swap => swapRequest
  | .cancelSwap => cancelSwapRequest
  | .set c v => counterControl c (commandSet v)
  | .preset c v => counterControl c (commandPreset v)
  | .armIndex c => counterControl c (commandArm true)
  | .disarmIndex c => counterControl c (commandArm false)
  | .start c => counterControl c commandStart
  | .stop c => counterControl c commandStop
  | .seek c index => counterControl c (commandSeek index)
  | .mode c m => counterControl c (commandMode m)
  | .misfit c => counterMisfit c
  | .enable n => portControl n commandEnable
  | .disable n => portControl n (commandDisable p)
  | .quiet n => portControl n commandQuiet
  | .unquiet n => portControl n commandUnquiet
  | .portRestart n => portControl n (commandRestart p)
  | .noticeHold extra => noticeHoldRequest extra
  | .noticeUnhold extra => noticeUnholdRequest extra
  | .noticeClear kind => noticeClearRequest kind
  | .noticeOpen lane => laneCommand lane commandOpen
  | .noticeClose lane => laneCommand lane commandClose
  | .statusActiveList position => reading (statusActive position)
  | .statusChannel n => reading (statusOfChannel n)
  | .statusPort n => reading (statusOfPort n)
  | .statusCounter c => reading (statusOfCounter c)
  | .statusNotice n => reading (statusOfNotice n)
  | .save => saveRequest
  | .restart => restartRequest p
  | .unnamed what => unnamedRequest what

/-- The right a request asks for (R178). -/
def requestRight (r : Request) : Right := (kindRight (requestKind r)).getD .write

/-- R177: a request whose payload has its form. -/
def State.request (s : State) (p : Port) (tag : Octet) (r : Request) : State :=
  s.accept p (requestKind r) tag (requestRight r) (owner p r)

/-- R177 steps 4 and 5 on a payload: BAD_VALUE when it fails its form. -/
def payloadOwner (p : Port) (kind : Octet) (payload : List Octet) (s : State) : State × Answer :=
  match readPayload kind payload with
  | none => (s, Answer.bare .badValue)
  | some r => owner p r s

/-- R177: a complete message of any kind but the IDENT reply, from a present port. -/
def State.acceptMessage (s : State) (p : Port) (kind tag : Octet) (payload : List Octet) : State :=
  match kindRight kind with
  | none => s.acceptUnknown p kind tag
  | some right => s.accept p kind tag right (payloadOwner p kind payload)

/-- R173: the serial tag, high octet first. -/
def serialOf (a b c d : Octet) : BitVec 32 := a ++ b ++ c ++ d

/-- R161: a complete message in PROBING; only an IDENT reply with a payload of 6 octets is taken (log 38). -/
def State.probingMessage (s : State) (p : Port) (kind tag : Octet) (payload : List Octet) (keys : Keys) : State :=
  match payload with
  | [cls, count, a, b, c, d] =>
    if kind = identReplyKind then s.takeIdent p tag cls count (serialOf a b c d) keys else s
  | _ => s

/-- R176: a complete message handed on by the state of its port. -/
def State.completeMessage (s : State) (p : Port) (kind tag : Octet) (payload : List Octet) (keys : Keys) : State :=
  match s.ports[p].state with
  | .probing => s.probingMessage p kind tag payload keys
  | .up | .quiet => if kind = identReplyKind then s else s.acceptMessage p kind tag payload
  | _ => s

end Sys2Proof.Machine
end

