-- ==== Sys2Proof/Machine/Lines.lean ====
section
/-! DEFINITION. The frame stream: upstream frames (R152–R155), the receive assembly (R174, R175), downstream frames
(R156, R172, R181), and the events on a line that are taken on their own. -/

namespace Sys2Proof.Machine

/-! ## Receive assembly -/

/-- R174: the position of the check octet is stored: kind, tag, length, the payload and the check. -/
def assembled : List Octet → Bool
  | _ :: _ :: len :: rest => rest.length == len.toNat + 1
  | _ => false

/-- R175: the length octet has just been stored and holds a value above 48. -/
def badLength : List Octet → Bool
  | [_, _, len] => decide (48 < len.toNat)
  | _ => false

/-- R175: the last octet is the check over the octets before it. -/
def goodCheck (l : List Octet) : Bool := l.getLast? == some (crc8 0xFF#8 l.dropLast)

/-- R175, R176: a complete message whose check octet has been stored. -/
def State.finishAssembly (s : State) (p : Port) (octets : List Octet) (keys : Keys) : State :=
  if goodCheck octets then
    match octets.dropLast with
    | kind :: tag :: _ :: payload => s.completeMessage p kind tag payload keys
    | _ => s
  else s.raise (.msgError p .check)

/-- R174, R175: an octet stored in the next position. -/
def State.storeOctet (s : State) (p : Port) (octets : List Octet) (keys : Keys) : State :=
  if badLength octets then (s.setAssembly p .empty).raise (.msgError p .length)
  else if assembled octets then (s.setAssembly p .empty).finishAssembly p octets keys
  else s.setAssembly p (.assembling octets)

/-- R174: a message octet, with its start marker and the key levels of its frame. -/
def State.laneOctet (s : State) (p : Port) (start : Bool) (o : Octet) (keys : Keys) : State :=
  match s.assemblies[p], start with
  | .empty, true => s.setAssembly p (.assembling [o])
  | .empty, false => s
  | .assembling _, true => (s.setAssembly p (.assembling [o])).raise (.msgError p .marker)
  | .assembling l, false => s.storeOctet p (l ++ [o]) keys

/-- R153: the message octet of a good frame, when it carries one. -/
def State.frameOctet (s : State) (p : Port) (f : UpFrame) : State :=
  if UpFrame.lanePresent f then s.laneOctet p (UpFrame.startMarker f) f[5] (UpFrame.keys f) else s

/-! ## Key edges -/

/-- R155: a bit that has risen from the reference to the frame. -/
def pressed (old new : BitVec 4) (k : KeySlot) : Bool := new.getLsbD k.val && !old.getLsbD k.val

/-- R155: a talk-key edge of one slot in UP: a press reaches the Talk Arbiter and answers the slot's call. -/
def State.talkEdge (s : State) (p : Port) (old new : Keys) (k : KeySlot) : State :=
  if pressed old.talk new.talk k then (s.talkPress p k).stopFlash p k
  else if pressed new.talk old.talk k then s.talkRelease p k
  else s

/-- R155: a call-key edge of one slot in UP. -/
def State.callEdge (s : State) (p : Port) (old new : Keys) (k : KeySlot) : State :=
  if pressed old.call new.call k then s.callPress p k else s

/-- R155: a cue-key edge. -/
def State.cueEdge (s : State) (p : Port) (old new : Keys) : State :=
  if new.cue && !old.cue then s.cuePress p else s

/-- R155: the edges of one frame in UP, in the order of log 12. -/
def State.edgesUp (s : State) (p : Port) (old new : Keys) : State :=
  (allSlots.foldl (fun t k => t.callEdge p old new k)
    (allSlots.foldl (fun t k => t.talkEdge p old new k) s)).cueEdge p old new

/-- R155: the edges that the port's state passes on. -/
def State.edges (s : State) (p : Port) (old new : Keys) : State :=
  match s.ports[p].state with
  | .up => s.edgesUp p old new
  | .quiet => s.cueEdge p old new
  | _ => s

/-- R155: the frame's levels become the reference and its edges are handed on. -/
def State.takeKeys (s : State) (p : Port) (new : Keys) : State :=
  let t := s.setPort p { s.ports[p] with keyRef := some new }
  match s.ports[p].keyRef with
  | some old => t.edges p old new
  | none => t

/-! ## Upstream frames -/

/-- R154: a good frame sets the link-loss count to 0. -/
def State.clearLoss (s : State) (p : Port) : State := s.setPort p { s.ports[p] with lossCount := 0 }

/-- R153: a good frame handed on according to the port state. -/
def State.takeGood (s : State) (p : Port) (f : UpFrame) : State :=
  let t := s.setSample p (some (UpFrame.sample f))
  match s.ports[p].state with
  | .disabled => s
  | .down => t.startProbing p
  | .probing => (t.clearLoss p).frameOctet p f
  | .up | .quiet => ((t.clearLoss p).takeKeys p (UpFrame.keys f)).frameOctet p f
  | .fault => t.clearLoss p

/-- R154: the states in which missing and discarded frames are counted. -/
def PortState.counts : PortState → Bool
  | .disabled => false
  | .down => false
  | _ => true

/-- R153, R154: a frame interval that counts as missing: the sample is void, the count rises, and at 16 link loss
occurs. -/
def State.takeMissing (s : State) (p : Port) : State :=
  let t := s.setSample p none
  match s.ports[p].state with
  | .disabled => s
  | .down => t
  | _ =>
    if 16 ≤ s.ports[p].lossCount + 1 then t.lineLost p
    else t.setPort p { s.ports[p] with lossCount := s.ports[p].lossCount + 1 }

/-- R152, R170: a frame interval that brings octets, classed by the port; ports take no frames while the loader
runs. -/
def State.takeFrame (s : State) (p : Port) (f : UpFrame) : State :=
  if s.loaded then
    match UpFrame.classify f with
    | .good => s.takeGood p f
    | _ => s.takeMissing p
  else s

/-- R152: a frame interval that brings no frame. -/
def State.frameMissed (s : State) (p : Port) : State := if s.loaded then s.takeMissing p else s

/-- R154: the missing frame at which the count reaches 16, taken on its own (log 3). -/
def State.linkLossEvent (s : State) (p : Port) : State :=
  if s.loaded ∧ s.ports[p].state.counts = true ∧ 15 ≤ s.ports[p].lossCount then s.takeMissing p else s

/-! ## Downstream frames -/

/-- R156: the next octet of the head of the queue, with its start marker. -/
def State.nextOctet (s : State) (p : Port) : Option (Bool × Octet) :=
  match s.queues[p] with
  | [] => none
  | e :: _ => some (e.sent == 0, e.content.octets.getD e.sent 0)

/-- R172: octet 5, the start marker. -/
def markerOctet : Option (Bool × Octet) → Octet
  | some (true, _) => 0x80
  | _ => 0

/-- R172: octet 6, the message octet, 0 when none is carried. -/
def laneValue : Option (Bool × Octet) → Octet
  | some (_, o) => o
  | none => 0

/-- R156, R172: a SERVICE frame. -/
def State.serviceFrame (s : State) (p : Port) : DownFrame :=
  downFrame 0x71 ((s.mixSample p).extractLsb' 8 8) ((s.mixSample p).extractLsb' 0 8) (talkOctet (s.lampsNow p).talk)
    (lampOctet (s.lampsNow p).call (s.cueLamp p) (s.nextOctet p).isSome) (markerOctet (s.nextOctet p))
    (laneValue (s.nextOctet p))

/-- R156, R172: a PROBE frame. -/
def State.probeFrame (s : State) (p : Port) : DownFrame :=
  downFrame 0x72 0 0 0 (if (s.nextOctet p).isSome then 1 else 0) (markerOctet (s.nextOctet p)) (laneValue (s.nextOctet p))

/-- R156, R172: an IDLE frame. -/
def idleFrame : DownFrame := downFrame 0x74 0 0 0 0 0 0

/-- R160: the ask deadline is set when the last octet of an ask has been sent in PROBING (log 20). -/
def State.askSent (s : State) (p : Port) (e : TxEntry) : State :=
  match e.content with
  | .identAsk _ =>
    if s.ports[p].state = .probing then
      s.setPort p { s.ports[p] with askDeadline := some (s.clock + ms 50) }
    else s
  | _ => s

/-- R168, R185: what waited for a reply is carried out when its last octet has gone out. -/
def State.replyGone (s : State) (p : Port) (w : Waits) : State :=
  match w with
  | .nothing => s
  | .deferred => s.carryOut p
  | .restart => s.restart

/-- R181: one octet of the head has gone out; with its last the message leaves the queue and its entry is freed, for
the request, desk status or waiting notice that takes it first (log 27). -/
def State.octetSent (s : State) (p : Port) : State :=
  match s.queues[p] with
  | [] => s
  | e :: rest =>
    if e.sent + 1 < e.content.octets.length then s.setQueue p ({ e with sent := e.sent + 1 } :: rest)
    else ((s.setQueue p rest).askSent p e).replyGone p e.waits

/-- R156: the frame the port sends in a frame interval, and what its octet leaves. -/
def State.sendFrame (s : State) (p : Port) : State :=
  match s.ports[p].state with
  | .disabled => s.setLine p none
  | .down | .fault => s.setLine p (some idleFrame)
  | .probing => (s.setLine p (some (s.probeFrame p))).octetSent p
  | .up | .quiet => ((s.setLine p (some (s.serviceFrame p))).setShown p (s.lampsNow p)).octetSent p

/-- R156, R170: ports send nothing while the loader runs. -/
def State.downstream (s : State) (p : Port) : State := if s.loaded then s.sendFrame p else s

/-! ## Events taken on their own (log 3) -/

/-- R168: the deferred action of a port whose reply has been fully sent. -/
def State.deferredEvent (s : State) (p : Port) : State := if replySent .deferred s.queues[p] then s.carryOut p else s

/-- R185: the restart, once its reply has been fully sent. -/
def State.restartEvent (s : State) : State :=
  match s.restartBy with
  | none => s
  | some p => if replySent .restart s.queues[p] then s.restart else s

/-- R177: a complete message of a kind that is not a request kind; an IDENT reply is discarded (R176). -/
def State.unknownMessage (s : State) (p : Port) (tag kind : Octet) : State :=
  if (kindRight kind).isNone && kind != identReplyKind then s.acceptUnknown p kind tag else s

/-- R183: a table number outside 1–8. -/
def State.badTableRequest (s : State) (p : Port) (tag : Octet) (isWrite : Bool) (table : Nat) : State :=
  if 1 ≤ table ∧ table ≤ 8 then s else s.request p tag (.badTable isWrite)

end Sys2Proof.Machine
end

