-- ==== Sys2Proof/Machine/Clock.lean ====
section
/-! DEFINITION. What the part does of its own accord when no command waits: the building of a notice that can be
delivered, else the first expiry that is due, else one advance of the show clock (log 1). -/

namespace Sys2Proof.Machine

/-- Keep a command when its expiry is due. -/
def whenDue (due : Bool) (i : Instr) : List Instr := if due then [i] else []

/-- R190: waiting notices that every gate lets go, each first in its port's order of building (R191). -/
def State.dueNotices (s : State) : List Instr :=
  (List.finRange 18).flatMap fun k => whenDue (s.deliverable k && s.firstToBuild k) (.noticeBuild k)

/-- Due ask deadlines, by port. -/
def State.dueAsks (s : State) : List Instr :=
  allPorts.flatMap fun p =>
    whenDue (s.ports[p].state == .probing && s.reached s.ports[p].askDeadline) (.askDeadlineExpiry p)

/-- Due deadlines of the active cue records, in list order. -/
def State.dueCues (s : State) : List Instr :=
  s.active.flatMap fun x =>
    match s.findCue x.slot with
    | none => []
    | some r =>
      whenDue (s.reached r.ackDeadline) (.ackDeadlineExpiry r.slot)
        ++ whenDue (s.reached r.followDeadline) (.followDeadlineExpiry r.slot)
        ++ whenDue (s.reached r.goDisplay) (.goDisplayExpiry r.slot)

/-- Due idle timers, by channel. -/
def State.dueIdle (s : State) : List Instr :=
  allChannels.flatMap fun c => whenDue (s.reached s.talk[c].idle) (.idleTimerExpiry c)

/-- Due deadlines of the key slots. -/
def State.dueSlots (s : State) : List Instr :=
  everySlot.flatMap fun x =>
    whenDue (s.reached s.denied[x.1][x.2]) (.deniedPeriodExpiry x.1 x.2)
      ++ whenDue (s.reached (s.calls[x.1][x.2].flash.map Flash.deadline)) (.displayDeadlineExpiry x.1 x.2)
      ++ whenDue (s.reached s.calls[x.1][x.2].holdoff) (.holdoffDeadlineExpiry x.1 x.2)

/-- The first event that is due: a notice to build, else an expiry (log 1). -/
def State.nextDue (s : State) : Option Instr :=
  (s.dueNotices ++ s.dueAsks ++ s.dueCues ++ s.dueIdle ++ s.dueSlots).head?

/-- spec/00_scope.md, Time: the show clock advances once per frame interval, while the part has power. -/
def State.tick (s : State) : State := if s.powered then { s with clock := s.clock + 1 } else s

end Sys2Proof.Machine
end

