-- ==== Sys2Proof/Machine/ExecControl.lean ====
section
/-! DEFINITION. The meanings of the commands of port control, notices and status, one definition per command. -/

namespace Sys2Proof.Machine

/-- ENABLE, R167: PORT_CONTROL ENABLE takes a DISABLED port to DOWN. -/
def execEnable (p : Port) (tag : Octet) (n : Nat) (s : State) : Result :=
  .next (s.request p tag (.enable n))

/-- DISABLE, R167: PORT_CONTROL DISABLE takes a port to DISABLED, deferred when it names the sending port. -/
def execDisable (p : Port) (tag : Octet) (n : Nat) (s : State) : Result :=
  .next (s.request p tag (.disable n))

/-- QUIET, R167: PORT_CONTROL QUIET takes an UP port to QUIET and removes its talk entries. -/
def execQuiet (p : Port) (tag : Octet) (n : Nat) (s : State) : Result :=
  .next (s.request p tag (.quiet n))

/-- UNQUIET, R167: PORT_CONTROL UNQUIET returns a QUIET port to UP. -/
def execUnquiet (p : Port) (tag : Octet) (n : Nat) (s : State) : Result :=
  .next (s.request p tag (.unquiet n))

/-- PORT_RESTART, R167: PORT_CONTROL RESTART takes a port to DOWN, raising PORT_DOWN if it was present. -/
def execPortRestart (p : Port) (tag : Octet) (n : Nat) (s : State) : Result :=
  .next (s.request p tag (.portRestart n))

/-- NOTICE_BUILD, R190: A pending notice record whose gates all pass is built into its lane destination's queue when
an entry is free. -/
def execNoticeBuild (k : NoticeKind) (s : State) : Result :=
  .next (s.buildNotice k)

/-- NOTICE_HOLD, R193: NOTICE_CONTROL HOLD sets the global hold on. -/
def execNoticeHold (p : Port) (tag : Octet) (extra : Option Nat) (s : State) : Result :=
  .next (s.request p tag (.noticeHold extra))

/-- NOTICE_UNHOLD, R193: NOTICE_CONTROL UNHOLD sets the hold off and tests every record for delivery. -/
def execNoticeUnhold (p : Port) (tag : Octet) (extra : Option Nat) (s : State) : Result :=
  .next (s.request p tag (.noticeUnhold extra))

/-- NOTICE_CLEAR, R193: NOTICE_CONTROL CLEAR empties a kind's record. -/
def execNoticeClear (p : Port) (tag : Octet) (kind : Option Nat) (s : State) : Result :=
  .next (s.request p tag (.noticeClear kind))

/-- NOTICE_OPEN, R193: NOTICE_CONTROL OPEN opens a lane and tests its kinds' records. -/
def execNoticeOpen (p : Port) (tag : Octet) (lane : Option Nat) (s : State) : Result :=
  .next (s.request p tag (.noticeOpen lane))

/-- NOTICE_CLOSE, R193: NOTICE_CONTROL CLOSE closes a lane. -/
def execNoticeClose (p : Port) (tag : Octet) (lane : Option Nat) (s : State) : Result :=
  .next (s.request p tag (.noticeClose lane))

/-- STATUS_ACTIVE_LIST, R184: STATUS of ACTIVE_LIST returns the bank state, the list and one record's details. -/
def execStatusActiveList (p : Port) (tag : Octet) (position : Nat) (s : State) : Result :=
  .next (s.request p tag (.statusActiveList position))

/-- STATUS_CHANNEL, R184: STATUS of a CHANNEL returns its entry, talker list, wait queue and idle timer. -/
def execStatusChannel (p : Port) (tag : Octet) (n : Nat) (s : State) : Result :=
  .next (s.request p tag (.statusChannel n))

/-- STATUS_PORT, R184: STATUS of a PORT returns its port record, lamps, call records and queue count. -/
def execStatusPort (p : Port) (tag : Octet) (n : Nat) (s : State) : Result :=
  .next (s.request p tag (.statusPort n))

/-- STATUS_COUNTER, R184: STATUS of a COUNTER returns its fields, list length and zone occupancy. -/
def execStatusCounter (p : Port) (tag : Octet) (c : Named CounterId) (s : State) : Result :=
  .next (s.request p tag (.statusCounter c))

/-- STATUS_NOTICE, R184: STATUS of a NOTICE kind returns its record, its enable and lane, and the hold flag. -/
def execStatusNotice (p : Port) (tag : Octet) (n : Nat) (s : State) : Result :=
  .next (s.request p tag (.statusNotice n))

/-- UNKNOWN_KIND, R177: A complete message whose kind is not a request kind is answered UNKNOWN with kind octet 0xFE.
-/
def execUnknownKind (p : Port) (tag : Octet) (kind : Octet) (s : State) : Result :=
  .next (s.unknownMessage p tag kind)

/-- UNNAMED_SUBJECT_OR_COMMAND, R94: A STATUS naming a subject outside the five, or a COUNTER_CONTROL, PORT_CONTROL or
NOTICE_CONTROL carrying a command outside its named commands, is answered BAD_VALUE. -/
def execUnnamedSubjectOrCommand (p : Port) (tag : Octet) (what : UnnamedIn) (s : State) : Result :=
  .next (s.request p tag (.unnamed what))

end Sys2Proof.Machine
end

