-- ==== Sys2Proof/Machine/ExecCue.lean ====
section
/-! DEFINITION. The meanings of the commands of the Cue Engine, one definition per command. -/

namespace Sys2Proof.Machine

/-- STANDBY, R18: A STANDBY request is tested and, when it passes, appends an active cue record with its targets split
between awaited and absent. -/
def execStandby (p : Port) (tag : Octet) (slot : CueSlot) (s : State) : Result :=
  .next (s.request p tag (.standby slot))

/-- GO, R39: A GO request is tested in order and, when taken, sends the record to GOING. -/
def execGo (p : Port) (tag : Octet) (slot : CueSlot) (s : State) : Result :=
  .next (s.request p tag (.go slot))

/-- GO_NEXT, R43: GO_NEXT sends the oldest READY record, or is refused NOTHING_READY or ZONE_BLOCKED. -/
def execGoNext (p : Port) (tag : Octet) (s : State) : Result :=
  .next (s.request p tag .goNext)

/-- HOLD, R30: HOLD of a slot takes a STANDBY or READY record to HELD and freezes its follow deadline. -/
def execHold (p : Port) (tag : Octet) (slot : CueSlot) (s : State) : Result :=
  .next (s.request p tag (.hold slot))

/-- HOLD_ALL, R31: HOLD(ALL) holds every STANDBY and READY record, in list order. -/
def execHoldAll (p : Port) (tag : Octet) (s : State) : Result :=
  .next (s.request p tag .holdAll)

/-- RELEASE, R33: RELEASE returns a HELD record to its prior state, restores its follow deadline and retests it for
READY. -/
def execRelease (p : Port) (tag : Octet) (slot : CueSlot) (s : State) : Result :=
  .next (s.request p tag (.release slot))

/-- RELEASE_ALL, R34: RELEASE(ALL) releases every HELD record, in list order. -/
def execReleaseAll (p : Port) (tag : Octet) (s : State) : Result :=
  .next (s.request p tag .releaseAll)

/-- CANCEL, R57: CANCEL removes a STANDBY, READY or HELD record with final state CANCELLED. -/
def execCancel (p : Port) (tag : Octet) (slot : CueSlot) (s : State) : Result :=
  .next (s.request p tag (.cancel slot))

/-- CANCEL_ALL, R58: CANCEL(ALL) removes every record that is not GOING, in list order. -/
def execCancelAll (p : Port) (tag : Octet) (s : State) : Result :=
  .next (s.request p tag .cancelAll)

/-- ACK_DEADLINE_EXPIRY, R29: An ack deadline expires and marks a record in STANDBY, or HELD with prior STANDBY,
overdue, raising ACK_OVERDUE. -/
def execAckDeadlineExpiry (slot : CueSlot) (s : State) : Result :=
  .next (s.ackExpiry slot)

/-- FOLLOW_DEADLINE_EXPIRY, R55: A follow deadline expires and applies GO of the record with origin FOLLOW. -/
def execFollowDeadlineExpiry (slot : CueSlot) (s : State) : Result :=
  .next (s.followExpiry slot)

/-- GO_DISPLAY_EXPIRY, R47: A go-display deadline expires and the record is removed with final state DONE. -/
def execGoDisplayExpiry (slot : CueSlot) (s : State) : Result :=
  .next (s.goDisplayExpiry slot)

end Sys2Proof.Machine
end

