-- ==== Sys2Proof/Machine/ExecLines.lean ====
section
/-! DEFINITION. The meanings of the commands of the line frames and the identification, one definition per command. -/

namespace Sys2Proof.Machine

/-- GOOD_FRAME, R153: A good upstream frame is taken and its sample, key levels and message octet are handed on
according to the port state. -/
def execGoodFrame (p : Port) (f : UpFrame) (s : State) : Result :=
  .next (s.takeFrame p f)

/-- FRAME_DISCARDED, R152: A frame with the upstream start value fails its frame check or has inconsistent lane bits;
it is counted as missing and its fields are lost. -/
def execFrameDiscarded (p : Port) (f : UpFrame) (s : State) : Result :=
  .next (s.takeFrame p f)

/-- FRAME_MISSING, R152: A frame interval brings no upstream frame; the latest sample becomes void and the link-loss
count rises. -/
def execFrameMissing (p : Port) (s : State) : Result :=
  .next (s.frameMissed p)

/-- LINK_LOSS, R154: The link-loss count reaches 16 and the port passes to DOWN, with its buffers emptied and
PORT_DOWN raised if it was present. -/
def execLinkLoss (p : Port) (s : State) : Result :=
  .next (s.linkLossEvent p)

/-- DOWNSTREAM_FRAME, R156: In each frame interval a port builds and sends an IDLE, PROBE or SERVICE frame carrying
the next octet of its queue head. -/
def execDownstreamFrame (p : Port) (s : State) : Result :=
  .next (s.downstream p)

/-- DEFERRED_ACTION, R168: Once its reply has been fully sent, a deferred DISABLE or RESTART of the sending port is
carried out. -/
def execDeferredAction (p : Port) (s : State) : Result :=
  .next (s.deferredEvent p)

/-- IDENT_REPLY, R161: A complete IDENT reply in PROBING is checked and judged against the expected class, taking the
port to UP or to FAULT. -/
def execIdentReply (p : Port) (tag : Octet) (cls : Octet) (keyCount : Octet) (serial : BitVec 32)
    (keys : Keys) (s : State) : Result :=
  .next (s.takeIdent p tag cls keyCount serial keys)

/-- ASK_DEADLINE_EXPIRY, R162: An ask deadline expires; a further ask is queued, or after the third ask the port
enters FAULT with IDENT_TIMEOUT. -/
def execAskDeadlineExpiry (p : Port) (s : State) : Result :=
  .next (s.askExpiry p)

end Sys2Proof.Machine
end

