-- ==== Sys2Proof/Machine/ExecMotion.lean ====
section
/-! DEFINITION. The meanings of the commands of the motion counters, one definition per command. -/

namespace Sys2Proof.Machine

/-- STEP, R78: A level change on A or B yields a step that changes the counter value, evaluates the zones and tests
the current position entry. -/
def execStep (c : CounterId) (a : Bool) (b : Bool) (s : State) : Result :=
  .next (s.levelAB c a b)

/-- INDEX_PULSE, R81: A rise of Z with the index arm set loads the preset as a jump, clears the arm and raises
COUNTER_RESET. -/
def execIndexPulse (c : CounterId) (s : State) : Result :=
  .next (s.levelZ c true)

/-- CHANGE_OF_LEVEL, R77: A change of level on A, B or Z that yields no step and no index reset (a fall, a double
quadrature change, a change in OVERRANGE, an unarmed or falling Z) renews the input reference. -/
def execChangeOfLevel (c : CounterId) (change : LevelChange) (s : State) : Result :=
  .next (s.changeLevel c change)

/-- SET, R95: COUNTER_CONTROL SET jumps the counter value and leaves OVERRANGE. -/
def execSet (p : Port) (tag : Octet) (c : Named CounterId) (value : Int) (s : State) : Result :=
  .next (s.request p tag (.set c value))

/-- PRESET, R95: COUNTER_CONTROL PRESET sets the counter's preset. -/
def execPreset (p : Port) (tag : Octet) (c : Named CounterId) (value : Int) (s : State) : Result :=
  .next (s.request p tag (.preset c value))

/-- ARM_INDEX, R95: COUNTER_CONTROL ARM_INDEX sets the index arm. -/
def execArmIndex (p : Port) (tag : Octet) (c : Named CounterId) (s : State) : Result :=
  .next (s.request p tag (.armIndex c))

/-- DISARM_INDEX, R95: COUNTER_CONTROL DISARM_INDEX clears the index arm. -/
def execDisarmIndex (p : Port) (tag : Octet) (c : Named CounterId) (s : State) : Result :=
  .next (s.request p tag (.disarmIndex c))

/-- START, R96: COUNTER_CONTROL START runs the comparison from the current index unless the counter is OVERRANGE or
the list is exhausted. -/
def execStart (p : Port) (tag : Octet) (c : Named CounterId) (s : State) : Result :=
  .next (s.request p tag (.start c))

/-- STOP, R96: COUNTER_CONTROL STOP stops the comparison and keeps its index. -/
def execStop (p : Port) (tag : Octet) (c : Named CounterId) (s : State) : Result :=
  .next (s.request p tag (.stop c))

/-- SEEK, R96: COUNTER_CONTROL SEEK sets the current index of a comparison that is not running. -/
def execSeek (p : Port) (tag : Octet) (c : Named CounterId) (index : Nat) (s : State) : Result :=
  .next (s.request p tag (.seek c index))

/-- MODE, R97: COUNTER_CONTROL MODE changes the counting mode of a stopped comparison and renews the input reference.
-/
def execMode (p : Port) (tag : Octet) (c : Named CounterId) (m : Named CountMode) (s : State) : Result :=
  .next (s.request p tag (.mode c m))

end Sys2Proof.Machine
end

