-- ==== Sys2Proof/Machine/ExecPower.lean ====
section
/-! DEFINITION. The meanings of the commands of start-up, SAVE and RESTART, one definition per command. -/

namespace Sys2Proof.Machine

/-- POWER_ON, R195: Power-on or the reset pin sets every piece of state to its power-on value, and the loader enters
LOADING and reads the stored image. -/
def execPowerOn (s : State) : Result :=
  .next (s.atPowerOn true)

/-- LOAD_END, R196: Loading ends: the P0 WRITE guarantee is applied, ports are classed as DISABLED or DOWN, counters
take their input reference, zones are evaluated and STARTED is raised. -/
def execLoadEnd (answered : Bool) (s : State) : Result :=
  .next (if s.powered && s.loader == .loading then s.endLoad answered else s)

/-- SAVE, R197: SAVE takes a snapshot, overwrites the stored marker and enters SAVING. -/
def execSave (p : Port) (tag : Octet) (s : State) : Result :=
  .next (s.request p tag .save)

/-- SAVE_WRITE_ANSWERED, R198: A memory write of a running save is answered and the save proceeds to its next write.
-/
def execSaveWriteAnswered (s : State) : Result :=
  .next (s.saveStep State.writeAnswered)

/-- SAVE_COMPLETION, R198: The marker write is answered, the image is valid and SAVE_DONE OK is raised. -/
def execSaveCompletion (s : State) : Result :=
  .next s.saveAtMarker

/-- SAVE_FAILURE, R198: The memory does not answer a save write; the save stops and SAVE_DONE FAIL is raised. -/
def execSaveFailure (s : State) : Result :=
  .next (s.saveStep State.writeFailed)

/-- RESTART, R185: A RESTART request sets the restart-pending mark and is answered OK. -/
def execRestart (p : Port) (tag : Octet) (s : State) : Result :=
  .next (s.request p tag .restart)

/-- RESTART_CARRIED_OUT, R185: Once the RESTART reply has been fully sent, the restart is carried out across every
block and STARTED is raised. -/
def execRestartCarriedOut (s : State) : Result :=
  .next s.restartEvent

/-- POWER_LOSS, R198: A loss of power ends a running load or save; a save so ended leaves the stored image invalid
unless its marker write had been answered. -/
def execPowerLoss (s : State) : Result :=
  .next (s.atPowerOn false)

end Sys2Proof.Machine
end

