-- ==== Sys2Proof/Machine/ExecTables.lean ====
section
/-! DEFINITION. The meanings of the commands of the tables and the banks, one definition per command. -/

namespace Sys2Proof.Machine

/-- READ_CUE_ENTRY, R7: READ_ENTRY of the Cue Table returns a record of the named bank. -/
def execReadCueEntry (p : Port) (tag : Octet) (bank : Named BankSel) (index : Nat) (s : State) : Result :=
  .next (s.request p tag (.readCueEntry bank index))

/-- WRITE_CUE_ENTRY, R5: WRITE_ENTRY of the Cue Table replaces or clears an edit-bank cue record. -/
def execWriteCueEntry (p : Port) (tag : Octet) (index : Nat) (entry : CueWrite) (s : State) : Result :=
  .next (s.request p tag (.writeCueEntry index entry))

/-- READ_GROUP_ENTRY, R9: READ_ENTRY of the Group Table returns a group of the named bank. -/
def execReadGroupEntry (p : Port) (tag : Octet) (bank : Named BankSel) (index : Nat) (s : State) : Result :=
  .next (s.request p tag (.readGroupEntry bank index))

/-- WRITE_GROUP_ENTRY, R9: WRITE_ENTRY of the Group Table replaces an edit-bank group. -/
def execWriteGroupEntry (p : Port) (tag : Octet) (index : Nat) (entry : GroupWrite) (s : State) : Result :=
  .next (s.request p tag (.writeGroupEntry index entry))

/-- READ_POSITION_ENTRY, R85: READ_ENTRY of the Position Cue Lists returns an entry of the named bank. -/
def execReadPositionEntry (p : Port) (tag : Octet) (bank : Named BankSel) (index : Nat) (s : State) : Result :=
  .next (s.request p tag (.readPositionEntry bank index))

/-- WRITE_POSITION_ENTRY, R85: WRITE_ENTRY of the Position Cue Lists replaces or clears an edit-bank entry. -/
def execWritePositionEntry (p : Port) (tag : Octet) (index : Nat) (entry : PositionWrite) (s : State) : Result :=
  .next (s.request p tag (.writePositionEntry index entry))

/-- READ_ZONE_ENTRY, R91: READ_ENTRY of the Zone Table returns a zone of the named bank. -/
def execReadZoneEntry (p : Port) (tag : Octet) (bank : Named BankSel) (index : Nat) (s : State) : Result :=
  .next (s.request p tag (.readZoneEntry bank index))

/-- WRITE_ZONE_ENTRY, R91: WRITE_ENTRY of the Zone Table replaces or clears an edit-bank zone. -/
def execWriteZoneEntry (p : Port) (tag : Octet) (index : Nat) (entry : ZoneWrite) (s : State) : Result :=
  .next (s.request p tag (.writeZoneEntry index entry))

/-- READ_PROFILE, R164: READ_ENTRY of the Station Profiles returns a whole profile. -/
def execReadProfile (p : Port) (tag : Octet) (bank : Named BankSel) (index : Nat) (s : State) : Result :=
  .next (s.request p tag (.readProfile bank index))

/-- WRITE_PROFILE, R165: WRITE_ENTRY of the Station Profiles is tested including LOCKOUT and then acts on the port
field by field. -/
def execWriteProfile (p : Port) (tag : Octet) (index : Nat) (entry : ProfileWrite) (s : State) : Result :=
  .next (s.request p tag (.writeProfile index entry))

/-- READ_CHANNEL_ENTRY, R114: READ_ENTRY of the Channel Table returns a channel entry. -/
def execReadChannelEntry (p : Port) (tag : Octet) (bank : Named BankSel) (index : Nat) (s : State) : Result :=
  .next (s.request p tag (.readChannelEntry bank index))

/-- WRITE_CHANNEL_ENTRY, R114: WRITE_ENTRY of the Channel Table replaces a channel entry and acts on the running
channel. -/
def execWriteChannelEntry (p : Port) (tag : Octet) (index : Nat) (entry : ChannelWrite) (s : State) : Result :=
  .next (s.request p tag (.writeChannelEntry index entry))

/-- READ_NOTICE_CONTROL, R189: READ_ENTRY of Notice Control returns an entry. -/
def execReadNoticeControl (p : Port) (tag : Octet) (bank : Named BankSel) (index : Nat) (s : State) : Result :=
  .next (s.request p tag (.readNoticeControl bank index))

/-- WRITE_NOTICE_CONTROL, R189: WRITE_ENTRY of Notice Control replaces an entry and retests the records it reaches. -/
def execWriteNoticeControl (p : Port) (tag : Octet) (index : Nat) (entry : NoticeEntryWrite) (s : State) : Result :=
  .next (s.request p tag (.writeNoticeControl index entry))

/-- READ_ROUTER_SETTINGS, R119: READ_ENTRY of the Router Settings returns the threshold and the holdoff. -/
def execReadRouterSettings (p : Port) (tag : Octet) (bank : Named BankSel) (index : Nat) (s : State) : Result :=
  .next (s.request p tag (.readRouterSettings bank index))

/-- WRITE_ROUTER_SETTINGS, R119: WRITE_ENTRY of the Router Settings replaces the threshold and the holdoff. -/
def execWriteRouterSettings (p : Port) (tag : Octet) (index : Nat) (entry : RouterWrite) (s : State) : Result :=
  .next (s.request p tag (.writeRouterSettings index entry))

/-- BAD_TABLE, R183: A READ_ENTRY or WRITE_ENTRY naming a table number outside 1-8 is answered BAD_TABLE and changes
no state. -/
def execBadTable (p : Port) (tag : Octet) (isWrite : Bool) (table : Nat) (s : State) : Result :=
  .next (s.badTableRequest p tag isWrite table)

/-- COPY_LIVE_TO_EDIT, R104: The live bank's four banked tables are copied whole into the edit bank unless a swap is
pending. -/
def execCopyLiveToEdit (p : Port) (tag : Octet) (s : State) : Result :=
  .next (s.request p tag .copyLiveToEdit)

/-- SWAP, R105: SWAP completes at once with the list empty, or otherwise sets the swap-pending flag. -/
def execSwap (p : Port) (tag : Octet) (s : State) : Result :=
  .next (s.request p tag .swap)

/-- CANCEL_SWAP, R107: CANCEL_SWAP clears a pending swap flag. -/
def execCancelSwap (p : Port) (tag : Octet) (s : State) : Result :=
  .next (s.request p tag .cancelSwap)

end Sys2Proof.Machine
end

