-- ==== Sys2Proof/Machine/ExecTalk.lean ====
section
/-! DEFINITION. The meanings of the commands of the Talk Arbiter and the Call Unit, one definition per command. -/

namespace Sys2Proof.Machine

/-- IDLE_TIMER_EXPIRY, R132: A channel's idle timer expires, latched entries are removed, heads are granted and
IDLE_RELEASE is raised. -/
def execIdleTimerExpiry (c : Chan) (s : State) : Result :=
  .next (s.idleExpiry c)

/-- DENIED_PERIOD_EXPIRY, R135: A slot's DENIED period ends and its talk lamp leaves DENIED. -/
def execDeniedPeriodExpiry (p : Port) (k : KeySlot) (s : State) : Result :=
  .next (s.deniedExpiry p k)

/-- DISPLAY_DEADLINE_EXPIRY, R142: A call record's display deadline expires and its flash ends. -/
def execDisplayDeadlineExpiry (p : Port) (k : KeySlot) (s : State) : Result :=
  .next (s.displayExpiry p k)

/-- HOLDOFF_DEADLINE_EXPIRY, R142: A call record's holdoff deadline expires and the slot may call again. -/
def execHoldoffDeadlineExpiry (p : Port) (k : KeySlot) (s : State) : Result :=
  .next (s.holdoffExpiry p k)

end Sys2Proof.Machine
end

