-- ==== Sys2Proof/Machine/Dispatch.lean ====
section
/-! DEFINITION. The meaning of every command: one arm per constructor of Instr. -/

namespace Sys2Proof.Machine

def exec (i : Instr) (s : State) : Host.Outcome State Fault Refusal :=
  match i with
  | .powerOn => Sys2Proof.Machine.execPowerOn s
  | .loadEnd answered => Sys2Proof.Machine.execLoadEnd answered s
  | .goodFrame p f => Sys2Proof.Machine.execGoodFrame p f s
  | .frameDiscarded p f => Sys2Proof.Machine.execFrameDiscarded p f s
  | .frameMissing p => Sys2Proof.Machine.execFrameMissing p s
  | .linkLoss p => Sys2Proof.Machine.execLinkLoss p s
  | .downstreamFrame p => Sys2Proof.Machine.execDownstreamFrame p s
  | .deferredAction p => Sys2Proof.Machine.execDeferredAction p s
  | .restartCarriedOut => Sys2Proof.Machine.execRestartCarriedOut s
  | .identReply p tag cls keyCount serial keys => Sys2Proof.Machine.execIdentReply p tag cls keyCount serial keys s
  | .askDeadlineExpiry p => Sys2Proof.Machine.execAskDeadlineExpiry p s
  | .step c a b => Sys2Proof.Machine.execStep c a b s
  | .indexPulse c => Sys2Proof.Machine.execIndexPulse c s
  | .standby p tag slot => Sys2Proof.Machine.execStandby p tag slot s
  | .go p tag slot => Sys2Proof.Machine.execGo p tag slot s
  | .goNext p tag => Sys2Proof.Machine.execGoNext p tag s
  | .hold p tag slot => Sys2Proof.Machine.execHold p tag slot s
  | .holdAll p tag => Sys2Proof.Machine.execHoldAll p tag s
  | .release p tag slot => Sys2Proof.Machine.execRelease p tag slot s
  | .releaseAll p tag => Sys2Proof.Machine.execReleaseAll p tag s
  | .cancel p tag slot => Sys2Proof.Machine.execCancel p tag slot s
  | .cancelAll p tag => Sys2Proof.Machine.execCancelAll p tag s
  | .ackDeadlineExpiry slot => Sys2Proof.Machine.execAckDeadlineExpiry slot s
  | .followDeadlineExpiry slot => Sys2Proof.Machine.execFollowDeadlineExpiry slot s
  | .goDisplayExpiry slot => Sys2Proof.Machine.execGoDisplayExpiry slot s
  | .noticeBuild k => Sys2Proof.Machine.execNoticeBuild k s
  | .idleTimerExpiry c => Sys2Proof.Machine.execIdleTimerExpiry c s
  | .deniedPeriodExpiry p k => Sys2Proof.Machine.execDeniedPeriodExpiry p k s
  | .displayDeadlineExpiry p k => Sys2Proof.Machine.execDisplayDeadlineExpiry p k s
  | .holdoffDeadlineExpiry p k => Sys2Proof.Machine.execHoldoffDeadlineExpiry p k s
  | .unknownKind p tag kind => Sys2Proof.Machine.execUnknownKind p tag kind s
  | .readCueEntry p tag bank index => Sys2Proof.Machine.execReadCueEntry p tag bank index s
  | .writeCueEntry p tag index entry => Sys2Proof.Machine.execWriteCueEntry p tag index entry s
  | .readGroupEntry p tag bank index => Sys2Proof.Machine.execReadGroupEntry p tag bank index s
  | .writeGroupEntry p tag index entry => Sys2Proof.Machine.execWriteGroupEntry p tag index entry s
  | .readPositionEntry p tag bank index => Sys2Proof.Machine.execReadPositionEntry p tag bank index s
  | .writePositionEntry p tag index entry => Sys2Proof.Machine.execWritePositionEntry p tag index entry s
  | .readZoneEntry p tag bank index => Sys2Proof.Machine.execReadZoneEntry p tag bank index s
  | .writeZoneEntry p tag index entry => Sys2Proof.Machine.execWriteZoneEntry p tag index entry s
  | .readProfile p tag bank index => Sys2Proof.Machine.execReadProfile p tag bank index s
  | .writeProfile p tag index entry => Sys2Proof.Machine.execWriteProfile p tag index entry s
  | .readChannelEntry p tag bank index => Sys2Proof.Machine.execReadChannelEntry p tag bank index s
  | .writeChannelEntry p tag index entry => Sys2Proof.Machine.execWriteChannelEntry p tag index entry s
  | .readNoticeControl p tag bank index => Sys2Proof.Machine.execReadNoticeControl p tag bank index s
  | .writeNoticeControl p tag index entry => Sys2Proof.Machine.execWriteNoticeControl p tag index entry s
  | .readRouterSettings p tag bank index => Sys2Proof.Machine.execReadRouterSettings p tag bank index s
  | .writeRouterSettings p tag index entry => Sys2Proof.Machine.execWriteRouterSettings p tag index entry s
  | .copyLiveToEdit p tag => Sys2Proof.Machine.execCopyLiveToEdit p tag s
  | .swap p tag => Sys2Proof.Machine.execSwap p tag s
  | .cancelSwap p tag => Sys2Proof.Machine.execCancelSwap p tag s
  | .set p tag c value => Sys2Proof.Machine.execSet p tag c value s
  | .preset p tag c value => Sys2Proof.Machine.execPreset p tag c value s
  | .armIndex p tag c => Sys2Proof.Machine.execArmIndex p tag c s
  | .disarmIndex p tag c => Sys2Proof.Machine.execDisarmIndex p tag c s
  | .start p tag c => Sys2Proof.Machine.execStart p tag c s
  | .stop p tag c => Sys2Proof.Machine.execStop p tag c s
  | .seek p tag c index => Sys2Proof.Machine.execSeek p tag c index s
  | .mode p tag c m => Sys2Proof.Machine.execMode p tag c m s
  | .enable p tag n => Sys2Proof.Machine.execEnable p tag n s
  | .disable p tag n => Sys2Proof.Machine.execDisable p tag n s
  | .quiet p tag n => Sys2Proof.Machine.execQuiet p tag n s
  | .unquiet p tag n => Sys2Proof.Machine.execUnquiet p tag n s
  | .portRestart p tag n => Sys2Proof.Machine.execPortRestart p tag n s
  | .noticeHold p tag extra => Sys2Proof.Machine.execNoticeHold p tag extra s
  | .noticeUnhold p tag extra => Sys2Proof.Machine.execNoticeUnhold p tag extra s
  | .noticeClear p tag kind => Sys2Proof.Machine.execNoticeClear p tag kind s
  | .noticeOpen p tag lane => Sys2Proof.Machine.execNoticeOpen p tag lane s
  | .noticeClose p tag lane => Sys2Proof.Machine.execNoticeClose p tag lane s
  | .statusActiveList p tag position => Sys2Proof.Machine.execStatusActiveList p tag position s
  | .statusChannel p tag n => Sys2Proof.Machine.execStatusChannel p tag n s
  | .statusPort p tag n => Sys2Proof.Machine.execStatusPort p tag n s
  | .statusCounter p tag c => Sys2Proof.Machine.execStatusCounter p tag c s
  | .statusNotice p tag n => Sys2Proof.Machine.execStatusNotice p tag n s
  | .save p tag => Sys2Proof.Machine.execSave p tag s
  | .saveWriteAnswered => Sys2Proof.Machine.execSaveWriteAnswered s
  | .saveCompletion => Sys2Proof.Machine.execSaveCompletion s
  | .saveFailure => Sys2Proof.Machine.execSaveFailure s
  | .restart p tag => Sys2Proof.Machine.execRestart p tag s
  | .powerLoss => Sys2Proof.Machine.execPowerLoss s
  | .changeOfLevel c change => Sys2Proof.Machine.execChangeOfLevel c change s
  | .badTable p tag isWrite table => Sys2Proof.Machine.execBadTable p tag isWrite table s
  | .unnamedSubjectOrCommand p tag what => Sys2Proof.Machine.execUnnamedSubjectOrCommand p tag what s

end Sys2Proof.Machine
end

