-- ==== Sys2Proof/Machine/Step.lean ====
section
/-! DEFINITION. One step: the command at the front of the queue, or, when none waits, what falls due or one advance of
the show clock. -/

namespace Sys2Proof.Machine

/-- The queue's rest, once its front has been taken. -/
def State.withPending (s : State) (l : List Instr) : State := { s with pending := l }

/-- When no command waits: the first event that is due, else the show clock advances (log 1). -/
def State.idle (s : State) : Result :=
  match s.nextDue with
  | some i => exec i s
  | none => .next s.tick

/-- One step: the command at the front of the queue, run on everything but the queue's front. -/
def step (s : State) : Host.Outcome State Fault Refusal :=
  match s.pending with
  | i :: rest => exec i (s.withPending rest)
  | [] => s.idle

/-- The command a word spells, put at the front of the queue; no row of the table gives bits, so no word spells one and
the state is unchanged (log 25). -/
def State.withFetchWord (s : State) (nbits w : Nat) : State :=
  match Sys2Proof.decodeTableWord nbits w with
  | some i => s.withPending (i :: s.pending)
  | none => s

end Sys2Proof.Machine
end

