-- ==== Sys2Proof/Safety.lean ====
section
/-! DEFINITION. The laws the spec lays down for the whole machine, as predicates on a state: what every step keeps; and
the predicates that the statements about commands share. -/

namespace Sys2Proof.Machine

/-- R181: a port's transmit queue holds at most 8 messages. -/
def QueuesBounded (s : State) : Prop := ∀ p : Port, s.queues[p].length ≤ 8

/-- R179: no entry stays reserved when an event is over. -/
def NoneReserved (s : State) : Prop := ∀ p : Port, ∀ e ∈ s.queues[p], e.content ≠ .reserved

/-- R187: a notice record's count lies within 0–255. -/
def CountsBounded (s : State) : Prop := ∀ k : NoticeKind, s.notices[k].count ≤ 255

/-- R165: at least one station profile holds WRITE rights. -/
def WriterHeld (s : State) : Prop := ∃ p : Port, s.profiles[p].rights.write = true

/-- R76, R78: a counter's value and preset lie within −999,999 to +999,999. -/
def CountersInRange (s : State) : Prop :=
  ∀ c : CounterId, inRange (s.counter c).value = true ∧ inRange (s.counter c).preset = true

/-- R13, R106: at most 8 records, no two of one slot, and at least one while a swap is pending. -/
def CueListSound (s : State) : Prop :=
  s.active.length ≤ 8 ∧ (s.active.map ActiveCue.slot).Nodup ∧ (s.swapPending = true → s.active ≠ [])

/-- R15: the three sets of a record are pairwise disjoint, their union is the targets, and every awaited or acked port
is present. -/
def SetsSound (s : State) (r : ActiveCue) : Prop :=
  ∀ p : Port,
    (r.targets.mem p = (r.awaited.mem p || r.acked.mem p || r.absent.mem p))
      ∧ (r.awaited.mem p && r.acked.mem p) = false
      ∧ (r.awaited.mem p && r.absent.mem p) = false
      ∧ (r.acked.mem p && r.absent.mem p) = false
      ∧ ((r.awaited.mem p || r.acked.mem p) = true → s.present p = true)

/-- R170, R195: while the Start-up Loader runs every port is DOWN, no record stands, nobody talks, and each comparison
stands at the start of its list. -/
def LoadingQuiet (s : State) : Prop :=
  s.loader = .loading →
    (∀ p : Port, s.ports[p] = PortRecord.powerOn) ∧ s.active = [] ∧ (∀ c : Chan, s.talk[c] = ChannelTalk.powerOn)
      ∧ ∀ c : CounterId, (s.counter c).index = 0 ∧ (s.counter c).comparison = .stopped

/-- R15 for every record of the Active Cue List. -/
def CueSetsSound (s : State) : Prop := LoadingQuiet s ∧ ∀ r ∈ s.active, SetsSound s r

/-- R86: the current index is at most the length, equal to it when EXHAUSTED and below it when RUNNING. -/
def ComparisonsSound (s : State) : Prop :=
  LoadingQuiet s ∧ ∀ c : CounterId,
    (s.counter c).index ≤ s.listLength c
      ∧ ((s.counter c).comparison = .exhausted → (s.counter c).index = s.listLength c)
      ∧ ((s.counter c).comparison = .running → (s.counter c).index < s.listLength c)

/-- R120: a channel's talker list holds no more entries than its max talkers, and its wait queue no more than 8. -/
def TalkBounded (s : State) : Prop :=
  LoadingQuiet s ∧ ∀ c : Chan,
    s.talk[c].talkers.length ≤ s.channels[c].maxTalkers ∧ s.talk[c].waiters.length ≤ 8

/-! ## What statements about commands share -/

/-- R177: a request of a right from port p finds its port present, room for its reply, and the right in the profile. -/
def MaySend (s : State) (p : Port) (right : Right) : Prop :=
  s.present p = true ∧ s.queues[p].length < 8 ∧ hasRight s.profiles[p].rights right = true

/-- A reply that nothing waits for, none of its octets sent (R179). -/
def replyOf (kind tag : Octet) (st : Status) (d : ReplyData) : TxEntry :=
  { content := .reply kind tag st d, sent := 0, waits := .nothing }

/-- The state with one more message at the tail of a port's queue, and nothing else changed. -/
def State.replied (s : State) (p : Port) (e : TxEntry) : State :=
  { s with queues := put s.queues p (s.queues[p] ++ [e]) }

/-- R178: the port, the tag, the kind octet and the request of a command that is a request with its form. A table number
1–8 is no BAD_TABLE (R183, log 2). -/
def requestOf : Instr → Option (Port × Octet × Octet × Request)
  | .standby p tag slot => some (p, tag, 0x10, .standby slot)
  | .go p tag slot => some (p, tag, 0x11, .go slot)
  | .goNext p tag => some (p, tag, 0x12, .goNext)
  | .hold p tag slot => some (p, tag, 0x13, .hold slot)
  | .holdAll p tag => some (p, tag, 0x13, .holdAll)
  | .release p tag slot => some (p, tag, 0x14, .release slot)
  | .releaseAll p tag => some (p, tag, 0x14, .releaseAll)
  | .cancel p tag slot => some (p, tag, 0x15, .cancel slot)
  | .cancelAll p tag => some (p, tag, 0x15, .cancelAll)
  | .readCueEntry p tag bank index => some (p, tag, 0x20, .readCueEntry bank index)
  | .readGroupEntry p tag bank index => some (p, tag, 0x20, .readGroupEntry bank index)
  | .readPositionEntry p tag bank index => some (p, tag, 0x20, .readPositionEntry bank index)
  | .readZoneEntry p tag bank index => some (p, tag, 0x20, .readZoneEntry bank index)
  | .readProfile p tag bank index => some (p, tag, 0x20, .readProfile bank index)
  | .readChannelEntry p tag bank index => some (p, tag, 0x20, .readChannelEntry bank index)
  | .readNoticeControl p tag bank index => some (p, tag, 0x20, .readNoticeControl bank index)
  | .readRouterSettings p tag bank index => some (p, tag, 0x20, .readRouterSettings bank index)
  | .writeCueEntry p tag index entry => some (p, tag, 0x21, .writeCueEntry index entry)
  | .writeGroupEntry p tag index entry => some (p, tag, 0x21, .writeGroupEntry index entry)
  | .writePositionEntry p tag index entry => some (p, tag, 0x21, .writePositionEntry index entry)
  | .writeZoneEntry p tag index entry => some (p, tag, 0x21, .writeZoneEntry index entry)
  | .writeProfile p tag index entry => some (p, tag, 0x21, .writeProfile index entry)
  | .writeChannelEntry p tag index entry => some (p, tag, 0x21, .writeChannelEntry index entry)
  | .writeNoticeControl p tag index entry => some (p, tag, 0x21, .writeNoticeControl index entry)
  | .writeRouterSettings p tag index entry => some (p, tag, 0x21, .writeRouterSettings index entry)
  | .badTable p tag isWrite table =>
    if 1 ≤ table ∧ table ≤ 8 then none else some (p, tag, if isWrite then 0x21 else 0x20, .badTable isWrite)
  | .copyLiveToEdit p tag => some (p, tag, 0x30, .copyLiveToEdit)
  | .swap p tag => some (p, tag, 0x31, .swap)
  | .cancelSwap p tag => some (p, tag, 0x32, .cancelSwap)
  | .set p tag c value => some (p, tag, 0x40, .set c value)
  | .preset p tag c value => some (p, tag, 0x40, .preset c value)
  | .armIndex p tag c => some (p, tag, 0x40, .armIndex c)
  | .disarmIndex p tag c => some (p, tag, 0x40, .disarmIndex c)
  | .start p tag c => some (p, tag, 0x40, .start c)
  | .stop p tag c => some (p, tag, 0x40, .stop c)
  | .seek p tag c index => some (p, tag, 0x40, .seek c index)
  | .mode p tag c m => some (p, tag, 0x40, .mode c m)
  | .enable p tag n => some (p, tag, 0x48, .enable n)
  | .disable p tag n => some (p, tag, 0x48, .disable n)
  | .quiet p tag n => some (p, tag, 0x48, .quiet n)
  | .unquiet p tag n => some (p, tag, 0x48, .unquiet n)
  | .portRestart p tag n => some (p, tag, 0x48, .portRestart n)
  | .noticeHold p tag extra => some (p, tag, 0x50, .noticeHold extra)
  | .noticeUnhold p tag extra => some (p, tag, 0x50, .noticeUnhold extra)
  | .noticeClear p tag kind => some (p, tag, 0x50, .noticeClear kind)
  | .noticeOpen p tag lane => some (p, tag, 0x50, .noticeOpen lane)
  | .noticeClose p tag lane => some (p, tag, 0x50, .noticeClose lane)
  | .statusActiveList p tag position => some (p, tag, 0x58, .statusActiveList position)
  | .statusChannel p tag n => some (p, tag, 0x58, .statusChannel n)
  | .statusPort p tag n => some (p, tag, 0x58, .statusPort n)
  | .statusCounter p tag c => some (p, tag, 0x58, .statusCounter c)
  | .statusNotice p tag n => some (p, tag, 0x58, .statusNotice n)
  | .unnamedSubjectOrCommand p tag .status => some (p, tag, 0x58, .unnamed .status)
  | .unnamedSubjectOrCommand p tag (.counter c) => some (p, tag, 0x40, .unnamed (.counter c))
  | .unnamedSubjectOrCommand p tag .port => some (p, tag, 0x48, .unnamed .port)
  | .unnamedSubjectOrCommand p tag .notice => some (p, tag, 0x50, .unnamed .notice)
  | .save p tag => some (p, tag, 0x60, .save)
  | .restart p tag => some (p, tag, 0x68, .restart)
  | _ => none

/-- R14, R18, R51: the record that an accepted STANDBY appends, READY at once when its policy is met (R21). -/
def State.stoodBy (s : State) (slot : CueSlot) (o : Origin) (follow : Option Time) : ActiveCue :=
  let cue := s.liveTables.cues[slot]
  let here := (s.resolve cue).inter s.presentSet
  { slot := slot, state := if cue.ackPolicy = .nobody ∨ here.isEmpty = true then .ready else .standby, prior := none
    targets := s.resolve cue, awaited := here, acked := PortSet.none, absent := (s.resolve cue).diff s.presentSet
    overdue := false, unready := false, origin := o
    ackDeadline := if cue.ackTimeout = 0 then none else some (s.clock + 8 * cue.ackTimeout)
    followDeadline := follow, remaining := none, goDisplay := none }

/-- R70, R73: the desks are told about a record, in a state: the record's own, or the final state of its removal. -/
def State.told (s : State) (r : ActiveCue) (st : DeskState) : State :=
  s.deskStatus (.cue r.slot s.liveTables.cues[r.slot].label st r.awaited.count r.acked.count r.absent.count r.overdue
    r.unready r.origin)

/-- R36: the desks are told about records one after the other, each in its own state. -/
def State.toldAll (s : State) (l : List ActiveCue) : State := l.foldl (fun t r => t.told r (.inList r.state)) s

/-- R48: the desks are told about records removed one after the other, each CANCELLED. -/
def State.toldCancelled (s : State) (l : List ActiveCue) : State := l.foldl (fun t r => t.told r .cancelled) s

/-- R188: notices raised one after the other. -/
def State.raised (s : State) (l : List NoticeDetail) : State := l.foldl State.raise s

/-- R92: a ZONE_CHANGE for each zone that `o` gives another occupancy, in zone order, with the value of its counter. -/
def State.zoneChanges (s : State) (o : Vector Bool 6) : List NoticeDetail :=
  ((List.finRange 6).filter fun z => o[z] != s.occupied[z]).map fun z =>
    .zoneChange z o[z] (s.counter s.liveTables.zones[z].counter).value

/-- R109, R100: what a swap completed in state u leaves, when the zones end with occupancy o: the selector moved, the
flag clear, both comparisons rewound, the changes of occupancy, BANK_SWAPPED, and the bank form to every desk. -/
def State.swappedTo (u : State) (o : Vector Bool 6) (cause : SwapCause) : State :=
  let v : State :=
    { u with
      live := u.live.other, swapPending := false
      counters := u.counters.map fun x => { x with comparison := .stopped, index := 0 } }
  ((State.raised { v with occupied := o } (v.zoneChanges o)).raise (.bankSwapped v.live cause)).deskStatus (.bank v.live)

/-- The free values drawn once a counter has taken levels of A and B: a rise of both together in UP_DOWN draws one (log
21). -/
def State.freshAfter (s : State) (c : CounterId) (a b : Bool) : Nat :=
  let r := s.counter c
  if r.mode = .upDown ∧ r.ref.a = false ∧ a = true ∧ r.ref.b = false ∧ b = true then s.fresh + 1 else s.fresh

/-- R190: the six gates of a notice record: pending and not sent, its kind enabled, no hold, its lane open, the lane's
destination present, and a free entry in the destination's queue. -/
def GatesPass (s : State) (k : NoticeKind) : Prop :=
  let lane := s.noticeControl.lanes[s.noticeControl.kinds[k].lane]
  s.notices[k].pending = true ∧ s.notices[k].sent = false ∧ s.noticeControl.kinds[k].enable = true
    ∧ s.noticeControl.hold = false ∧ lane.isOpen = true ∧ s.present lane.dest = true ∧ s.queues[lane.dest].length < 8

/-- `t` is `u` apart from the transmit queues and the gap flags. -/
def QueuesAside (t u : State) : Prop := ∃ q g, t = { u with queues := q, gaps := g }

/-- `t` is `u` apart from the transmit queues, the gap flags and the notice records. -/
def MessagesAside (t u : State) : Prop := ∃ q g n, t = { u with queues := q, gaps := g, notices := n }

/-- R118, R126, R133: a channel's lists without the entries of a port, a talker's place granted to the heads of the wait
queue; a grant reloads the idle timer (R131), and the removal alone does not. -/
def State.talkFreed (s : State) (c : Chan) (p : Port) : ChannelTalk :=
  let held := s.talk[c]
  let talkers := held.talkers.filter fun e => e.port ≠ p
  let waiters := held.waiters.filter fun e => e.port ≠ p
  let granted := if ∃ e ∈ held.talkers, e.port = p then s.channels[c].maxTalkers - talkers.length else 0
  { talkers := talkers ++ waiters.take granted
    waiters := waiters.drop granted
    idle :=
      if granted = 0 ∨ waiters = [] then held.idle
      else if s.channels[c].idleRelease = 0 then none
      else some (s.clock + 8000 * s.channels[c].idleRelease) }

/-- R133, R154, R158, R163, R182: what stands about a port that has left presence for DOWN or DISABLED in state s. -/
def HasLeft (s t : State) (p : Port) (target : PortState) : Prop :=
  t.ports[p] = { PortRecord.powerOn with state := target }
    ∧ t.assemblies[p] = .empty ∧ t.queues[p] = [] ∧ t.gaps[p] = false ∧ t.samples[p] = none
    ∧ t.calls[p] = Vector.replicate 4 CallRecord.cleared ∧ t.denied[p] = Vector.replicate 4 none
    ∧ t.shown[p] = ShownLamps.off
    ∧ (∀ c : Chan, t.talk[c] = s.talkFreed c p ∧ ∀ e ∈ t.talk[c].talkers ++ t.talk[c].waiters, e.port ≠ p)
    ∧ ∀ r ∈ t.active, r.awaited.mem p = false ∧ r.acked.mem p = false

/-- R25: in every record of s that awaited port p or held its ack, p has become absent; a record in STANDBY has been
tested for READY with the presence of t. -/
def PortAbsent (s t : State) (p : Port) : Prop :=
  t.active = s.active.map fun r =>
    if r.awaited.mem p = true ∨ r.acked.mem p = true then
      let x : ActiveCue :=
        { r with awaited := r.awaited.erase p, acked := r.acked.erase p, absent := r.absent.insert p }
      if r.state = .standby ∧ t.policyMet x = true then { x with state := .ready } else x
    else r

/-- R192: LANE_LOST for each lane whose destination is the port, open or closed, in lane order. -/
def State.lanesLeading (s : State) (p : Port) : List NoticeDetail :=
  ((List.finRange 4).filter fun l => s.noticeControl.lanes[l].dest == p).map fun l => .laneLost l p

/-- R25, R158, R192: a port that has left presence in state s, whole: the records as PortAbsent says, the port's own
things gone, the desks told about each record changed, LANE_LOST for its lanes, then the causes; nothing else changes. The
order of the messages is log 11. -/
def HasDeparted (s t : State) (p : Port) (target : PortState) (causes : List NoticeDetail) : Prop :=
  PortAbsent s t p
    ∧ t = State.raised
      (State.toldAll
        { s with
          ports := put s.ports p { PortRecord.powerOn with state := target }
          assemblies := put s.assemblies p .empty
          queues := put s.queues p []
          gaps := put s.gaps p false
          samples := put s.samples p none
          calls := put s.calls p (Vector.replicate 4 CallRecord.cleared)
          denied := put s.denied p (Vector.replicate 4 none)
          shown := put s.shown p ShownLamps.off
          talk := t.talk
          active := t.active }
        (((s.active.zip t.active).filter fun x => x.1.awaited.mem p || x.1.acked.mem p).map Prod.snd))
      (s.lanesLeading p ++ causes)

/-- What a fall leaves untouched, whatever port falls: the tables, the banks, the counters and the zones (R111, R99). -/
def TablesKept (s t : State) : Prop :=
  t.bankA = s.bankA ∧ t.bankB = s.bankB ∧ t.live = s.live ∧ t.swapPending = s.swapPending ∧ t.channels = s.channels
    ∧ t.router = s.router ∧ t.noticeControl = s.noticeControl ∧ t.counters = s.counters ∧ t.pins = s.pins
    ∧ t.occupied = s.occupied ∧ t.clock = s.clock ∧ t.line = s.line ∧ t.loader = s.loader ∧ t.save = s.save
    ∧ t.store = s.store ∧ t.pending = s.pending

/-- R198: the image in the memory after a RESTART carried out in state s: with a save running, its write in progress is
finished. Whether the memory answers that write is a free value (log 8). -/
def State.storeLeft (s : State) : Option StoredImage :=
  match s.save with
  | none => s.store
  | some x => if x.stage = .marker ∧ Config.memoryAnswers s.fresh = true then some x.snapshot.toImage else none

/-- R198, R199: what stands after a RESTART carried out in state s, block by block. -/
def HasRestarted (s t : State) : Prop :=
  t.active = [] ∧ t.live = s.live ∧ t.swapPending = false ∧ t.bankA = s.bankA ∧ t.bankB = s.bankB
    ∧ (∀ c : CounterId, t.counter c = { s.counter c with comparison := .stopped })
    ∧ t.occupied = s.occupied ∧ t.pins = s.pins ∧ t.profiles = s.profiles ∧ t.channels = s.channels
    ∧ t.router = s.router ∧ t.noticeControl = { s.noticeControl with hold := false }
    ∧ (∀ c : Chan, t.talk[c] = { talkers := [], waiters := [], idle := none })
    ∧ (∀ q : Port, t.ports[q] =
          { PortRecord.powerOn with state := if s.profiles[q].enabled then .down else .disabled }
        ∧ t.assemblies[q] = .empty ∧ t.queues[q] = [] ∧ t.gaps[q] = false ∧ t.samples[q] = none
        ∧ t.shown[q] = ShownLamps.off
        ∧ ∀ k : KeySlot, t.calls[q][k] = CallRecord.cleared ∧ t.denied[q][k] = none)
    ∧ t.restartBy = none ∧ t.loader = .idle ∧ t.save = none
    ∧ t.store = s.storeLeft ∧ t.fresh = (if s.save = none then s.fresh else s.fresh + 1)
    ∧ (∀ k : NoticeKind, k ≠ 16 → t.notices[k] = NoticeRecord.empty)
    ∧ t.notices[(16 : NoticeKind)] =
        { pending := true, count := 1, detail := some (.started .restart), sent := false }
    ∧ t.clock = s.clock ∧ t.line = s.line ∧ t.powered = s.powered ∧ t.pending = s.pending

end Sys2Proof.Machine
end

