-- ==== Sys2Proof/Certificates/Slice0/Obligations.lean ====
section
/-! DEFINITION. The statements about the model that the provers take on. -/

open Sys2Proof Sys2Proof.Machine

/-! ## The step -/

/-- A step takes the command at the front of the queue and is exec of it on the state with the queue's rest. -/
def Obligations.StepRunsFrontCommand : Prop :=
  ∀ (c : Instr) (s : State), step { s with pending := c :: s.pending } = exec c s

/-- The model's choice (log 1): with no command waiting, the first event that is due is taken, a waiting notice to build or
else an expiry; with none due the show clock advances by one frame interval while the part has power. -/
def Obligations.EmptyQueueTakesDueExpiryOrTicks : Prop :=
  ∀ s : State, s.pending = [] →
    (s.nextDue = none → step s = .next (if s.powered then { s with clock := s.clock + 1 } else s))
      ∧ ∀ c, s.nextDue = some c → step s = exec c s

/-- Every command answers a next state (log 31), and none touches the queue of waiting commands, which is the model's
own (logs 1 and 6). -/
def Obligations.EveryCommandAnswersAndKeepsTheQueue : Prop :=
  ∀ (c : Instr) (s : State), ∃ t, exec c s = .next t ∧ t.pending = s.pending

/-! ## Power-on, load and reset values -/

/-- The values right after power-on reset that the rules give: R37, R63 (list), R74 (gap flags), R99 (counters, zones),
R111 (selector, flag), R4, R8, R84, R90 (both banks cleared), R113, R119, R196 (single tables), R138, R139, R147, R170,
R174, R182, R187, R189, R195. -/
def Obligations.ResetHoldsPowerOnValues : Prop :=
  State.reset.active = [] ∧ State.reset.live = .a ∧ State.reset.swapPending = false
    ∧ State.reset.loader = .loading ∧ State.reset.save = none ∧ State.reset.restartBy = none
    ∧ (∀ p : Port, State.reset.ports[p] =
        { state := .down, lossCount := 0, ident := none, asksSent := 0, askDeadline := none, keyRef := none,
          deferred := none }
      ∧ State.reset.assemblies[p] = .empty ∧ State.reset.queues[p] = [] ∧ State.reset.gaps[p] = false
      ∧ State.reset.samples[p] = none
      ∧ (State.reset.profiles[p].rights = if p = 0 then ⟨true, true, true⟩ else ⟨false, false, false⟩)
      ∧ (State.reset.profiles[p].priority = if p = 0 then 3 else 1)
      ∧ State.reset.profiles[p].enabled = true ∧ State.reset.profiles[p].expected = .any
      ∧ State.reset.profiles[p].sidetone = false
      ∧ State.reset.profiles[p].slots[(0 : KeySlot)] =
          { channel := some 0, mode := .talkListen, action := .auto, callAllowed := true }
      ∧ ∀ k : KeySlot, (k ≠ 0 → State.reset.profiles[p].slots[k] =
            { channel := none, mode := .listen, action := .momentary, callAllowed := false })
          ∧ State.reset.calls[p][k] = { flash := none, holdoff := none } ∧ State.reset.denied[p][k] = none)
    ∧ (∀ c : CounterId, (State.reset.counter c).value = 0 ∧ (State.reset.counter c).state = .counting
      ∧ (State.reset.counter c).mode = .quadrature ∧ (State.reset.counter c).preset = 0
      ∧ (State.reset.counter c).arm = false ∧ (State.reset.counter c).comparison = .stopped
      ∧ (State.reset.counter c).index = 0)
    ∧ (∀ z : ZoneNo, State.reset.occupied[z] = false)
    ∧ (∀ x : Bank, (∀ i : CueSlot, (State.reset.bank x).cues[i] =
          { valid := false, label := [], groups := [], ackPolicy := .all, ackTimeout := 0, goPolicy := .readyOnly,
            cueChannel := none, interlock := none, goDisplay := 1000, successor := none })
      ∧ (∀ g : GroupNo, (State.reset.bank x).groups[g].valid = false
        ∧ ∀ p : Port, (State.reset.bank x).groups[g].ports.mem p = false)
      ∧ (∀ i : Fin 24, (State.reset.bank x).positions[i] =
          { valid := false, target := 0, direction := .either, slot := 0, action := .standby })
      ∧ ∀ z : ZoneNo, (State.reset.bank x).zones[z] =
          { valid := false, counter := .m1, lower := 0, upper := 0, group := none, warn := false })
    ∧ (∀ c : Chan, State.reset.channels[c] =
        { maxTalkers := 4, level := 16, preemption := true, idleRelease := 0, callDisplay := 3000 }
      ∧ State.reset.talk[c] = { talkers := [], waiters := [], idle := none })
    ∧ State.reset.router = { threshold := 400, holdoff := 500 }
    ∧ (∀ k : NoticeKind, State.reset.notices[k] = { pending := false, count := 0, detail := none, sent := false }
      ∧ State.reset.noticeControl.kinds[k] = { enable := true, lane := 0 })
    ∧ State.reset.noticeControl.hold = false
    ∧ ∀ l : Lane, State.reset.noticeControl.lanes[l] = { dest := 0, isOpen := l == 0, mode := .autoClear }

/-- The laws of the machine hold right after reset. -/
def Obligations.ResetMeetsTheLaws : Prop :=
  QueuesBounded State.reset ∧ NoneReserved State.reset ∧ CountsBounded State.reset ∧ WriterHeld State.reset
    ∧ CountersInRange State.reset ∧ CueListSound State.reset ∧ CueSetsSound State.reset
    ∧ ComparisonsSound State.reset ∧ TalkBounded State.reset

/-- POWER_ON and POWER_LOSS set every piece of the part's state to its power-on value; what lies outside the part (the
pins, the memory, whose image a running save leaves invalid) and the model's own fields stay (R195, R198; logs 1, 6, 7, 10,
29). Two of the values are the model's, not the spec's: the show clock at 0 (log 5) and no downstream frame on any line (log
37). -/
def Obligations.PowerOnSetsEveryPowerOnValue : Prop :=
  ∀ (s : State) (power : Bool), exec (if power then .powerOn else .powerLoss) s =
    .next { State.reset with
      powered := power, pending := s.pending, fresh := s.fresh, pins := s.pins
      store := if s.loader = .saving then none else s.store }

/-- LOAD_END: the image or the defaults, the P0 guarantee, the ports by their profiles, the references, the zones and
STARTED. An image is loaded entry by entry into bank A, the copy in bank B and the single tables: an entry that passes its
table's write rule as written, any other as the cleared or default entry of its table. When no profile so loaded or kept
holds WRITE, P0 gets every right and is enabled, its other fields as loaded. Each zone that the evaluation changes raises
ZONE_CHANGE with the value of its counter, in zone order and before STARTED, and nothing else changes (R92, R99, R195,
R196). That the value is that of the counter that the live table names is log 23. -/
def Obligations.LoadEndHandsOn : Prop :=
  ∀ (s : State) (answered : Bool), s.powered = true → s.loader = .loading →
    let profiles : State → (Port → Profile) → Prop := fun t loaded =>
      t.profiles[(0 : Port)] =
          (if ∃ p : Port, (loaded p).rights.write = true then loaded 0
          else { loaded 0 with rights := ⟨true, true, true⟩, enabled := true })
        ∧ ∀ p : Port, p ≠ 0 → t.profiles[p] = loaded p
    let messages : State → StartCause → Prop := fun t cause =>
      let u : State :=
        { s with
          loader := .idle, ports := t.ports, counters := t.counters, profiles := t.profiles, bankA := t.bankA
          bankB := t.bankB, channels := t.channels, noticeControl := t.noticeControl, router := t.router }
      t = (State.raised { u with occupied := t.occupied } (u.zoneChanges t.occupied)).raise (.started cause)
    ∃ t, exec (.loadEnd answered) s = .next t ∧ t.loader = .idle ∧ WriterHeld t
      ∧ (∀ p : Port, t.ports[p] =
          { PortRecord.powerOn with state := if t.profiles[p].enabled then .down else .disabled })
      ∧ (∀ c : CounterId, t.counter c = { s.counter c with ref := s.pin c })
      ∧ (∀ z : ZoneNo, t.occupied[z] =
          zoneInside t.liveTables.zones[z] (s.counter t.liveTables.zones[z].counter))
      ∧ t.live = s.live ∧ t.swapPending = s.swapPending ∧ t.active = s.active ∧ t.store = s.store
      ∧ (∀ i, answered = true → s.store = some i →
          t.bankB = t.bankA
            ∧ (∀ x : CueSlot, t.bankA.cues[x] = (checkCue x i.cues[x]).getD CueRecord.cleared)
            ∧ (∀ x : GroupNo, t.bankA.groups[x] =
              (checkGroup i.groups[x]).getD { valid := false, ports := PortSet.none })
            ∧ (∀ x : Fin 24, t.bankA.positions[x] = (checkPosition i.positions[x]).getD PositionEntry.cleared)
            ∧ (∀ x : ZoneNo, t.bankA.zones[x] = (checkZone i.zones[x]).getD Zone.cleared)
            ∧ t.noticeControl.hold =
              (match i.noticeControl[(0 : Fin 23)] with
              | .global (some h) => h
              | _ => false)
            ∧ (∀ k : NoticeKind, t.noticeControl.kinds[k] =
              match i.noticeControl[k.val + 1] with
              | .kind (some e) x => if h : x < 4 then { enable := e, lane := ⟨x, h⟩ } else { enable := true, lane := 0 }
              | _ => { enable := true, lane := 0 })
            ∧ (∀ l : Lane, t.noticeControl.lanes[l] =
              match i.noticeControl[l.val + 19] with
              | .lane x (some o) (some m) =>
                if h : x < 32 then { dest := ⟨x, h⟩, isOpen := o, mode := m }
                else { dest := 0, isOpen := l == 0, mode := .autoClear }
              | _ => { dest := 0, isOpen := l == 0, mode := .autoClear })
            ∧ (∀ c : Chan, t.channels[c] = (checkChannel i.channels[c]).getD ChannelEntry.default)
            ∧ t.router = (checkRouter i.router).getD RouterSettings.default
            ∧ profiles t (fun p => (checkProfile i.profiles[p]).getD (Profile.default p))
            ∧ messages t .loaded ∧ t.notices[(16 : NoticeKind)].detail = some (.started .loaded))
      ∧ (answered = false ∨ s.store = none →
          t.bankA = s.bankA ∧ t.bankB = s.bankB ∧ t.noticeControl = s.noticeControl ∧ t.channels = s.channels
            ∧ t.router = s.router ∧ profiles t (fun p => s.profiles[p]) ∧ messages t .defaults
            ∧ t.notices[(16 : NoticeKind)].detail = some (.started .defaults))

/-! ## SAVE and RESTART -/

/-- SAVE is answered BUSY while a save runs, and otherwise is answered OK and takes the snapshot of the live bank and the
single tables. Its first write overwrites the marker within the acceptance: answered, the image is invalid and the loader
is SAVING; unanswered, the save fails at once, SAVE_DONE FAIL is raised behind the reply and the image stays. Whether the
memory answers is a free value (log 42). A running save goes on write by write: the answered marker write makes the image
valid with the snapshot, and an unanswered write fails the save and leaves the image invalid (R197, R198; the number of
writes is log 9). -/
def Obligations.SaveRunsFromSnapshotToMarker : Prop :=
  (∀ (s : State) (p : Port) (tag : Octet), MaySend s p .write →
      (s.loader = .idle →
        ∃ st, (st = .tables 0 ∨ st = .imageCheck)
          ∧ exec (.save p tag) s = .next
            (let answered := { s with fresh := s.fresh + 1 }.replied p (replyOf 0xE0 tag .ok .nothing)
            if Config.memoryAnswers s.fresh = true then
              { answered with
                loader := .saving, store := none
                save := some
                  { snapshot :=
                      { banked := s.bank s.live, profiles := s.profiles, channels := s.channels,
                        noticeControl := s.noticeControl, router := s.router }
                    stage := st } }
            else State.raise { answered with save := none } (.saveDone false)))
        ∧ (s.loader = .saving → exec (.save p tag) s = .next (s.replied p (replyOf 0xE0 tag .busy .nothing))))
    ∧ (∀ (s : State) (x : Save), s.loader = .saving → s.save = some x →
        (∀ n, x.stage = .tables n →
            ∃ st, (st = .tables (n + 1) ∨ st = .imageCheck)
              ∧ exec .saveWriteAnswered s = .next { s with save := some { x with stage := st } })
          ∧ (x.stage = .imageCheck →
            exec .saveWriteAnswered s = .next { s with save := some { x with stage := .marker } })
          ∧ (x.stage = .marker →
            ∃ t, exec .saveCompletion s = .next t
              ∧ MessagesAside t { s with loader := .idle, save := none, store := some x.snapshot.toImage }
              ∧ t.notices[(15 : NoticeKind)].detail = some (.saveDone true))
          ∧ ∃ t, exec .saveFailure s = .next t
              ∧ MessagesAside t { s with loader := .idle, save := none, store := none }
              ∧ t.notices[(15 : NoticeKind)].detail = some (.saveDone false))

/-- RESTART at its acceptance sets the mark with the requesting port and is answered OK, its reply the one that the
restart waits for; with the mark set it is answered ALREADY and changes nothing. Once its reply has been fully sent (no
entry of the queue holds it) it is carried out across the blocks; when the requesting port leaves presence before that,
it is carried out at once (R185, R199; the order after the fall is log 16, and that LINK_LOSS at a count of 15 is the frame
interval that brings it to 16 is log 3). While the reply waits RESTART_CARRIED_OUT does nothing (logs 2, 3). A RESTART
abandons a running save when its write in progress is over (R198): the image holds the snapshot when that is the marker
write and the memory answers it, and is invalid otherwise; whether the memory answers is a free value (log 8). The frame that sends the last octet is the statement about the head of the
queue. -/
def Obligations.RestartWaitsForItsReplyThenActs : Prop :=
  (∀ (s : State) (p : Port) (tag : Octet), MaySend s p .write →
      (s.restartBy = none →
        exec (.restart p tag) s = .next
          ({ s with restartBy := some p }.replied p
            { content := .reply 0xE8 tag .ok .nothing, sent := 0, waits := .restart }))
        ∧ ∀ q, s.restartBy = some q →
          exec (.restart p tag) s = .next (s.replied p (replyOf 0xE8 tag .already .nothing)))
    ∧ (∀ (s : State) (p : Port), s.restartBy = some p →
        ((∀ e ∈ s.queues[p], e.waits ≠ .restart) →
            ∃ t, exec .restartCarriedOut s = .next t ∧ HasRestarted s t)
          ∧ ((∃ e ∈ s.queues[p], e.waits = .restart) → exec .restartCarriedOut s = .next s))
    ∧ (∀ (s : State) (p : Port) (c : Instr),
        (c = .linkLoss p ∨ c = .frameMissing p ∨ ∃ f, c = .frameDiscarded p f ∧ UpFrame.classify f ≠ .good) →
        s.loader ≠ .loading → s.present p = true → s.ports[p].lossCount = 15 → s.restartBy = some p →
        ∃ t, exec c s = .next t ∧ HasRestarted s t)

/-! ## Line frames -/

/-- A good frame without a message octet or a change of key, by the port state; a discarded or missing frame
interval, which makes the sample void and adds one to the link-loss count below 16, while DOWN does not count and
DISABLED takes nothing; and the octets of an upstream frame: start octet, frame check over octets 1–5, consistent lane
bits, sample, keys, and the check register (R147, R152, R153, R154, R155, R160, R171). -/
def Obligations.FramesByPortState : Prop :=
  (∀ (s : State) (p : Port) (f : UpFrame), s.loader ≠ .loading → UpFrame.classify f = .good →
      (s.ports[p].state = .disabled → exec (.goodFrame p f) s = .next s)
        ∧ (s.ports[p].state = .down → s.queues[p] = [] →
          exec (.goodFrame p f) s = .next
            ({ s with
                samples := put s.samples p (some (UpFrame.sample f))
                ports := put s.ports p { s.ports[p] with state := .probing, asksSent := 1 } }.replied p
              { content := .identAsk 1, sent := 0, waits := .nothing }))
        ∧ (s.ports[p].state = .fault →
          exec (.goodFrame p f) s = .next
            { s with
              samples := put s.samples p (some (UpFrame.sample f))
              ports := put s.ports p { s.ports[p] with lossCount := 0 } })
        ∧ (s.ports[p].state = .probing → UpFrame.lanePresent f = false →
          exec (.goodFrame p f) s = .next
            { s with
              samples := put s.samples p (some (UpFrame.sample f))
              ports := put s.ports p { s.ports[p] with lossCount := 0 } })
        ∧ (s.present p = true → UpFrame.lanePresent f = false → s.ports[p].keyRef = some (UpFrame.keys f) →
          exec (.goodFrame p f) s = .next
            { s with
              samples := put s.samples p (some (UpFrame.sample f))
              ports := put s.ports p { s.ports[p] with lossCount := 0 } }))
    ∧ (∀ (s : State) (p : Port) (f : UpFrame) (c : Instr), s.loader ≠ .loading →
        (c = .frameMissing p ∨ (c = .frameDiscarded p f ∧ UpFrame.classify f ≠ .good)) →
        (s.ports[p].state = .disabled → exec c s = .next s)
          ∧ (s.ports[p].state = .down → exec c s = .next { s with samples := put s.samples p none })
          ∧ (s.ports[p].state ≠ .disabled → s.ports[p].state ≠ .down → s.ports[p].lossCount < 15 →
            exec c s = .next
              { s with
                samples := put s.samples p none
                ports := put s.ports p { s.ports[p] with lossCount := s.ports[p].lossCount + 1 } }))
    ∧ (∀ f : UpFrame,
      (UpFrame.classify f = .missing ↔ f[0] ≠ 0x4E#8)
        ∧ (UpFrame.classify f = .good ↔
          f[0] = 0x4E#8 ∧ f[6] = crc8 0 [f[1], f[2], f[3], f[4], f[5]]
            ∧ ¬(f[4].getLsbD 5 = true ∧ f[4].getLsbD 6 = false))
        ∧ (UpFrame.sample f).toInt = 256 * f[1].toInt + f[2].toNat
        ∧ (∀ k : KeySlot, (UpFrame.keys f).talk.getLsbD k.val = f[3].getLsbD (4 + k.val)
          ∧ (UpFrame.keys f).call.getLsbD k.val = f[3].getLsbD k.val)
        ∧ (UpFrame.keys f).cue = f[4].getLsbD 7 ∧ UpFrame.lanePresent f = f[4].getLsbD 6
        ∧ UpFrame.startMarker f = f[4].getLsbD 5)
    ∧ ∀ (x o : Octet) (l : List Octet),
      let shift : Octet → Octet := fun y => if y.getLsbD 7 = true then (y <<< 1) ^^^ 0x07#8 else y <<< 1
      crc8 x [] = x ∧ crc8 x (o :: l) = crc8 (Nat.iterate shift 8 (x ^^^ o)) l

/-- The edges of a good frame of a present port reach the blocks that the port state passes them on to, and the frame's
levels become the reference; a talk-key press also ends the flash of its own slot and nothing else of the call records
(R143, R155; the order of edges of one frame is log 12). What a press and a release do is the statement about talk
requests. -/
def Obligations.KeyEdgesByPortState : Prop :=
  ∀ (s : State) (p : Port) (f : UpFrame) (old : Keys), s.loader ≠ .loading → UpFrame.classify f = .good →
    UpFrame.lanePresent f = false → s.ports[p].keyRef = some old →
    let u : State :=
      { s with
        samples := put s.samples p (some (UpFrame.sample f))
        ports := put s.ports p { s.ports[p] with lossCount := 0, keyRef := some (UpFrame.keys f) } }
    (s.ports[p].state = .quiet →
        exec (.goodFrame p f) s = .next (if (UpFrame.keys f).cue && !old.cue then u.cuePress p else u))
      ∧ (s.ports[p].state = .up → (UpFrame.keys f).talk = old.talk → (UpFrame.keys f).call = old.call →
        exec (.goodFrame p f) s = .next (if (UpFrame.keys f).cue && !old.cue then u.cuePress p else u))
      ∧ ∀ k : KeySlot, s.ports[p].state = .up → (UpFrame.keys f).cue = old.cue →
        ((UpFrame.keys f).call = old.call → (UpFrame.keys f).talk = old.talk ||| BitVec.twoPow 4 k.val →
            old.talk.getLsbD k.val = false →
            exec (.goodFrame p f) s = .next
              { u.talkPress p k with
                calls := put s.calls p (put s.calls[p] k { s.calls[p][k] with flash := none }) })
          ∧ ((UpFrame.keys f).call = old.call → old.talk = (UpFrame.keys f).talk ||| BitVec.twoPow 4 k.val →
            (UpFrame.keys f).talk.getLsbD k.val = false → exec (.goodFrame p f) s = .next (u.talkRelease p k))
          ∧ ((UpFrame.keys f).talk = old.talk → (UpFrame.keys f).call = old.call ||| BitVec.twoPow 4 k.val →
            old.call.getLsbD k.val = false → exec (.goodFrame p f) s = .next (u.callPress p k))

/-- When a missing or discarded frame takes the count to 16, the port passes to DOWN, or to DISABLED with a deferred
DISABLE, with its buffers emptied; a port that was present leaves presence and PORT_DOWN is raised with cause LINK_LOSS;
a deferred DISABLE or RESTART whose reply has been fully sent (no entry of the queue holds it) takes the port to DISABLED
or DOWN, the latter with PORT_DOWN of cause PORT_RESTART, and while the reply waits nothing happens; in the cue records the
port becomes absent, with a test for READY. The port's talk entries go, the heads of the wait queues take the places freed
and a grant reloads the idle timer; the desks are told of each record changed, and LANE_LOST is raised for each lane that
leads to the port, open or closed (R25, R126, R133, R152, R154, R158, R167, R168, R192). A port that a RESTART waits for
is left to the statement about RESTART. The model's choices: a frame that reaches 16 does the link loss (log 3), PORT_DOWN
is raised for a port that a deferred DISABLE takes to DISABLED (log 15), the order of the messages (log 11), and that
DEFERRED_ACTION changes nothing at a port without a deferred action or while the reply waits (logs 2, 3). -/
def Obligations.PresentPortFalls : Prop :=
  (∀ (s : State) (p : Port) (c : Instr),
      (c = .linkLoss p ∨ c = .frameMissing p ∨ ∃ f, c = .frameDiscarded p f ∧ UpFrame.classify f ≠ .good) →
      s.loader ≠ .loading → s.ports[p].state ≠ .disabled → s.ports[p].state ≠ .down → s.ports[p].lossCount = 15 →
      let target : PortState := if s.ports[p].deferred = some .disable then .disabled else .down
      (s.present p = false →
          exec c s = .next
            { s with
              samples := put s.samples p none
              ports := put s.ports p { PortRecord.powerOn with state := target }
              assemblies := put s.assemblies p .empty
              queues := put s.queues p []
              gaps := put s.gaps p false })
        ∧ (s.present p = true → s.restartBy ≠ some p →
          ∃ t, exec c s = .next t ∧ HasLeft s t p target ∧ TablesKept s t ∧ t.profiles = s.profiles
            ∧ (CueListSound s → HasDeparted s t p target [.portDown p .linkLoss])
            ∧ t.notices[(1 : NoticeKind)].detail = some (.portDown p .linkLoss)
            ∧ ∀ q : Port, q ≠ p → t.ports[q] = s.ports[q] ∧ t.samples[q] = s.samples[q] ∧ t.calls[q] = s.calls[q]))
    ∧ (∀ (s : State) (p : Port), s.present p = true → s.restartBy ≠ some p →
        ((∀ e ∈ s.queues[p], e.waits ≠ .deferred) →
          (s.ports[p].deferred = some .disable →
              ∃ t, exec (.deferredAction p) s = .next t ∧ HasLeft s t p .disabled ∧ TablesKept s t
                ∧ (CueListSound s → HasDeparted s t p .disabled []))
            ∧ (s.ports[p].deferred = some .restart →
              ∃ t, exec (.deferredAction p) s = .next t ∧ HasLeft s t p .down ∧ TablesKept s t
                ∧ (CueListSound s → HasDeparted s t p .down [.portDown p .portRestart])
                ∧ t.notices[(1 : NoticeKind)].detail = some (.portDown p .portRestart))
            ∧ (s.ports[p].deferred = none → exec (.deferredAction p) s = .next s))
          ∧ ((∃ e ∈ s.queues[p], e.waits = .deferred) → exec (.deferredAction p) s = .next s))

/-- The message octet of a good frame reaches the receive assembly of its port: begun by a start marker, ignored without
one while EMPTY, cut by a second marker, stored in the next position, and ended by a length above 48, by a wrong check, or
by a right one with the message handed on (R153, R174, R175). -/
def Obligations.AssemblyTakesMessageOctets : Prop :=
  (∀ (s : State) (p : Port) (f : UpFrame), s.loader ≠ .loading → UpFrame.classify f = .good →
      UpFrame.lanePresent f = true →
      (s.ports[p].state = .probing ∨ (s.present p = true ∧ s.ports[p].keyRef = some (UpFrame.keys f))) →
      exec (.goodFrame p f) s = .next
        (State.laneOctet
          { s with
            samples := put s.samples p (some (UpFrame.sample f))
            ports := put s.ports p { s.ports[p] with lossCount := 0 } }
          p (UpFrame.startMarker f) f[5] (UpFrame.keys f)))
    ∧ (∀ (s : State) (p : Port) (o : Octet) (keys : Keys),
      (s.assemblies[p] = .empty →
          s.laneOctet p true o keys = s.setAssembly p (.assembling [o]) ∧ s.laneOctet p false o keys = s)
        ∧ ∀ l, s.assemblies[p] = .assembling l →
          s.laneOctet p true o keys = (s.setAssembly p (.assembling [o])).raise (.msgError p .marker)
            ∧ (l.length = 2 → 48 < o.toNat →
              s.laneOctet p false o keys = (s.setAssembly p .empty).raise (.msgError p .length))
            ∧ (l.length < 2 ∨ (l.length = 2 ∧ o.toNat ≤ 48) →
              s.laneOctet p false o keys = s.setAssembly p (.assembling (l ++ [o])))
            ∧ ∀ kind tag len payload, l = kind :: tag :: len :: payload → len.toNat ≤ 48 →
              (payload.length < len.toNat →
                  s.laneOctet p false o keys = s.setAssembly p (.assembling (l ++ [o])))
                ∧ (payload.length = len.toNat →
                  s.laneOctet p false o keys =
                    if o = crc8 0xFF#8 l then (s.setAssembly p .empty).completeMessage p kind tag payload keys
                    else (s.setAssembly p .empty).raise (.msgError p .check)))

/-- The downstream frame of each port state with an empty queue: none, IDLE, PROBE, and SERVICE with the mix sample and
the lamps as they stand; the talk lamp and the call lamp of a slot as the talk lists, the DENIED periods and the call
records give them, a slot above the station's key count being inert; the octets that carry the lamps, bit by bit; and the
places of the octets of a downstream frame, the frame check over octets 1–6 last (R117, R134, R145, R156, R172). -/
def Obligations.DownstreamFrameByPortState : Prop :=
  (∀ (s : State) (p : Port), s.loader ≠ .loading →
      (s.ports[p].state = .disabled → exec (.downstreamFrame p) s = .next { s with line := put s.line p none })
        ∧ (s.ports[p].state = .down ∨ s.ports[p].state = .fault →
          exec (.downstreamFrame p) s = .next { s with line := put s.line p (some #v[0x74, 0, 0, 0, 0, 0, 0, 0]) })
        ∧ (s.queues[p] = [] →
          (s.ports[p].state = .probing →
              exec (.downstreamFrame p) s = .next
                { s with line := put s.line p (some #v[0x72, 0, 0, 0, 0, 0, 0, 0]) })
            ∧ (s.present p = true →
              exec (.downstreamFrame p) s = .next
                { s with
                  line := put s.line p
                    (some (downFrame 0x71 ((s.mixSample p).extractLsb' 8 8) ((s.mixSample p).extractLsb' 0 8)
                      (talkOctet (s.lampsNow p).talk) (lampOctet (s.lampsNow p).call (s.cueLamp p) false) 0 0))
                  shown := put s.shown p (s.lampsNow p) })))
    ∧ (∀ (s : State) (p : Port) (k : KeySlot),
      let slot := s.profiles[p].slots[k]
      let talking := ∃ c : Chan, ∃ e ∈ s.talk[c].talkers, e.port = p ∧ e.slot = k
      let waiting := ∃ c : Chan, ∃ e ∈ s.talk[c].waiters, e.port = p ∧ e.slot = k
      let lamp := (s.lampsNow p).talk[k]
      (s.inert p k = true ↔ ∃ i, s.ports[p].ident = some i ∧ i.keyCount < k.val + 1)
        ∧ (s.inert p k = true ∨ slot.channel = none ∨ slot.mode = .listen → lamp = .off)
        ∧ (s.inert p k = false → slot.channel ≠ none → slot.mode ≠ .listen →
          (talking → lamp = .talking) ∧ (¬talking → waiting → lamp = .waiting)
            ∧ (¬talking → ¬waiting → s.denied[p][k] ≠ none → lamp = .denied)
            ∧ (¬talking → ¬waiting → s.denied[p][k] = none → lamp = .off))
        ∧ ((s.lampsNow p).call[k] = true ↔ s.inert p k = false ∧ s.calls[p][k].flash ≠ none))
    ∧ (∀ (talk : Vector TalkLamp 4) (k : KeySlot),
      (talkOctet talk).extractLsb' (2 * k.val) 2 =
        match talk[k] with
        | .off => 0#2
        | .talking => 1#2
        | .waiting => 2#2
        | .denied => 3#2)
    ∧ (∀ (call : Vector Bool 4) (cue : CueLamp) (lane : Bool),
      (∀ k : KeySlot, (lampOctet call cue lane).getLsbD (4 + k.val) = call[k])
        ∧ (lampOctet call cue lane).extractLsb' 1 3 =
          (match cue with
          | .dark => 0#3
          | .standbySteady => 1#3
          | .standbyFlash => 2#3
          | .hold => 3#3
          | .warn => 4#3
          | .go => 5#3)
        ∧ (lampOctet call cue lane).getLsbD 0 = lane)
    ∧ ∀ start high low talk lamps marker octet : Octet,
      downFrame start high low talk lamps marker octet =
        #v[start, high, low, talk, lamps, marker, octet, crc8 0 [high, low, talk, lamps, marker, octet]]

/-- The message at the head of a queue goes out one octet per frame, its kind octet marked as a start, in a PROBE frame
or in a SERVICE frame that carries the mix sample and the lamps as with an empty queue; with its last octet it leaves
the queue and frees its entry, the last octet of an ask sets the ask deadline, the last octet of the reply that a
deferred action waits for takes the port to DISABLED or DOWN, and the last octet of the reply that a RESTART waits for
carries the RESTART out (R133, R156, R160, R168, R172, R181, R185, R192). The octets of a message are its kind, its tag,
the length of its payload, the payload and the check from 0xFF: a reply carries its status code, by the values of R180,
and then its data; notices and desk status carry tag 0, an ask its number (R173, R178, R179, R180; how the data of
replies, notices and desk status lie in the payload is log 4). The model's choices: an ask whose last octet goes out in UP
or QUIET sets no ask deadline (log 20), who takes the freed entry (log 27), and the order of the messages of a port that
leaves (log 11). -/
def Obligations.HeadOfQueueGoesOutOctetByOctet : Prop :=
  (∀ (s : State) (p : Port) (e : TxEntry) (rest : List TxEntry), s.loader ≠ .loading →
      (s.ports[p].state = .probing ∨ s.present p = true) → s.queues[p] = e :: rest →
      let marker : Octet := if e.sent = 0 then 0x80 else 0
      let octet : Octet := e.content.octets.getD e.sent 0
      let v : DownFrame :=
        if s.ports[p].state = .probing then downFrame 0x72 0 0 0 1 marker octet
        else
          downFrame 0x71 ((s.mixSample p).extractLsb' 8 8) ((s.mixSample p).extractLsb' 0 8)
            (talkOctet (s.lampsNow p).talk) (lampOctet (s.lampsNow p).call (s.cueLamp p) true) marker octet
      v[5] = marker ∧ v[6] = octet
        ∧ (let out : State :=
            { s with
              line := put s.line p (some v)
              shown := if s.present p = true then put s.shown p (s.lampsNow p) else s.shown }
          let left : State := { out with queues := put s.queues p rest }
          let asking := s.ports[p].state = .probing ∧ ∃ n, e.content = .identAsk n
          (e.sent + 1 < e.content.octets.length →
              exec (.downstreamFrame p) s = .next
                { out with queues := put s.queues p ({ e with sent := e.sent + 1 } :: rest) })
            ∧ (e.content.octets.length ≤ e.sent + 1 → e.waits = .nothing →
              (asking → exec (.downstreamFrame p) s = .next
                  { left with
                    ports := put s.ports p { s.ports[p] with askDeadline := some (s.clock + 8 * 50) } })
                ∧ (¬asking → exec (.downstreamFrame p) s = .next left))
            ∧ (e.content.octets.length ≤ e.sent + 1 → e.waits = .deferred → s.present p = true →
              (s.ports[p].deferred = none → exec (.downstreamFrame p) s = .next left)
                ∧ (s.restartBy ≠ some p →
                  (s.ports[p].deferred = some .disable →
                      ∃ t, exec (.downstreamFrame p) s = .next t ∧ HasLeft left t p .disabled
                        ∧ TablesKept left t ∧ (CueListSound s → HasDeparted left t p .disabled []))
                    ∧ (s.ports[p].deferred = some .restart →
                      ∃ t, exec (.downstreamFrame p) s = .next t ∧ HasLeft left t p .down
                        ∧ TablesKept left t
                        ∧ (CueListSound s → HasDeparted left t p .down [.portDown p .portRestart])
                        ∧ t.notices[(1 : NoticeKind)].detail = some (.portDown p .portRestart)))
                ∧ (s.restartBy = some p → s.ports[p].deferred ≠ none →
                  ∃ t, exec (.downstreamFrame p) s = .next t ∧ HasRestarted left t))
            ∧ (e.content.octets.length ≤ e.sent + 1 → e.waits = .restart →
              ∃ t, exec (.downstreamFrame p) s = .next t ∧ HasRestarted left t)))
    ∧ (let message : Octet → Octet → List Octet → List Octet := fun kind tag payload =>
        let body := kind :: tag :: BitVec.ofNat 8 payload.length :: payload
        body ++ [crc8 0xFF body]
      (∀ (kind tag : Octet) (st : Status),
          (TxContent.reply kind tag st .nothing).octets = message kind tag [st.code]
            ∧ (∀ x, (TxContent.reply kind tag st (.unknownKind x)).octets = message kind tag [st.code, x])
            ∧ ∀ d : ReplyData, d ≠ .nothing → (∀ x, d ≠ .unknownKind x) →
              (TxContent.reply kind tag st d).octets = message kind tag (st.code :: (Config.dataOctets d).take 47))
        ∧ (∀ n : NoticeBody, (TxContent.notice n).octets = message 0xC4 0 ((Config.noticeOctets n).take 48))
        ∧ (∀ (b : DeskBody) (gap : Bool),
          (TxContent.desk b gap).octets =
            message
              (match b with
              | .cue .. => 0xD4
              | .bank _ => 0xD5)
              0 ((Config.deskOctets b gap).take 48))
        ∧ ∀ n : Nat, (TxContent.identAsk n).octets = message 0xF0 (BitVec.ofNat 8 n) [])
    ∧ [Status.ok, .denied, .unknown, .badTable, .badIndex, .badValue, .badCue, .noTargets, .full, .already, .alreadyGoing,
        .notStoodBy, .notReady, .nothingReady, .held, .notHeld, .tooLate, .zoneBlocked, .swapPending, .notPending,
        .overrange, .exhausted, .busy, .lockout].map Status.code = (List.range 24).map (BitVec.ofNat 8)

/-- A complete IDENT reply in PROBING whose tag, class and key count pass is judged against the expected class: UP
with PORT_UP, the port awaited again in every STANDBY or HELD record in which it was absent, or FAULT with PORT_FAULT;
any other changes nothing. At the entry to UP an ask not begun leaves the queue and one being sent stays, the desks are
told of each such record, and the notices that wait for the port are offered its free entries before PORT_UP is raised.
A complete message of kind 0xF1 with a payload of six octets is the IDENT reply of a port in PROBING, and any other
message there changes nothing, nor does an IDENT reply in UP, QUIET or FAULT (R161, R176; that the payload has six octets
exactly is log 38). An ask deadline that the show clock has reached queues the next ask, or after the third takes
the port to FAULT with IDENT_TIMEOUT; one that is not due does not expire (R26, R159, R161, R162, R190; the guard is log
2, the order at the entry to UP is log 13, and that FAULT keeps the count of asks is log 33). -/
def Obligations.IdentRepliesAndDeadlines : Prop :=
  (∀ (s : State) (p : Port) (tag cls count : Octet) (serial : BitVec 32) (keys : Keys),
      (∀ c, s.ports[p].state = .probing → 1 ≤ tag.toNat → tag.toNat ≤ s.ports[p].asksSent → classOf cls = some c →
        1 ≤ count.toNat → count.toNat ≤ 4 →
        ((s.profiles[p].expected = .any ∨ s.profiles[p].expected = .only c) → CueListSound s →
            let back : ActiveCue → Prop := fun r => (r.state = .standby ∨ r.state = .held) ∧ r.absent.mem p = true
            let again : ActiveCue → ActiveCue := fun r =>
              { r with absent := r.absent.erase p, awaited := r.awaited.insert p }
            let u : State :=
              { s with
                ports := put s.ports p
                  { s.ports[p] with
                    state := .up, ident := some { cls := c, keyCount := count.toNat, serial := serial }
                    asksSent := 0, askDeadline := none, keyRef := some keys }
                assemblies := put s.assemblies p .empty
                queues := put s.queues p (s.queues[p].filter fun e =>
                  match e.content with
                  | .identAsk _ => e.sent != 0
                  | _ => true)
                active := s.active.map fun r => if back r then again r else r }
            exec (.identReply p tag cls count serial keys) s = .next
              (((u.toldAll ((s.active.filter fun r => back r).map again)).offer p).raise (.portUp p c count.toNat)))
          ∧ ((s.profiles[p].expected = .any ∨ s.profiles[p].expected = .only c) →
            ∃ t, exec (.identReply p tag cls count serial keys) s = .next t
              ∧ t.ports[p] =
                { s.ports[p] with
                  state := .up, ident := some { cls := c, keyCount := count.toNat, serial := serial }
                  asksSent := 0, askDeadline := none, keyRef := some keys }
              ∧ t.notices[(0 : NoticeKind)].detail = some (.portUp p c count.toNat)
              ∧ (∀ q : Port, q ≠ p → t.ports[q] = s.ports[q])
              ∧ (CueListSound s → t.active = s.active.map fun r =>
                if (r.state = .standby ∨ r.state = .held) ∧ r.absent.mem p = true then
                  { r with absent := r.absent.erase p, awaited := r.awaited.insert p }
                else r)
              ∧ t.active.map ActiveCue.slot = s.active.map ActiveCue.slot ∧ t.talk = s.talk ∧ t.calls = s.calls
              ∧ t.samples = s.samples ∧ t.profiles = s.profiles ∧ TablesKept s t)
          ∧ (∀ x, s.profiles[p].expected = .only x → x ≠ c →
            ∃ t, exec (.identReply p tag cls count serial keys) s = .next t
              ∧ MessagesAside t
                { s with
                  ports := put s.ports p
                    { s.ports[p] with
                      state := .fault, ident := some { cls := c, keyCount := count.toNat, serial := serial }
                      askDeadline := none }
                  assemblies := put s.assemblies p .empty }
              ∧ t.queues[p] = []
              ∧ t.notices[(2 : NoticeKind)].detail = some (.portFault p (.classMismatch c (.only x)))))
        ∧ ((s.ports[p].state ≠ .probing ∨ tag.toNat = 0 ∨ s.ports[p].asksSent < tag.toNat ∨ classOf cls = none
            ∨ count.toNat = 0 ∨ 4 < count.toNat) →
          exec (.identReply p tag cls count serial keys) s = .next s))
    ∧ (∀ (s : State) (p : Port) (d : Time), s.ports[p].state = .probing → s.ports[p].askDeadline = some d →
        (d ≤ s.clock → s.ports[p].asksSent < 3 → s.queues[p].length < 8 →
            exec (.askDeadlineExpiry p) s = .next
              ({ s with
                  ports := put s.ports p
                    { s.ports[p] with askDeadline := none, asksSent := s.ports[p].asksSent + 1 } }.replied p
                { content := .identAsk (s.ports[p].asksSent + 1), sent := 0, waits := .nothing }))
          ∧ (d ≤ s.clock → 3 ≤ s.ports[p].asksSent →
            ∃ t, exec (.askDeadlineExpiry p) s = .next t
              ∧ MessagesAside t
                { s with
                  ports := put s.ports p { s.ports[p] with state := .fault, ident := none, askDeadline := none }
                  assemblies := put s.assemblies p .empty }
              ∧ t.queues[p] = [] ∧ t.notices[(2 : NoticeKind)].detail = some (.portFault p .identTimeout))
          ∧ (s.clock < d → exec (.askDeadlineExpiry p) s = .next s))
    ∧ (∀ (s : State) (p : Port) (kind tag : Octet) (payload : List Octet) (keys : Keys),
        (s.ports[p].state = .probing →
            (∀ cls count a b c d, kind = 0xF1 → payload = [cls, count, a, b, c, d] →
                .next (s.completeMessage p kind tag payload keys) =
                  exec (.identReply p tag cls count (a ++ b ++ c ++ d) keys) s)
              ∧ (kind ≠ 0xF1 ∨ payload.length ≠ 6 → s.completeMessage p kind tag payload keys = s))
          ∧ (s.ports[p].state = .up ∨ s.ports[p].state = .quiet ∨ s.ports[p].state = .fault →
            s.completeMessage p 0xF1 tag payload keys = s))

/-! ## Motion counters -/

/-- The step that a change of A and B yields in each mode (R77). That PULSE_DIRECTION reads the new level of B is log 22,
and that a double rise in UP_DOWN yields the free outcome `both` is log 21. -/
def Obligations.StepsByCountingMode : Prop :=
  ∀ (ra rb rz a b : Bool) (both : Option Bool),
    (stepOf .quadrature ⟨ra, rb, rz⟩ a b both =
        if a = ra ∧ b = rb then none
        else if a ≠ ra ∧ b ≠ rb then none
        else if a ≠ ra then some (a != b) else some (a == b))
      ∧ (stepOf .pulseDirection ⟨ra, rb, rz⟩ a b both = if ra = false ∧ a = true then some (!b) else none)
      ∧ (stepOf .countUp ⟨ra, rb, rz⟩ a b both = if ra = false ∧ a = true then some true else none)
      ∧ (stepOf .upDown ⟨ra, rb, rz⟩ a b both =
        if ra = false ∧ a = true then (if rb = false ∧ b = true then both else some true)
        else if rb = false ∧ b = true then some false else none)

/-- A step of a COUNTING counter changes the value by one, renews the reference, evaluates afresh the valid zones that
name the counter with a ZONE_CHANGE for each change of occupancy, and is then tested against the current position entry
when the comparison is RUNNING; a step beyond the range leaves the value at the bound, puts the counter in OVERRANGE,
suspends a RUNNING comparison, raises COUNTER_OVERRANGE and occupies every valid zone of the counter, with their
ZONE_CHANGEs; in OVERRANGE steps move nothing but the reference (R77, R78, R79, R87, R92; the counter value that
ZONE_CHANGE carries is log 23). What A and B rising together yield in UP_DOWN is a free value (log 21): where it is a step,
this is what the step does. -/
def Obligations.StepMovesTheValueWithinTheRange : Prop :=
  ∀ (s : State) (c : CounterId) (a b up : Bool), s.loader ≠ .loading →
    stepOf (s.counter c).mode (s.counter c).ref a b (Config.bothRise s.fresh) = some up →
    let becomes : Counter → State := fun x =>
      { s with
        fresh := s.freshAfter c a b
        pins := put s.pins (State.counterIdx c) { s.pin c with a := a, b := b }
        counters := put s.counters (State.counterIdx c) x }
    let seen : Counter := { s.counter c with ref := { (s.counter c).ref with a := a, b := b } }
    ((s.counter c).state = .counting → inRange (stepValue (s.counter c).value up) = true →
        let moved := becomes { seen with value := stepValue (s.counter c).value up }
        ∃ o, (∀ z : ZoneNo, o[z] =
              if s.liveTables.zones[z].valid ∧ s.liveTables.zones[z].counter = c then
                decide (s.liveTables.zones[z].lower ≤ stepValue (s.counter c).value up
                  ∧ stepValue (s.counter c).value up ≤ s.liveTables.zones[z].upper)
              else s.occupied[z])
          ∧ ((s.counter c).comparison ≠ .running →
            exec (.step c a b) s = .next (State.raised { moved with occupied := o } (moved.zoneChanges o)))
          ∧ ((s.counter c).comparison = .running →
            exec (.step c a b) s = .next
              ((State.raised { moved with occupied := o } (moved.zoneChanges o)).testPosition c up)))
      ∧ ((s.counter c).state = .counting → (s.counter c).value = (if up then 999999 else -999999) →
        let moved := becomes
          { seen with
            state := .overrange
            comparison := if (s.counter c).comparison = .running then .suspended else (s.counter c).comparison }
        ∃ o, (∀ z : ZoneNo, o[z] =
              if s.liveTables.zones[z].valid ∧ s.liveTables.zones[z].counter = c then true else s.occupied[z])
          ∧ exec (.step c a b) s = .next
            ((State.raise { moved with occupied := o } (.counterOverrange c (if up then 999999 else -999999))).raised
              (moved.zoneChanges o)))
      ∧ ((s.counter c).state = .overrange → exec (.step c a b) s = .next (becomes seen))

/-- A step applied while the comparison runs and that matches the current entry sends the entry's request, advances the
index by one whatever the answer, and exhausts the list when the index reaches the length (R87, R88). -/
def Obligations.MatchingStepAdvancesTheComparison : Prop :=
  ∀ (s : State) (c : CounterId) (up : Bool) (e : PositionEntry), (s.counter c).comparison = .running →
    (s.positionList c)[(s.counter c).index]? = some e → e.valid = true →
    (e.target = (s.counter c).value ∧ (e.direction = .either ∨ (e.direction = .up ∧ up = true)
        ∨ (e.direction = .down ∧ up = false)) →
      ((s.testPosition c up).counter c =
          { s.counter c with
            index := (s.counter c).index + 1
            comparison := if (s.counter c).index + 1 = s.listLength c then .exhausted else .running })
        ∧ ((s.counter c).index + 1 = s.listLength c →
          (s.testPosition c up).notices[(8 : NoticeKind)].detail = some (.positionExhausted c (s.listLength c)))
        ∧ (e.action = .standby → s.standbyRefusal e.slot = none →
          ∃ r ∈ (s.testPosition c up).active, r.slot = e.slot ∧ r.origin = .position c)
        ∧ (∀ st, e.action = .standby → s.standbyRefusal e.slot = some st →
          (s.testPosition c up).active = s.active
            ∧ (s.testPosition c up).notices[(7 : NoticeKind)].detail = some (.cueRefused e.slot st (.position c)))
        ∧ (∀ r, e.action = .go → s.goTarget e.slot = .ok r →
          ∃ x ∈ (s.testPosition c up).active, x.slot = e.slot ∧ x.state = .going ∧ x.origin = r.origin)
        ∧ (∀ st, e.action = .go → s.goTarget e.slot = .error st →
          (s.testPosition c up).active = s.active
            ∧ (s.testPosition c up).notices[(7 : NoticeKind)].detail = some (.cueRefused e.slot st (.position c))))
      ∧ (e.target ≠ (s.counter c).value ∨ (e.direction = .up ∧ up = false) ∨ (e.direction = .down ∧ up = true) →
        s.testPosition c up = s)

/-- An index pulse with the arm set loads the preset as a jump, clears the arm, leaves OVERRANGE, raises COUNTER_RESET
and evaluates the zones, and with the arm clear changes nothing but the reference of Z; a change of level that yields no
step, and a fall of Z, renew the reference alone (R77, R80, R81, R82, R83). The model's choices: while the Start-up
Loader runs the pins follow their signals, and the reference stays and no step or index pulse is taken (logs 7 and 36); an
INDEX_PULSE with Z already high is no pulse (log 2); a STEP or INDEX_PULSE is the change of level that it brings (log 3);
A and B rising together in UP_DOWN may yield no step, a free value (log 21); and levels that stand on the pins before the
counter takes the change move the pins alone (log 43). -/
def Obligations.IndexPulsesAndLevelChanges : Prop :=
  (∀ (s : State) (c : CounterId), s.loader ≠ .loading → (s.counter c).ref.z = false →
      ((s.counter c).arm = true →
          let moved : State :=
            { s with
              pins := put s.pins (State.counterIdx c) { s.pin c with z := true }
              counters := put s.counters (State.counterIdx c)
                { s.counter c with
                  value := (s.counter c).preset, state := .counting, arm := false
                  ref := { (s.counter c).ref with z := true } } }
          ∃ o, (∀ z : ZoneNo, o[z] =
                if s.liveTables.zones[z].valid ∧ s.liveTables.zones[z].counter = c then
                  decide (s.liveTables.zones[z].lower ≤ (s.counter c).preset
                    ∧ (s.counter c).preset ≤ s.liveTables.zones[z].upper)
                else s.occupied[z])
            ∧ exec (.indexPulse c) s = .next
              ((State.raise { moved with occupied := o }
                (.counterReset c (s.counter c).value (s.counter c).preset)).raised (moved.zoneChanges o)))
        ∧ ((s.counter c).arm = false →
          exec (.indexPulse c) s = .next
            { s with
              pins := put s.pins (State.counterIdx c) { s.pin c with z := true }
              counters := put s.counters (State.counterIdx c)
                { s.counter c with ref := { (s.counter c).ref with z := true } } }))
    ∧ (∀ (s : State) (c : CounterId), s.loader = .loading ∨ (s.counter c).ref.z = true →
        exec (.indexPulse c) s = .next { s with pins := put s.pins (State.counterIdx c) { s.pin c with z := true } })
    ∧ (∀ (s : State) (c : CounterId) (a b : Bool),
        (s.loader ≠ .loading → stepOf (s.counter c).mode (s.counter c).ref a b (Config.bothRise s.fresh) = none →
            exec (.changeOfLevel c (.ab a b)) s = .next
              { s with
                fresh := s.freshAfter c a b
                pins := put s.pins (State.counterIdx c) { s.pin c with a := a, b := b }
                counters := put s.counters (State.counterIdx c)
                  { s.counter c with ref := { (s.counter c).ref with a := a, b := b } } })
          ∧ (s.loader ≠ .loading →
            exec (.changeOfLevel c (.z false)) s = .next
              { s with
                pins := put s.pins (State.counterIdx c) { s.pin c with z := false }
                counters := put s.counters (State.counterIdx c)
                  { s.counter c with ref := { (s.counter c).ref with z := false } } })
          ∧ (s.loader = .loading →
            exec (.changeOfLevel c (.ab a b)) s = .next
                { s with pins := put s.pins (State.counterIdx c) { s.pin c with a := a, b := b } }
              ∧ exec (.changeOfLevel c (.z false)) s = .next
                { s with pins := put s.pins (State.counterIdx c) { s.pin c with z := false } })
          ∧ exec (.step c a b) s = exec (.changeOfLevel c (.ab a b)) s
          ∧ exec (.indexPulse c) s = exec (.changeOfLevel c (.z true)) s
          ∧ ∀ z, exec (.changeOfLevel c (.pins a b z)) s = .next
              { s with pins := put s.pins (State.counterIdx c) { a := a, b := b, z := z } })

/-- SET jumps and evaluates the zones, PRESET sets the preset, ARM_INDEX and DISARM_INDEX set and clear the arm; a value
out of range is refused BAD_VALUE and changes nothing; each reply carries the counter as it stands after the request;
and a counter other than M1 and M2 is refused BAD_INDEX by each of the eight commands (R92, R94, R95). That this refusal
carries the status alone is log 17, and that it comes before a MODE's mode field is log 39. -/
def Obligations.SetPresetAndArm : Prop :=
  (∀ (s : State) (p : Port) (tag : Octet) (c : CounterId) (v : Int), MaySend s p .write →
      let data : Counter → ReplyData := fun r => .counter r.value r.state r.comparison r.index
      let changed : Counter → State := fun r => { s with counters := put s.counters (State.counterIdx c) r }
      (inRange v = true →
          (let moved := changed { s.counter c with value := v, state := .counting }
            ∃ o, (∀ z : ZoneNo, o[z] =
                  if s.liveTables.zones[z].valid ∧ s.liveTables.zones[z].counter = c then
                    decide (s.liveTables.zones[z].lower ≤ v ∧ v ≤ s.liveTables.zones[z].upper)
                  else s.occupied[z])
              ∧ exec (.set p tag (some c) v) s = .next
                ((State.replied { moved with occupied := o } p
                  (replyOf 0xC0 tag .ok (data { s.counter c with value := v, state := .counting }))).raised
                  (moved.zoneChanges o)))
            ∧ exec (.preset p tag (some c) v) s = .next
              ((changed { s.counter c with preset := v }).replied p (replyOf 0xC0 tag .ok (data (s.counter c)))))
        ∧ (inRange v = false →
          exec (.set p tag (some c) v) s = .next (s.replied p (replyOf 0xC0 tag .badValue (data (s.counter c))))
            ∧ exec (.preset p tag (some c) v) s = .next
              (s.replied p (replyOf 0xC0 tag .badValue (data (s.counter c)))))
        ∧ exec (.armIndex p tag (some c)) s = .next
            ((changed { s.counter c with arm := true }).replied p (replyOf 0xC0 tag .ok (data (s.counter c))))
        ∧ exec (.disarmIndex p tag (some c)) s = .next
            ((changed { s.counter c with arm := false }).replied p (replyOf 0xC0 tag .ok (data (s.counter c)))))
    ∧ (∀ (s : State) (p : Port) (tag : Octet) (v : Int) (i : Nat) (m : Named CountMode) (cmd : Instr),
        MaySend s p .write →
        cmd ∈ [.set p tag none v, .preset p tag none v, .armIndex p tag none, .disarmIndex p tag none, .start p tag none,
          .stop p tag none, .seek p tag none i, .mode p tag none m] →
        exec cmd s = .next (s.replied p (replyOf 0xC0 tag .badIndex .nothing)))

/-- START, STOP and SEEK move the comparison and its index as R96 lays down, and touch nothing else. -/
def Obligations.StartStopAndSeek : Prop :=
  ∀ (s : State) (p : Port) (tag : Octet) (c : CounterId) (i : Nat), MaySend s p .write →
    let r := s.counter c
    let answers : Instr → Status → Counter → Prop := fun cmd st x =>
      exec cmd s = .next
        ({ s with counters := put s.counters (State.counterIdx c) x }.replied p
          (replyOf 0xC0 tag st (.counter x.value x.state x.comparison x.index)))
    (r.state = .overrange → answers (.start p tag (some c)) .overrange r)
      ∧ (r.state = .counting → r.index = s.listLength c → answers (.start p tag (some c)) .exhausted r)
      ∧ (r.state = .counting → r.index < s.listLength c →
        answers (.start p tag (some c)) .ok { r with comparison := .running })
      ∧ answers (.stop p tag (some c)) .ok { r with comparison := .stopped }
      ∧ (r.comparison = .running → answers (.seek p tag (some c) i) .busy r)
      ∧ (r.comparison ≠ .running → s.listLength c < i → answers (.seek p tag (some c) i) .badValue r)
      ∧ (r.comparison ≠ .running → i ≤ s.listLength c →
        answers (.seek p tag (some c) i) .ok
          { r with index := i, comparison := if r.comparison = .exhausted then .stopped else r.comparison })

/-- MODE is refused BAD_VALUE outside the four modes and BUSY while the comparison is not STOPPED; otherwise it sets the
mode and takes the present levels as the reference, and keeps everything else, zones included (R97). A change of A and
B to the levels of the reference that a MODE has taken yields no step in any mode (R98, the order that takes MODE
first). -/
def Obligations.ModeRenewsTheReference : Prop :=
  (∀ (s : State) (p : Port) (tag : Octet) (c : CounterId) (m : CountMode), MaySend s p .write →
      let r := s.counter c
      let answers : Named CountMode → Status → Counter → Prop := fun mode st x =>
        exec (.mode p tag (some c) mode) s = .next
          ({ s with counters := put s.counters (State.counterIdx c) x }.replied p
            (replyOf 0xC0 tag st (.counter x.value x.state x.comparison x.index)))
      answers none .badValue r
        ∧ (r.comparison ≠ .stopped → answers (some m) .busy r)
        ∧ (r.comparison = .stopped → answers (some m) .ok { r with mode := m, ref := s.pin c }))
    ∧ ∀ (s : State) (c : CounterId), s.loader ≠ .loading → (s.counter c).ref = s.pin c →
        exec (.step c (s.pin c).a (s.pin c).b) s = .next s

/-! ## Cue Engine -/

/-- STANDBY and GO are tested in the order of R17 and of R39; the first test that fails gives the status code and
nothing else changes. -/
def Obligations.StandbyAndGoTestsInOrder : Prop :=
  (∀ (s : State) (p : Port) (tag : Octet) (slot : CueSlot), MaySend s p .cue →
      let valid := (s.liveTables.cues[slot]).valid = true
      let refused : Status → Prop := fun st =>
        exec (.standby p tag slot) s = .next (s.replied p (replyOf 0x90 tag st .nothing))
      let absent := ∀ r ∈ s.active, r.slot ≠ slot
      (¬valid → refused .badCue)
        ∧ (valid → s.swapPending = true → refused .swapPending)
        ∧ (valid → s.swapPending = false → ¬absent → refused .already)
        ∧ (valid → s.swapPending = false → absent → 8 ≤ s.active.length → refused .full)
        ∧ (valid → s.swapPending = false → absent → s.active.length < 8 →
          (∀ q : Port, (s.resolve (s.liveTables.cues[slot])).mem q = false) → refused .noTargets))
    ∧ (∀ (s : State) (p : Port) (tag : Octet) (slot : CueSlot), MaySend s p .cue →
        let refused : Status → Prop := fun st =>
          exec (.go p tag slot) s = .next (s.replied p (replyOf 0x91 tag st .nothing))
        ((∀ r ∈ s.active, r.slot ≠ slot) → refused .notStoodBy)
          ∧ ∀ r, s.findCue slot = some r →
            (r.state = .going → refused .alreadyGoing)
              ∧ (r.state = .held → refused .held)
              ∧ (r.state = .standby → (s.liveTables.cues[slot]).goPolicy = .readyOnly → refused .notReady)
              ∧ ((r.state = .ready ∨ (r.state = .standby ∧ (s.liveTables.cues[slot]).goPolicy = .anyState)) →
                ∀ z, (s.liveTables.cues[slot]).interlock = some z → s.liveTables.zones[z].valid = true →
                  s.occupied[z] = true → refused .zoneBlocked))

/-- A STANDBY that passes all five tests appends one record as R18 lays down, answered OK with the slot and the
resulting state; the reply joins the sender's queue, then every desk is told once, then TARGET_ABSENT is raised when
ports are absent, and nothing else changes. Target resolution is the union of the valid groups of the live Group Table
that the cue names (R10, R14, R18, R21, R28, R36, R70, R72, R73; the data of the reply is log 17). -/
def Obligations.StandbyAppendsTheRecord : Prop :=
  (∀ (s : State) (p : Port) (tag : Octet) (slot : CueSlot), MaySend s p .cue → s.standbyRefusal slot = none →
      let r := s.stoodBy slot (.desk p) none
      let u := (State.replied { s with active := s.active ++ [r] } p (replyOf 0x90 tag .ok (.cue slot r.state))).told r
        (.inList r.state)
      exec (.standby p tag slot) s = .next
        (if r.absent.isEmpty = true then u else u.raise (.targetAbsent slot r.absent.count)))
    ∧ (∀ (s : State) (r : CueRecord) (q : Port),
        ((s.resolve r).mem q = true) ↔
          ∃ g ∈ r.groups, s.liveTables.groups[g].valid = true ∧ s.liveTables.groups[g].ports.mem q = true)

/-- A GO that passes the tests takes the record to GOING and removes its deadlines; with no successor the reply, OK with
the slot and GOING, joins the sender's queue, every desk is told once of the record in GOING, and nothing else changes
(R36, R40, R41, R42, R70, R72). -/
def Obligations.GoTakesTheRecordToGoing : Prop :=
  ∀ (s : State) (p : Port) (tag : Octet) (slot : CueSlot) (r : ActiveCue), MaySend s p .cue →
    s.goTarget slot = .ok r → (s.liveTables.cues[slot]).successor = none →
    let gone : ActiveCue :=
      { r with
        state := .going, prior := none, unready := r.unready || r.state == .standby, ackDeadline := none
        followDeadline := none, remaining := none
        goDisplay := some (s.clock + 8 * (s.liveTables.cues[slot]).goDisplay) }
    exec (.go p tag slot) s = .next
      ((State.replied { s with active := s.active.map fun x => if x.slot = slot then gone else x } p
        (replyOf 0x91 tag .ok (.cue slot .going))).told gone (.inList .going))

/-- After the entry to GOING has been handed on, the successor link is applied: STANDBY_NEXT stands the successor by;
AUTOFOLLOW with a delay also gives it a follow deadline within its append, or gives a standing record one and a held record
its remaining time; AUTOFOLLOW with delay 0 sends the successor's GO at once, after its STANDBY when it does not stand, and
a record stood by and sent in one event is told once, in GOING; a refused STANDBY or GO raises CUE_REFUSED, and so does an
AUTOFOLLOW to a GOING record. The reply joins the sender's queue, the desks are told of the record in GOING, then of the
successor's change, then a notice is raised, and nothing else changes (R36, R40, R42, R45, R49–R53, R70, R72). That the
desks are told along the chain, also of a record that stands earlier in the list, is the model's choice between R42 and
R72 (log 45). -/
def Obligations.SuccessorLinkIsApplied : Prop :=
  ∀ (s : State) (p : Port) (tag : Octet) (slot next : CueSlot) (r : ActiveCue),
    MaySend s p .cue → CueListSound s → s.goTarget slot = .ok r →
    let link := (s.liveTables.cues[slot]).successor
    let yields : State → Prop := fun t => exec (.go p tag slot) s = .next t
    let sent : ActiveCue → ActiveCue := fun x =>
      { x with
        state := .going, prior := none, unready := x.unready || x.state == .standby, ackDeadline := none
        followDeadline := none, remaining := none
        goDisplay := some (s.clock + 8 * (s.liveTables.cues[x.slot]).goDisplay) }
    let gone := s.active.map fun x => if x.slot = slot then sent r else x
    let becomes : ActiveCue → List ActiveCue := fun x => gone.map fun y => if y.slot = next then x else y
    let told : List ActiveCue → State := fun l =>
      (State.replied { s with active := l } p (replyOf 0x91 tag .ok (.cue slot .going))).told (sent r) (.inList .going)
    let refused : Status → NoticeDetail := fun st => .cueRefused next st (.follow (some slot))
    let warned : State → ActiveCue → State := fun u x =>
      if x.absent.isEmpty = true then u else u.raise (.targetAbsent x.slot x.absent.count)
    let stood : ActiveCue → State := fun c => warned ((told (gone ++ [c])).told c (.inList c.state)) c
    (link = some (.standbyNext next) →
        (s.standbyRefusal next = none → yields (stood (s.stoodBy next (.follow slot) none)))
          ∧ ∀ st, s.standbyRefusal next = some st → yields ((told gone).raise (refused st)))
      ∧ ∀ delay, link = some (.autofollow next delay) →
        (next = slot → yields ((told gone).raise (refused .alreadyGoing)))
          ∧ (∀ st, s.findCue next = none → s.standbyRefusal next = some st → yields ((told gone).raise (refused st)))
          ∧ (0 < delay →
            (s.standbyRefusal next = none →
                yields (stood (s.stoodBy next (.follow slot) (some (s.clock + 8 * delay)))))
              ∧ ∀ y, next ≠ slot → s.findCue next = some y →
                (y.state = .standby ∨ y.state = .ready →
                    yields (told (becomes { y with followDeadline := some (s.clock + 8 * delay) })))
                  ∧ (y.state = .held → yields (told (becomes { y with remaining := some (8 * delay) })))
                  ∧ (y.state = .going → yields ((told gone).raise (refused .alreadyGoing))))
          ∧ (delay = 0 →
            (s.standbyRefusal next = none →
                let c := s.stoodBy next (.follow slot) none
                let early := c.state = .standby ∧ (s.liveTables.cues[next]).goPolicy = .readyOnly
                (early → yields ((stood c).raise (refused .notReady)))
                  ∧ (¬early → s.blocked next = true → yields ((stood c).raise (refused .zoneBlocked)))
                  ∧ (¬early → s.blocked next = false →
                    ((s.liveTables.cues[next]).successor = none →
                        yields (warned ((told (gone ++ [sent c])).told (sent c) (.inList .going)) c))
                      ∧ ∃ t, yields t ∧ sent c ∈ t.active))
              ∧ (∀ st y, next ≠ slot → s.findCue next = some y → s.goTarget next = .error st →
                yields ((told gone).raise (refused st)))
              ∧ ∀ y, next ≠ slot → s.goTarget next = .ok y →
                ((s.liveTables.cues[next]).successor = none →
                    yields ((told (becomes (sent y))).told (sent y) (.inList .going)))
                  ∧ ∃ t, yields t ∧ sent y ∈ t.active)

/-- GO_NEXT is taken as GO of the oldest READY record, refused NOTHING_READY when there is none and ZONE_BLOCKED when
that record's interlock zone is occupied; the reply carries the slot it named (R43). -/
def Obligations.GoNextSendsTheOldestReady : Prop :=
  ∀ (s : State) (p : Port) (tag : Octet), MaySend s p .cue → CueListSound s →
    ((∀ r ∈ s.active, r.state ≠ .ready) →
        exec (.goNext p tag) s = .next (s.replied p (replyOf 0x92 tag .nothingReady .nothing)))
      ∧ ∀ before r after, s.active = before ++ r :: after → (∀ x ∈ before, x.state ≠ .ready) → r.state = .ready →
        (s.blocked r.slot = true →
            exec (.goNext p tag) s = .next (s.replied p (replyOf 0x92 tag .zoneBlocked (.slot r.slot))))
          ∧ (s.blocked r.slot = false →
            ∃ t u, exec (.goNext p tag) s = .next t ∧ exec (.go p tag r.slot) s = .next u ∧ MessagesAside t u
              ∧ replyOf 0x92 tag .ok (.cue r.slot .going) ∈ t.queues[p]
              ∧ ∃ x ∈ t.active, x.slot = r.slot ∧ x.state = .going)

/-- HOLD and RELEASE of a slot: their tests in order, the held record with its follow deadline frozen, and the released
record restored and tested for READY; the reply joins the sender's queue and every desk is told once of the record as it
then stands (R30, R32, R33, R36, R70; the least remaining time is log 19, the data of the replies log 17). -/
def Obligations.HoldAndReleaseOneRecord : Prop :=
  ∀ (s : State) (p : Port) (tag : Octet) (slot : CueSlot), MaySend s p .cue →
    let refused : Instr → Octet → Status → Prop := fun cmd kind st =>
      exec cmd s = .next (s.replied p (replyOf kind tag st .nothing))
    let becomes : Instr → Octet → ActiveCue → ReplyData → Prop := fun cmd kind x d =>
      exec cmd s = .next
        ((State.replied { s with active := s.active.map fun y => if y.slot = slot then x else y } p
          (replyOf kind tag .ok d)).told x (.inList x.state))
    ((∀ r ∈ s.active, r.slot ≠ slot) →
        refused (.hold p tag slot) 0x93 .notStoodBy ∧ refused (.release p tag slot) 0x94 .notStoodBy)
      ∧ ∀ r, s.findCue slot = some r →
        (r.state = .held → refused (.hold p tag slot) 0x93 .already)
          ∧ (r.state = .going → refused (.hold p tag slot) 0x93 .tooLate)
          ∧ (r.state ≠ .held → refused (.release p tag slot) 0x94 .notHeld)
          ∧ (r.state = .standby ∨ r.state = .ready →
            becomes (.hold p tag slot) 0x93
              { r with
                state := .held, prior := some r.state, followDeadline := none
                remaining := r.followDeadline.map fun d => max 1 (d - s.clock) }
              (.slot slot))
          ∧ ∀ before, r.state = .held → r.prior = some before →
            let back : ActiveCue :=
              { r with
                state := before, prior := none, followDeadline := r.remaining.map fun d => s.clock + d
                remaining := none }
            let st := if before = .standby ∧ s.policyMet back = true then CueState.ready else before
            becomes (.release p tag slot) 0x94 { back with state := st } (.cue slot st)

/-- HOLD(ALL), RELEASE(ALL) and CANCEL(ALL) take the records they may take and leave the others, with the replies of R31,
R34 and R58, and the desks are told once of each record taken, in list order (R36, R48, R70; bare replies: log 17). -/
def Obligations.AllFormsTakeEveryRecordTheyMay : Prop :=
  ∀ (s : State) (p : Port) (tag : Octet), MaySend s p .cue → CueListSound s →
    let refused : Instr → Octet → Status → Prop := fun cmd kind st =>
      exec cmd s = .next (s.replied p (replyOf kind tag st .nothing))
    let becomes : Octet → List ActiveCue → State := fun kind l =>
      State.replied { s with active := l } p (replyOf kind tag .ok .nothing)
    (s.active = [] → refused (.holdAll p tag) 0x93 .notStoodBy ∧ refused (.releaseAll p tag) 0x94 .notStoodBy
        ∧ refused (.cancelAll p tag) 0x95 .notStoodBy)
      ∧ (s.active ≠ [] → (∀ r ∈ s.active, r.state = .going) →
        refused (.holdAll p tag) 0x93 .tooLate ∧ refused (.cancelAll p tag) 0x95 .tooLate)
      ∧ ((∀ r ∈ s.active, r.state = .going ∨ r.state = .held) → (∃ r ∈ s.active, r.state = .held) →
        refused (.holdAll p tag) 0x93 .already)
      ∧ (s.active ≠ [] → (∀ r ∈ s.active, r.state ≠ .held) → refused (.releaseAll p tag) 0x94 .notHeld)
      ∧ ((∃ r ∈ s.active, r.state = .standby ∨ r.state = .ready) →
        exec (.holdAll p tag) s = .next
          ((becomes 0x93
            (s.active.map fun r => if r.state = .standby ∨ r.state = .ready then s.heldCue r else r)).toldAll
            ((s.active.filter fun r => r.state = .standby ∨ r.state = .ready).map s.heldCue)))
      ∧ ((∃ r ∈ s.active, r.state = .held) →
        exec (.releaseAll p tag) s = .next
          ((becomes 0x94 (s.active.map fun r => if r.state = .held then s.releasedCue r else r)).toldAll
            ((s.active.filter fun r => r.state = .held).map s.releasedCue)))
      ∧ ((∃ r ∈ s.active, r.state ≠ .going) →
        (s.swapPending = false ∨ ∃ r ∈ s.active, r.state = .going) →
        exec (.cancelAll p tag) s = .next
          ((becomes 0x95 (s.active.filter fun r => r.state = .going)).toldCancelled
            (s.active.filter fun r => r.state ≠ .going)))

/-- CANCEL and the go-display expiry remove the record; the others close up in order, and every desk is told once of the
record with its final state CANCELLED or DONE. When the list stays nonempty or no swap is pending nothing else changes
(R36, R47, R48, R57, R70; the data of the reply is log 17). CANCEL of a slot that no record names is NOT_STOOD_BY, and of
a GOING record TOO_LATE (R57). A go-display expiry that is not yet due, or of a slot without a record, changes nothing
(log 2). -/
def Obligations.RemovalClosesUpTheList : Prop :=
  (∀ (s : State) (p : Port) (tag : Octet) (slot : CueSlot), (∀ r ∈ s.active, r.slot ≠ slot) →
      (MaySend s p .cue →
          exec (.cancel p tag slot) s = .next (s.replied p (replyOf 0x95 tag .notStoodBy .nothing)))
        ∧ exec (.goDisplayExpiry slot) s = .next s)
    ∧ ∀ (s : State) (p : Port) (tag : Octet) (slot : CueSlot) (r : ActiveCue), CueListSound s →
      s.findCue slot = some r →
      let closed : State := { s with active := s.active.filter fun x => x.slot ≠ slot }
      (r.state = .going → MaySend s p .cue →
          exec (.cancel p tag slot) s = .next (s.replied p (replyOf 0x95 tag .tooLate .nothing)))
        ∧ ((s.swapPending = false ∨ ∃ x ∈ s.active, x.slot ≠ slot) →
          (r.state ≠ .going → MaySend s p .cue →
              exec (.cancel p tag slot) s = .next
                ((closed.replied p (replyOf 0x95 tag .ok (.slot slot))).told r .cancelled))
            ∧ (∀ d, r.goDisplay = some d → d ≤ s.clock → exec (.goDisplayExpiry slot) s = .next (closed.told r .done)))
        ∧ ∀ d, r.goDisplay = some d → s.clock < d → exec (.goDisplayExpiry slot) s = .next s

/-- An ack deadline that the clock has reached leaves the record; a record in STANDBY, or HELD from STANDBY, becomes
overdue, the desks are told and ACK_OVERDUE is raised. A follow deadline that the clock has reached leaves the record and
applies GO: taken, the record is GOING; refused, CUE_REFUSED is raised with the predecessor of the record's origin and
the record keeps its state (R29, R36, R45, R55). An ack expiry that is not yet due changes nothing (log 2). -/
def Obligations.CueDeadlinesExpire : Prop :=
  (∀ (s : State) (slot : CueSlot) (r : ActiveCue) (d : Time), s.findCue slot = some r → r.ackDeadline = some d →
      let becomes : ActiveCue → State := fun x =>
        { s with active := s.active.map fun y => if y.slot = slot then x else y }
      let late : ActiveCue := { r with ackDeadline := none, overdue := true }
      (d ≤ s.clock → (r.state = .standby ∨ (r.state = .held ∧ r.prior = some .standby)) →
          exec (.ackDeadlineExpiry slot) s = .next
            (((becomes late).told late (.inList r.state)).raise (.ackOverdue slot r.awaited.count)))
        ∧ (d ≤ s.clock → (r.state = .ready ∨ (r.state = .held ∧ r.prior = some .ready)) →
          exec (.ackDeadlineExpiry slot) s = .next (becomes { r with ackDeadline := none }))
        ∧ (s.clock < d → exec (.ackDeadlineExpiry slot) s = .next s))
    ∧ (∀ (s : State) (slot : CueSlot) (r : ActiveCue) (d : Time), CueListSound s → s.findCue slot = some r →
        r.followDeadline = some d → d ≤ s.clock →
        let becomes : ActiveCue → State := fun x =>
          { s with active := s.active.map fun y => if y.slot = slot then x else y }
        (∀ x, s.goTarget slot = .ok x →
            let gone : ActiveCue :=
              { r with
                state := .going, prior := none, unready := r.unready || r.state == .standby, ackDeadline := none
                followDeadline := none, remaining := none
                goDisplay := some (s.clock + 8 * (s.liveTables.cues[slot]).goDisplay) }
            (∃ t, exec (.followDeadlineExpiry slot) s = .next t ∧ gone ∈ t.active)
              ∧ ((s.liveTables.cues[slot]).successor = none →
                exec (.followDeadlineExpiry slot) s = .next ((becomes gone).told gone (.inList .going))))
          ∧ ∀ st, s.goTarget slot = .error st →
            exec (.followDeadlineExpiry slot) s = .next
              ((becomes { r with followDeadline := none }).raise
                (.cueRefused slot st (.follow
                  (match r.origin with
                  | .follow q => some q
                  | _ => none)))))

/-- A cue-key press moves the port from awaited to acked in every STANDBY or HELD record that awaits it, tests the
STANDBY ones for READY, tells the desks once of each such record in list order, and touches nothing else; the ack policy
is met as the table of R21 says (R21, R22, R36, R70, R72). -/
def Obligations.CueKeyPressAcknowledges : Prop :=
  (∀ (s : State) (p : Port), CueListSound s →
      let answered : ActiveCue → ActiveCue := fun r =>
        let x : ActiveCue := { r with awaited := r.awaited.erase p, acked := r.acked.insert p }
        if r.state = .standby ∧ s.policyMet x = true then { x with state := .ready } else x
      s.cuePress p =
        State.toldAll
          { s with
            active := s.active.map fun r =>
              if (r.state = .standby ∨ r.state = .held) ∧ r.awaited.mem p = true then answered r else r }
          ((s.active.filter fun r => (r.state = .standby ∨ r.state = .held) ∧ r.awaited.mem p = true).map answered))
    ∧ (∀ (s : State) (r : ActiveCue),
        ((s.liveTables.cues[r.slot]).ackPolicy = .all → (s.policyMet r = true ↔ ∀ q : Port, r.awaited.mem q = false))
          ∧ ((s.liveTables.cues[r.slot]).ackPolicy = .any →
            (s.policyMet r = true ↔
              (∃ q : Port, r.acked.mem q = true) ∨ ∀ q : Port, r.targets.mem q = true → s.present q = false))
          ∧ ((s.liveTables.cues[r.slot]).ackPolicy = .nobody → s.policyMet r = true))

/-- The cue lamp of a port: DARK when it is not present, and otherwise the highest of its contributions: GO while a GOING
record targets it; else WARN while it is awaited in an overdue record in STANDBY or READY, or is in the valid live group
of a valid, occupied zone with warn lamps; else HOLD while a HELD record targets it; else STANDBY_FLASH while a record in
STANDBY or READY targets it and it has not acked; else STANDBY_STEADY while one targets it; else DARK (R64–R68). -/
def Obligations.CueLampIsTheHighestContribution : Prop :=
  ∀ (s : State) (p : Port),
    let waits : ActiveCue → Prop := fun r => r.targets.mem p = true ∧ (r.state = .standby ∨ r.state = .ready)
    let going := ∃ r ∈ s.active, r.targets.mem p = true ∧ r.state = .going
    let late := ∃ r ∈ s.active, waits r ∧ r.awaited.mem p = true ∧ r.acked.mem p = false ∧ r.overdue = true
    let danger := ∃ z : ZoneNo, s.liveTables.zones[z].valid = true ∧ s.occupied[z] = true
      ∧ s.liveTables.zones[z].warn = true
      ∧ ∃ g, s.liveTables.zones[z].group = some g ∧ s.liveTables.groups[g].valid = true
        ∧ s.liveTables.groups[g].ports.mem p = true
    let held := ∃ r ∈ s.active, r.targets.mem p = true ∧ r.state = .held
    let asked := ∃ r ∈ s.active, waits r ∧ r.acked.mem p = false
    let answered := ∃ r ∈ s.active, waits r ∧ r.acked.mem p = true
    (s.present p = false → s.cueLamp p = .dark)
      ∧ (s.present p = true →
        (going → s.cueLamp p = .go)
          ∧ (¬going → late ∨ danger → s.cueLamp p = .warn)
          ∧ (¬going → ¬late → ¬danger → held → s.cueLamp p = .hold)
          ∧ (¬going → ¬late → ¬danger → ¬held → asked → s.cueLamp p = .standbyFlash)
          ∧ (¬going → ¬late → ¬danger → ¬held → ¬asked → answered → s.cueLamp p = .standbySteady)
          ∧ (¬going → ¬late → ¬danger → ¬held → ¬asked → ¬answered → s.cueLamp p = .dark))

/-! ## Messages and notices -/

/-- An occurrence is recorded whatever gates stand, and its notice is built when every gate passes; entries that stand
freed in its destination's queue go first to the notices that wait for them. A test of several records builds those whose
gates pass, lane by lane and then kind by kind, each only while its queue has room; a waiting notice whose six gates pass
is built as an event of its own when no other such notice for the same port stands before it in that order, and otherwise
nothing is built (R181, R188, R190, R191; the event is log 34, the freed entries are log 27). -/
def Obligations.OccurrencesAreRecordedAndDelivered : Prop :=
  ∀ s : State,
    let laneNo : NoticeKind → Lane := fun k => s.noticeControl.kinds[k].lane
    let lane : NoticeKind → LaneControl := fun k => s.noticeControl.lanes[laneNo k]
    let built : NoticeKind → NoticeRecord → State := fun k x =>
      { s with
        queues := put s.queues (lane k).dest (s.queues[(lane k).dest] ++
          [{ content := .notice { kind := k, lane := laneNo k, count := x.count, detail := x.detail }
             sent := 0, waits := .nothing }])
        notices := put s.notices k
          (if (lane k).mode = .autoClear then { x with pending := false, count := 0 } else { x with sent := true }) }
    let before : NoticeKind → NoticeKind → Prop := fun k j => laneNo k < laneNo j ∨ (laneNo k = laneNo j ∧ k ≤ j)
    let buildsInOrder : (State → State) → (NoticeKind → Prop) → Prop := fun test reached =>
      ((∀ k, reached k → ¬GatesPass s k) → test s = s)
        ∧ ∀ k, reached k → GatesPass s k → (∀ j, reached j → GatesPass s j → before k j) →
          test s = test (built k s.notices[k])
    (∀ d : NoticeDetail,
      let k := d.kind
      let x : NoticeRecord :=
        { s.notices[k] with pending := true, count := min 255 (s.notices[k].count + 1), detail := some d }
      let passes := s.notices[k].sent = false ∧ s.noticeControl.kinds[k].enable = true ∧ s.noticeControl.hold = false
        ∧ (lane k).isOpen = true ∧ s.present (lane k).dest = true ∧ s.queues[(lane k).dest].length < 8
      s.raise d = (s.offer (lane k).dest).raise d
        ∧ ((∀ j, GatesPass s j → (lane j).dest ≠ (lane k).dest) →
          (¬passes → s.raise d = { s with notices := put s.notices k x }) ∧ (passes → s.raise d = built k x)))
      ∧ buildsInOrder State.testAll (fun _ => True)
      ∧ (∀ l : Lane, buildsInOrder (fun t => t.testLane l) fun k => laneNo k = l)
      ∧ (∀ p : Port, buildsInOrder (fun t => t.offer p) fun k => (lane k).dest = p)
      ∧ ∀ k : NoticeKind,
        let first := ∀ j, GatesPass s j → (lane j).dest = (lane k).dest → before k j
        (GatesPass s k → s.testNotice k = built k s.notices[k]) ∧ (¬GatesPass s k → s.testNotice k = s)
          ∧ (GatesPass s k → first → exec (.noticeBuild k) s = .next (built k s.notices[k]))
          ∧ (¬(GatesPass s k ∧ first) → exec (.noticeBuild k) s = .next s)

/-- Desk status goes to every present port with CUE rights and to no other, one copy each, and changes nothing but the
queues and the gap flags; a copy takes a free entry, else the place of the oldest copy not begun, else sets the gap
flag; and the message about a record is the one with its slot, the label of its live cue, the state given, the sizes of
its three sets, overdue, went unready and its origin (R70, R73, R74). -/
def Obligations.DeskStatusCopyFindsItsEntry : Prop :=
  (∀ (s : State) (b : DeskBody),
      QueuesAside (s.deskStatus b) s
        ∧ ∀ p : Port,
          (s.present p = true → s.profiles[p].rights.cue = true →
              (s.deskStatus b).queues[p] = (s.deskCopy b p).queues[p] ∧ (s.deskStatus b).gaps[p] = (s.deskCopy b p).gaps[p])
            ∧ (s.present p = false ∨ s.profiles[p].rights.cue = false →
              (s.deskStatus b).queues[p] = s.queues[p] ∧ (s.deskStatus b).gaps[p] = s.gaps[p]))
    ∧ (∀ (s : State) (b : DeskBody) (p : Port),
      (s.queues[p].length < 8 →
          s.deskCopy b p =
            { s with
              queues := put s.queues p (s.queues[p] ++ [{ content := .desk b s.gaps[p], sent := 0, waits := .nothing }])
              gaps := put s.gaps p false })
        ∧ (∀ front e rest, s.queues[p] = front ++ e :: rest → 8 ≤ s.queues[p].length →
          (∀ x ∈ front, x.isWaitingDesk = false) → e.isWaitingDesk = true →
          s.deskCopy b p =
            { s with
              queues := put s.queues p (front ++ rest ++ [{ content := .desk b true, sent := 0, waits := .nothing }])
              gaps := put s.gaps p false })
        ∧ ((∀ x ∈ s.queues[p], x.isWaitingDesk = false) → 8 ≤ s.queues[p].length →
          s.deskCopy b p = { s with gaps := put s.gaps p true }))
    ∧ (∀ (s : State) (r : ActiveCue) (st : DeskState),
      s.told r st =
        s.deskStatus (.cue r.slot s.liveTables.cues[r.slot].label st r.awaited.count r.acked.count r.absent.count
          r.overdue r.unready r.origin))
    ∧ ∀ (e : TxEntry), e.isWaitingDesk = true ↔ e.sent = 0 ∧ ∃ b g, e.content = .desk b g

/-- Acceptance of a complete message of any kind from a present port, in the order of R177: dropped with no room, UNKNOWN
for a kind that is no request kind, DENIED without the kind's right, BAD_VALUE for a payload that fails its form, and else
its request, as the table of R178 lays down kinds, rights and payloads. A command that is a request is that same request of
its port (requestOf), and the command of an unknown kind the same message. The payloads of the cue requests and the empty
ones are told by their length; the fields of the others are read as log 4 says (R176, R177, R178). A message or a request
of a port that is not present changes nothing, the identification apart, nor does a command of an unknown kind that names
a request kind or the IDENT reply (log 2). -/
def Obligations.AcceptanceInOrder : Prop :=
  (∀ kind : Octet,
      kindRight kind =
        if kind ∈ [0x10#8, 0x11, 0x12, 0x13, 0x14, 0x15] then some .cue
        else if kind ∈ [0x20#8, 0x58] then some .read
        else if kind ∈ [0x21#8, 0x30, 0x31, 0x32, 0x40, 0x48, 0x50, 0x60, 0x68] then some .write
        else none)
    ∧ (∀ r : Request, kindRight (requestKind r) = some (requestRight r))
    ∧ (∀ c, requestKind (.misfit c) = 0x40) ∧ (∀ t index, requestKind (.misfitEntry t index) = 0x21)
    ∧ ∀ (s : State) (p : Port) (tag : Octet),
      let full := 8 ≤ s.queues[p].length
      let may : Right → Prop := fun right => hasRight s.profiles[p].rights right = true
      let dropped : Octet → State := fun kind => s.raise (.requestDropped p kind tag)
      let refused : Octet → Status → ReplyData → State := fun kind st d => s.replied p (replyOf kind tag st d)
      (∀ cmd kind r, requestOf cmd = some (p, tag, kind, r) →
          requestKind r = kind ∧ exec cmd s = .next (s.request p tag r))
        ∧ (∀ r : Request,
          (s.present p = false → s.request p tag r = s)
            ∧ (s.present p = true → full → s.request p tag r = dropped (requestKind r))
            ∧ (s.present p = true → ¬full → ¬may (requestRight r) →
              s.request p tag r = refused (requestKind r + 0x80) .denied .nothing))
        ∧ (∀ kind : Octet,
          (s.present p = false ∨ kindRight kind ≠ none ∨ kind = 0xF1 → exec (.unknownKind p tag kind) s = .next s)
            ∧ (s.present p = true → kindRight kind = none → kind ≠ 0xF1 →
              exec (.unknownKind p tag kind) s =
                .next (if full then dropped kind else refused 0xFE .unknown (.unknownKind kind))))
        ∧ ∀ (keys : Keys) (payload : List Octet),
          let received : Octet → State := fun kind => s.completeMessage p kind tag payload keys
          (∀ kind, s.present p = false → s.ports[p].state ≠ .probing → received kind = s)
            ∧ (s.present p = true → received 0xF1 = s)
            ∧ (∀ kind, s.present p = true → kind ≠ 0xF1 →
              (full → received kind = dropped kind)
                ∧ (¬full → kindRight kind = none → received kind = refused 0xFE .unknown (.unknownKind kind))
                ∧ (∀ right, ¬full → kindRight kind = some right → ¬may right →
                  received kind = refused (kind + 0x80) .denied .nothing)
                ∧ ∀ right, ¬full → kindRight kind = some right → may right →
                  let badForm := received kind = refused (kind + 0x80) .badValue .nothing
                  (kind = 0x10 ∨ kind = 0x11 → payload.length ≠ 1 → badForm)
                    ∧ (kind = 0x13 ∨ kind = 0x14 ∨ kind = 0x15 → 1 < payload.length → badForm)
                    ∧ (kind = 0x12 ∨ kind = 0x30 ∨ kind = 0x31 ∨ kind = 0x32 ∨ kind = 0x60 ∨ kind = 0x68 →
                      payload ≠ [] → badForm)
                    ∧ (kind = 0x20 →
                      (Config.readFields payload = none → badForm)
                        ∧ ∀ table bank index, Config.readFields payload = some (table, bank, index) →
                          received kind = s.request p tag (readRequest table bank index))
                    ∧ (kind = 0x21 →
                      (Config.writeFields payload = none → badForm)
                        ∧ ∀ table index entry, Config.writeFields payload = some (table, index, entry) →
                          received kind = s.request p tag (writeRequest table index entry))
                    ∧ (kind = 0x40 ∨ kind = 0x48 ∨ kind = 0x50 ∨ kind = 0x58 →
                      ((∀ r, Config.payloadRequest kind payload = some r → requestKind r ≠ kind) → badForm)
                        ∧ ∀ r, Config.payloadRequest kind payload = some r → requestKind r = kind →
                          received kind = s.request p tag r))
            ∧ ∀ o : Octet,
              let runs : Octet → List Octet → Instr → Prop := fun kind l cmd =>
                .next (s.completeMessage p kind tag l keys) = exec cmd s
              s.present p = true →
              runs 0x10 [o] (.standby p tag o.toFin) ∧ runs 0x11 [o] (.go p tag o.toFin) ∧ runs 0x12 [] (.goNext p tag)
                ∧ runs 0x13 [o] (.hold p tag o.toFin) ∧ runs 0x13 [] (.holdAll p tag)
                ∧ runs 0x14 [o] (.release p tag o.toFin) ∧ runs 0x14 [] (.releaseAll p tag)
                ∧ runs 0x15 [o] (.cancel p tag o.toFin) ∧ runs 0x15 [] (.cancelAll p tag)
                ∧ runs 0x30 [] (.copyLiveToEdit p tag) ∧ runs 0x31 [] (.swap p tag) ∧ runs 0x32 [] (.cancelSwap p tag)
                ∧ runs 0x60 [] (.save p tag) ∧ runs 0x68 [] (.restart p tag)

/-- A talk request: granted while a place is free, else preempting the most recently granted talker of the lowest
priority below its own, else queued behind its class, else denied for 1,000 ms; it reloads the idle timer. The victim is
queued at the front of its class or, when the queue holds 8, denied for 1,000 ms; a request that is granted, preempts or
waits ends the DENIED period of its slot; nothing else changes. A talk-key press of a slot that may talk requests under
MOMENTARY, LATCHING (latched) and AUTO (with its press time) when its port holds no entry on the channel, and releases
the entry under LATCHING and AUTO when it holds one; a release of the key releases under MOMENTARY and under AUTO, but a
tap shorter than the auto-latch threshold latches the AUTO entry; a released entry goes, a talker's place is granted to
the heads of the wait queue, and the idle timer is reloaded; any other press or release changes nothing (R121,
R123–R131, R135). -/
def Obligations.TalkRequestIsTaken : Prop :=
  (∀ (s : State) (c : Chan) (e : TalkEntry),
      let t := s.requestTalk c e
      let full := s.channels[c].maxTalkers ≤ s.talk[c].talkers.length
      let mine : Port → KeySlot → Prop := fun q k => q = e.port ∧ k = e.slot
      (s.talk[c].talkers.length < s.channels[c].maxTalkers →
          t.talk[c].talkers = s.talk[c].talkers ++ [e] ∧ t.talk[c].waiters = s.talk[c].waiters
            ∧ t = { s with talk := t.talk, denied := t.denied }
            ∧ ∀ (q : Port) (k : KeySlot), t.denied[q][k] = if mine q k then none else s.denied[q][k])
        ∧ (∀ front v after, full → s.channels[c].preemption = true → s.talk[c].talkers = front ++ v :: after →
          v.priority < e.priority → (∀ x ∈ front, v.priority ≤ x.priority) → (∀ x ∈ after, v.priority < x.priority) →
          (∀ x ∈ front ++ after, x.port ≠ v.port) →
          t.talk[c].talkers = front ++ after ++ [e]
            ∧ t.notices[(13 : NoticeKind)].detail =
              some (.talkPreempted c v.port (.priority e.port)
                (if s.talk[c].waiters.length < 8 then .queued else .dropped))
            ∧ t = State.raise { s with talk := t.talk, denied := t.denied }
              (.talkPreempted c v.port (.priority e.port)
                (if s.talk[c].waiters.length < 8 then .queued else .dropped))
            ∧ (∀ (q : Port) (k : KeySlot), t.denied[q][k] =
              if mine q k then none
              else if 8 ≤ s.talk[c].waiters.length ∧ q = v.port ∧ k = v.slot then some (s.clock + 8 * 1000)
              else s.denied[q][k])
            ∧ (s.talk[c].waiters.length < 8 → t.talk[c].waiters =
              (s.talk[c].waiters.takeWhile fun x => decide (v.priority < x.priority)) ++
                v :: s.talk[c].waiters.dropWhile fun x => decide (v.priority < x.priority))
            ∧ (8 ≤ s.talk[c].waiters.length → t.talk[c].waiters = s.talk[c].waiters))
        ∧ (full → (s.channels[c].preemption = false ∨ ∀ x ∈ s.talk[c].talkers, e.priority ≤ x.priority) →
          t.talk[c].talkers = s.talk[c].talkers
            ∧ t = { s with talk := t.talk, denied := t.denied }
            ∧ (∀ (q : Port) (k : KeySlot), t.denied[q][k] =
              if mine q k then if s.talk[c].waiters.length < 8 then none else some (s.clock + 8 * 1000)
              else s.denied[q][k])
            ∧ (s.talk[c].waiters.length < 8 → t.talk[c].waiters =
              (s.talk[c].waiters.takeWhile fun x => decide (e.priority ≤ x.priority)) ++
                e :: s.talk[c].waiters.dropWhile fun x => decide (e.priority ≤ x.priority))
            ∧ (8 ≤ s.talk[c].waiters.length → t.talk[c].waiters = s.talk[c].waiters))
        ∧ (t.talk[c].idle =
          if s.channels[c].idleRelease = 0 then none else some (s.clock + 8000 * s.channels[c].idleRelease))
        ∧ ∀ x : Chan, x ≠ c → t.talk[x] = s.talk[x])
    ∧ ∀ (s : State) (p : Port) (k : KeySlot),
      let slot := s.profiles[p].slots[k]
      let entry : Bool → Option Time → TalkEntry := fun latched press =>
        { port := p, slot := k, priority := s.profiles[p].priority, latched := latched, pressTime := press }
      (s.inert p k = true ∨ slot.channel = none ∨ slot.mode = .listen → s.talkPress p k = s ∧ s.talkRelease p k = s)
        ∧ ∀ c, s.inert p k = false → slot.channel = some c → slot.mode ≠ .listen →
          let talk := s.talk[c]
          let absent := ∀ e ∈ talk.talkers ++ talk.waiters, e.port ≠ p
          let talkers := talk.talkers.filter fun e => e.port ≠ p
          let waiters := talk.waiters.filter fun e => e.port ≠ p
          let granted := if ∃ e ∈ talk.talkers, e.port = p then s.channels[c].maxTalkers - talkers.length else 0
          let released : State :=
            { s with
              talk := put s.talk c
                { talkers := talkers ++ waiters.take granted
                  waiters := waiters.drop granted
                  idle :=
                    if s.channels[c].idleRelease = 0 then none
                    else some (s.clock + 8000 * s.channels[c].idleRelease) } }
          let latch : TalkEntry → TalkEntry := fun e =>
            if e.port = p then { e with latched := true, pressTime := none } else e
          (slot.action = .momentary →
              (absent → s.talkPress p k = s.requestTalk c (entry false none) ∧ s.talkRelease p k = s)
                ∧ (¬absent → s.talkPress p k = s ∧ s.talkRelease p k = released))
            ∧ (slot.action = .latching → s.talkRelease p k = s
              ∧ (absent → s.talkPress p k = s.requestTalk c (entry true none))
              ∧ (¬absent → s.talkPress p k = released))
            ∧ (slot.action = .auto →
              (absent → s.talkPress p k = s.requestTalk c (entry false (some s.clock)) ∧ s.talkRelease p k = s)
                ∧ (¬absent → s.talkPress p k = released)
                ∧ ∀ front e after, talk.talkers ++ talk.waiters = front ++ e :: after → (∀ x ∈ front, x.port ≠ p) →
                  e.port = p →
                  (∀ d, e.pressTime = some d → s.clock - d < 8 * s.router.threshold →
                      s.talkRelease p k =
                        { s with
                          talk := put s.talk c
                            { talk with talkers := talk.talkers.map latch, waiters := talk.waiters.map latch } })
                    ∧ (e.pressTime = none → s.talkRelease p k = released)
                    ∧ ∀ d, e.pressTime = some d → 8 * s.router.threshold ≤ s.clock - d →
                      s.talkRelease p k = released)

/-- Idle, DENIED, display and holdoff deadlines that the clock has reached: the latched entries of the channel go and the
heads are granted with IDLE_RELEASE raised; the DENIED period, the flash and the holdoff end (R132, R135, R142). -/
def Obligations.TalkAndCallDeadlinesExpire : Prop :=
  ∀ (s : State) (c : Chan) (p : Port) (k : KeySlot) (d : Time), d ≤ s.clock →
    (s.talk[c].idle = some d →
        let talkers := s.talk[c].talkers.filter fun e => !e.latched
        let waiters := s.talk[c].waiters.filter fun e => !e.latched
        let room := s.channels[c].maxTalkers - talkers.length
        let n := s.talk[c].talkers.countP (·.latched) + s.talk[c].waiters.countP (·.latched)
        (0 < n → ∃ t, exec (.idleTimerExpiry c) s = .next t
            ∧ MessagesAside t
              { s with
                talk := put s.talk c
                  { talkers := talkers ++ waiters.take room, waiters := waiters.drop room, idle := none } }
            ∧ t.notices[(12 : NoticeKind)].detail = some (.idleRelease c n))
          ∧ (n = 0 → exec (.idleTimerExpiry c) s = .next
            { s with talk := put s.talk c { s.talk[c] with idle := none } }))
      ∧ (s.denied[p][k] = some d →
        exec (.deniedPeriodExpiry p k) s = .next { s with denied := put s.denied p (put s.denied[p] k none) })
      ∧ (∀ q, s.calls[p][k].flash = some { caller := q, deadline := d } →
        exec (.displayDeadlineExpiry p k) s = .next
          { s with calls := put s.calls p (put s.calls[p] k { s.calls[p][k] with flash := none }) })
      ∧ (s.calls[p][k].holdoff = some d →
        exec (.holdoffDeadlineExpiry p k) s = .next
          { s with calls := put s.calls p (put s.calls[p] k { s.calls[p][k] with holdoff := none }) })

/-- A call-key press of a slot that may call sets every recipient slot flashing, starts the caller's holdoff and reloads
the channel's idle timer; any other press changes nothing (R140, R141). -/
def Obligations.CallReachesItsRecipients : Prop :=
  ∀ (s : State) (p : Port) (k : KeySlot) (c : Chan),
    let slot := s.profiles[p].slots[k]
    (s.inert p k = false → slot.callAllowed = true → slot.channel = some c → s.calls[p][k].holdoff = none →
        (∀ (q : Port) (j : KeySlot), q ≠ p →
          (s.callPress p k).calls[q][j] =
            if s.present q = true ∧ s.inert q j = false ∧ s.profiles[q].slots[j].channel = some c
                ∧ s.profiles[q].slots[j].mode ≠ .talk then
              { s.calls[q][j] with
                flash := some { caller := p, deadline := s.clock + 8 * s.channels[c].callDisplay } }
            else s.calls[q][j])
          ∧ (∀ j : KeySlot, (s.callPress p k).calls[p][j] =
            if j = k ∧ s.router.holdoff ≠ 0 then
              { s.calls[p][j] with holdoff := some (s.clock + 8 * s.router.holdoff) }
            else s.calls[p][j])
          ∧ s.callPress p k =
            { s with
              calls := (s.callPress p k).calls
              talk := put s.talk c { s.talk[c] with
                idle := if s.channels[c].idleRelease = 0 then none
                  else some (s.clock + 8000 * s.channels[c].idleRelease) } })
      ∧ (s.inert p k = true ∨ slot.callAllowed = false ∨ slot.channel = none ∨ s.calls[p][k].holdoff ≠ none →
        s.callPress p k = s)

/-- The outgoing sample: over each channel of the listen set, the talkers' samples without the listener's own unless it
has sidetone, times the level, divided by 16 toward zero; the total clamped to the sample range. The listen set of a
present port holds the channels of its non-inert slots in mode LISTEN or TALK_LISTEN, and the cue channels of the records
in STANDBY, READY or HELD that target it (R136, R148, R149). -/
def Obligations.MixIsTheClampedSum : Prop :=
  (∀ (s : State) (p : Port),
      let heard : Chan → List Int := fun c =>
        (s.talk[c].talkers.filter fun e => e.port ≠ p ∨ s.profiles[p].sidetone = true).map fun e =>
          ((s.samples[e.port]).map BitVec.toInt).getD 0
      let total := ((List.finRange 16).map fun c =>
        if s.listens p c then ((heard c).sum * (s.channels[c].level : Int)).tdiv 16 else 0).sum
      (s.mixSample p).toInt = if total < -32768 then -32768 else if 32767 < total then 32767 else total)
    ∧ ∀ (s : State) (p : Port) (c : Chan),
      s.listens p c = true ↔
        s.present p = true
          ∧ ((∃ k : KeySlot, s.inert p k = false ∧ s.profiles[p].slots[k].channel = some c
              ∧ s.profiles[p].slots[k].mode ≠ .talk)
            ∨ ∃ r ∈ s.active, r.state ≠ .going ∧ r.targets.mem p = true
              ∧ s.liveTables.cues[r.slot].cueChannel = some c)

/-! ## Tables and banks -/

/-- READ_ENTRY of each of the eight tables returns the entry of the bank named and changes nothing but the reader's queue
(R7, R9, R85, R91, R102, R114, R119, R164, R189). -/
def Obligations.ReadsReturnTheEntry : Prop :=
  ∀ (s : State) (p : Port) (tag : Octet) (b : BankSel), MaySend s p .read →
    let bank := s.bank (if b = .live then s.live else s.live.other)
    let returns : Instr → ReplyData → Prop := fun cmd d => exec cmd s = .next (s.replied p (replyOf 0xA0 tag .ok d))
    (∀ i : CueSlot, returns (.readCueEntry p tag (some b) i.val) (.cueEntry bank.cues[i]))
      ∧ (∀ i : GroupNo, returns (.readGroupEntry p tag (some b) (i.val + 1)) (.groupEntry bank.groups[i]))
      ∧ (∀ i : Fin 24, returns (.readPositionEntry p tag (some b) i.val) (.positionEntry bank.positions[i]))
      ∧ (∀ i : ZoneNo, returns (.readZoneEntry p tag (some b) (i.val + 1)) (.zoneEntry bank.zones[i]))
      ∧ (∀ i : Port, returns (.readProfile p tag (some b) i.val) (.profileEntry s.profiles[i]))
      ∧ (∀ i : Chan, returns (.readChannelEntry p tag (some b) (i.val + 1)) (.channelEntry s.channels[i]))
      ∧ returns (.readRouterSettings p tag (some b) 0) (.routerEntry s.router)
      ∧ returns (.readNoticeControl p tag (some b) 0) (.noticeEntry (.global s.noticeControl.hold))
      ∧ (∀ k : NoticeKind, returns (.readNoticeControl p tag (some b) (k.val + 1))
          (.noticeEntry (.kind s.noticeControl.kinds[k])))
      ∧ ∀ l : Lane, returns (.readNoticeControl p tag (some b) (l.val + 19))
          (.noticeEntry (.lane s.noticeControl.lanes[l]))

/-- A read is refused BAD_VALUE without a bank LIVE or EDIT, then BAD_INDEX outside the table; a write BAD_INDEX outside
the table, and BAD_VALUE inside it when the entry has not the length the table's entry takes; a table number outside 1–8
BAD_TABLE; each changes nothing. The table numbers 1–8 name the Cue Table, the Group Table, the Position Cue Lists, the
Zone Table, the Station Profiles, the Channel Table, Notice Control and the Router Settings (R183; how an entry lies in
its octets is log 4). -/
def Obligations.TableTestsInOrder : Prop :=
  (∀ (s : State) (p : Port) (tag : Octet) (b : BankSel) (i : Nat),
    (MaySend s p .read →
      let refused : Instr → Status → Prop := fun cmd st =>
        exec cmd s = .next (s.replied p (replyOf 0xA0 tag st .nothing))
      refused (.readCueEntry p tag none i) .badValue ∧ refused (.readGroupEntry p tag none i) .badValue
        ∧ refused (.readPositionEntry p tag none i) .badValue ∧ refused (.readZoneEntry p tag none i) .badValue
        ∧ refused (.readProfile p tag none i) .badValue ∧ refused (.readChannelEntry p tag none i) .badValue
        ∧ refused (.readNoticeControl p tag none i) .badValue ∧ refused (.readRouterSettings p tag none i) .badValue
        ∧ (255 < i → refused (.readCueEntry p tag (some b) i) .badIndex)
        ∧ (i = 0 ∨ 24 < i → refused (.readGroupEntry p tag (some b) i) .badIndex)
        ∧ (23 < i → refused (.readPositionEntry p tag (some b) i) .badIndex)
        ∧ (i = 0 ∨ 6 < i → refused (.readZoneEntry p tag (some b) i) .badIndex)
        ∧ (31 < i → refused (.readProfile p tag (some b) i) .badIndex)
        ∧ (i = 0 ∨ 16 < i → refused (.readChannelEntry p tag (some b) i) .badIndex)
        ∧ (22 < i → refused (.readNoticeControl p tag (some b) i) .badIndex)
        ∧ (i ≠ 0 → refused (.readRouterSettings p tag (some b) i) .badIndex)
        ∧ (i = 0 ∨ 8 < i → refused (.badTable p tag false i) .badTable))
      ∧ (MaySend s p .write →
        let refused : Instr → Status → Prop := fun cmd st =>
          exec cmd s = .next (s.replied p (replyOf 0xA1 tag st .nothing))
        let misfit : Table → Status → Prop := fun table st =>
          s.request p tag (.misfitEntry table i) = s.replied p (replyOf 0xA1 tag st .nothing)
        (∀ w, 255 < i → refused (.writeCueEntry p tag i w) .badIndex)
          ∧ (∀ w, i = 0 ∨ 24 < i → refused (.writeGroupEntry p tag i w) .badIndex)
          ∧ (∀ w, 23 < i → refused (.writePositionEntry p tag i w) .badIndex)
          ∧ (∀ w, i = 0 ∨ 6 < i → refused (.writeZoneEntry p tag i w) .badIndex)
          ∧ (∀ w, 31 < i → refused (.writeProfile p tag i w) .badIndex)
          ∧ (∀ w, i = 0 ∨ 16 < i → refused (.writeChannelEntry p tag i w) .badIndex)
          ∧ (∀ w, 22 < i → refused (.writeNoticeControl p tag i w) .badIndex)
          ∧ (∀ w, i ≠ 0 → refused (.writeRouterSettings p tag i w) .badIndex)
          ∧ (i = 0 ∨ 8 < i → refused (.badTable p tag true i) .badTable)
          ∧ misfit .cueTable (if i ≤ 255 then .badValue else .badIndex)
          ∧ misfit .groupTable (if 1 ≤ i ∧ i ≤ 24 then .badValue else .badIndex)
          ∧ misfit .positionLists (if i ≤ 23 then .badValue else .badIndex)
          ∧ misfit .zoneTable (if 1 ≤ i ∧ i ≤ 6 then .badValue else .badIndex)
          ∧ misfit .profiles (if i ≤ 31 then .badValue else .badIndex)
          ∧ misfit .channelTable (if 1 ≤ i ∧ i ≤ 16 then .badValue else .badIndex)
          ∧ misfit .noticeControl (if i ≤ 22 then .badValue else .badIndex)
          ∧ misfit .routerSettings (if i = 0 then .badValue else .badIndex)))
    ∧ (∀ (s : State) (p : Port) (tag : Octet) (b : Named BankSel) (i : Nat),
      let reads : Nat → Instr → Prop := fun table cmd => .next (s.request p tag (readRequest table b i)) = exec cmd s
      reads 1 (.readCueEntry p tag b i) ∧ reads 2 (.readGroupEntry p tag b i) ∧ reads 3 (.readPositionEntry p tag b i)
        ∧ reads 4 (.readZoneEntry p tag b i) ∧ reads 5 (.readProfile p tag b i) ∧ reads 6 (.readChannelEntry p tag b i)
        ∧ reads 7 (.readNoticeControl p tag b i) ∧ reads 8 (.readRouterSettings p tag b i)
        ∧ ∀ n, n = 0 ∨ 8 < n → reads n (.badTable p tag false n))
    ∧ ∀ (s : State) (p : Port) (tag : Octet) (i : Nat) (entry : List Octet),
      let misfit : Table → State := fun table => s.request p tag (.misfitEntry table i)
      let writes : Nat → Result → Prop := fun table x => .next (s.request p tag (writeRequest table i entry)) = x
      writes 1 (match Config.cueEntry entry with
          | some w => exec (.writeCueEntry p tag i w) s
          | none => .next (misfit .cueTable))
        ∧ writes 2 (match Config.groupEntry entry with
          | some w => exec (.writeGroupEntry p tag i w) s
          | none => .next (misfit .groupTable))
        ∧ writes 3 (match Config.positionEntry entry with
          | some w => exec (.writePositionEntry p tag i w) s
          | none => .next (misfit .positionLists))
        ∧ writes 4 (match Config.zoneEntry entry with
          | some w => exec (.writeZoneEntry p tag i w) s
          | none => .next (misfit .zoneTable))
        ∧ writes 5 (match Config.profileEntry entry with
          | some w => exec (.writeProfile p tag i w) s
          | none => .next (misfit .profiles))
        ∧ writes 6 (match Config.channelEntry entry with
          | some w => exec (.writeChannelEntry p tag i w) s
          | none => .next (misfit .channelTable))
        ∧ writes 7 (match Config.noticeEntry i entry with
          | some w => exec (.writeNoticeControl p tag i w) s
          | none => .next (misfit .noticeControl))
        ∧ writes 8 (match Config.routerEntry entry with
          | some w => exec (.writeRouterSettings p tag i w) s
          | none => .next (misfit .routerSettings))
        ∧ ∀ n, n = 0 ∨ 8 < n → writes n (exec (.badTable p tag true n) s)

/-- A banked write that passes its table's tests replaces one entry of the edit bank, leaves the live bank's tables and
everything else as they stand, and is answered OK; one that fails is refused BAD_VALUE (R5, R6, R9, R85, R91, R103). -/
def Obligations.BankedWritesReplaceTheEditEntry : Prop :=
  ∀ (s : State) (p : Port) (tag : Octet), MaySend s p .write →
    let edit := s.bank s.live.other
    let stores : Instr → BankTables → Prop := fun cmd tables =>
      ∃ t, exec cmd s = .next t ∧ t.bank s.live.other = tables ∧ t.bank s.live = s.bank s.live
        ∧ t = { s with bankA := t.bankA, bankB := t.bankB }.replied p (replyOf 0xA1 tag .ok .nothing)
    let refused : Instr → Prop := fun cmd => exec cmd s = .next (s.replied p (replyOf 0xA1 tag .badValue .nothing))
    (∀ (i : CueSlot) (w : CueWrite),
        (∀ r, checkCue i w = some r → stores (.writeCueEntry p tag i.val w) { edit with cues := put edit.cues i r })
          ∧ (checkCue i w = none → refused (.writeCueEntry p tag i.val w)))
      ∧ (∀ (i : GroupNo) (w : GroupWrite),
        (∀ g, checkGroup w = some g →
            stores (.writeGroupEntry p tag (i.val + 1) w) { edit with groups := put edit.groups i g })
          ∧ (checkGroup w = none → refused (.writeGroupEntry p tag (i.val + 1) w)))
      ∧ (∀ (i : Fin 24) (w : PositionWrite),
        (∀ e, checkPosition w = some e →
            stores (.writePositionEntry p tag i.val w) { edit with positions := put edit.positions i e })
          ∧ (checkPosition w = none → refused (.writePositionEntry p tag i.val w)))
      ∧ ∀ (i : ZoneNo) (w : ZoneWrite),
        (∀ z, checkZone w = some z →
            stores (.writeZoneEntry p tag (i.val + 1) w) { edit with zones := put edit.zones i z })
          ∧ (checkZone w = none → refused (.writeZoneEntry p tag (i.val + 1) w))

/-- What the write rules accept, field by field; that an accepted entry holds the fields as written; that valid no
clears whatever the other fields hold; and that a valid field outside yes and no is refused (R3–R6, R9, R85, R91, R114,
R118, R119, R165, R189). That valid no skips the tests of the other fields, the named ones too, is log 18. -/
def Obligations.WriteRulesOfTheTables : Prop :=
  (∀ (own : CueSlot) (w : CueWrite),
      (w.valid = some true →
        ((checkCue own w).isSome = true ↔
            (1 ≤ w.label.length ∧ w.label.length ≤ 8 ∧ ∀ c ∈ w.label, 32 ≤ c.toNat ∧ c.toNat ≤ 126)
              ∧ (1 ≤ w.groups.length ∧ w.groups.length ≤ 4 ∧ w.groups.Nodup ∧ ∀ g ∈ w.groups, 1 ≤ g ∧ g ≤ 24)
              ∧ w.ackPolicy.isSome = true ∧ w.goPolicy.isSome = true
              ∧ (w.ackTimeout = 0 ∨ (500 ≤ w.ackTimeout ∧ w.ackTimeout ≤ 60000))
              ∧ (∀ n, w.cueChannel = some n → 1 ≤ n ∧ n ≤ 16) ∧ (∀ n, w.interlock = some n → 1 ≤ n ∧ n ≤ 6)
              ∧ (100 ≤ w.goDisplay ∧ w.goDisplay ≤ 5000)
              ∧ ∀ x, w.successor = some x → x.slot ≤ 255 ∧ x.slot ≠ own.val
                ∧ ((x.kind = some .standbyNext ∧ x.delay = none)
                  ∨ (x.kind = some .autofollow ∧ ∃ d, x.delay = some d ∧ d ≤ 600000)))
          ∧ ∀ r, checkCue own w = some r →
            r.valid = true ∧ r.label = w.label ∧ r.groups.map (fun g => g.val + 1) = w.groups
              ∧ some r.ackPolicy = w.ackPolicy ∧ r.ackTimeout = w.ackTimeout ∧ some r.goPolicy = w.goPolicy
              ∧ r.cueChannel.map (fun c => c.val + 1) = w.cueChannel
              ∧ r.interlock.map (fun z => z.val + 1) = w.interlock ∧ r.goDisplay = w.goDisplay
              ∧ w.successor =
                match r.successor with
                | none => none
                | some (.standbyNext t) => some { kind := some .standbyNext, slot := t.val, delay := none }
                | some (.autofollow t d) => some { kind := some .autofollow, slot := t.val, delay := some d })
        ∧ (w.valid = some false → checkCue own w = some CueRecord.cleared)
        ∧ (w.valid = none → checkCue own w = none))
    ∧ (∀ w : GroupWrite,
      (w.valid = some true → checkGroup w = some { valid := true, ports := w.ports })
        ∧ (w.valid = some false → checkGroup w = some { valid := false, ports := PortSet.none })
        ∧ (w.valid = none → checkGroup w = none))
    ∧ (∀ w : PositionWrite,
      (w.valid = some true →
        ((checkPosition w).isSome = true ↔
            (-999999 ≤ w.target ∧ w.target ≤ 999999) ∧ w.direction.isSome = true ∧ w.action.isSome = true
              ∧ w.slot ≤ 255)
          ∧ ∀ e, checkPosition w = some e →
            e.valid = true ∧ e.target = w.target ∧ some e.direction = w.direction ∧ e.slot.val = w.slot
              ∧ some e.action = w.action)
        ∧ (w.valid = some false → checkPosition w = some PositionEntry.cleared)
        ∧ (w.valid = none → checkPosition w = none))
    ∧ (∀ w : ZoneWrite,
      (w.valid = some true →
        ((checkZone w).isSome = true ↔
            (-999999 ≤ w.lower ∧ w.lower ≤ w.upper ∧ w.upper ≤ 999999) ∧ w.counter.isSome = true
              ∧ w.warn.isSome = true ∧ ∀ n, w.group = some n → 1 ≤ n ∧ n ≤ 24)
          ∧ ∀ z, checkZone w = some z →
            z.valid = true ∧ some z.counter = w.counter ∧ z.lower = w.lower ∧ z.upper = w.upper
              ∧ z.group.map (fun g => g.val + 1) = w.group ∧ some z.warn = w.warn)
        ∧ (w.valid = some false → checkZone w = some Zone.cleared)
        ∧ (w.valid = none → checkZone w = none))
    ∧ (∀ w : ProfileWrite,
      ((checkProfile w).isSome = true ↔
          w.enabled.isSome = true ∧ w.expected.isSome = true ∧ w.rights.isSome = true ∧ w.priority ≤ 3
            ∧ w.sidetone.isSome = true
            ∧ (∀ k : KeySlot, (∀ n, w.slots[k].channel = some n → 1 ≤ n ∧ n ≤ 16) ∧ w.slots[k].mode.isSome = true
              ∧ w.slots[k].action.isSome = true ∧ w.slots[k].callAllowed.isSome = true)
            ∧ ∀ j k : KeySlot, j ≠ k → w.slots[j].channel ≠ none → w.slots[j].channel ≠ w.slots[k].channel)
        ∧ ∀ f, checkProfile w = some f →
          some f.enabled = w.enabled ∧ some f.expected = w.expected ∧ some f.rights = w.rights
            ∧ f.priority.val = w.priority ∧ some f.sidetone = w.sidetone
            ∧ ∀ k : KeySlot, f.slots[k].channel.map (fun c => c.val + 1) = w.slots[k].channel
              ∧ some f.slots[k].mode = w.slots[k].mode ∧ some f.slots[k].action = w.slots[k].action
              ∧ some f.slots[k].callAllowed = w.slots[k].callAllowed)
    ∧ (∀ w : ChannelWrite,
      ((checkChannel w).isSome = true ↔
          (1 ≤ w.maxTalkers ∧ w.maxTalkers ≤ 4) ∧ w.level ≤ 16 ∧ w.preemption.isSome = true
            ∧ (w.idleRelease = 0 ∨ (10 ≤ w.idleRelease ∧ w.idleRelease ≤ 3600))
            ∧ 500 ≤ w.callDisplay ∧ w.callDisplay ≤ 10000)
        ∧ ∀ e, checkChannel w = some e →
          e.maxTalkers = w.maxTalkers ∧ e.level = w.level ∧ some e.preemption = w.preemption
            ∧ e.idleRelease = w.idleRelease ∧ e.callDisplay = w.callDisplay)
    ∧ (∀ w : RouterWrite,
      ((checkRouter w).isSome = true ↔ (150 ≤ w.threshold ∧ w.threshold ≤ 1000) ∧ w.holdoff ≤ 2000)
        ∧ ∀ r, checkRouter w = some r → r = { threshold := w.threshold, holdoff := w.holdoff })
    ∧ (∀ i : Nat, noticePlace i =
        if i = 0 then some .global
        else if h : i ≤ 18 then some (.kind ⟨i - 1, by omega⟩)
        else if h : i ≤ 22 then some (.lane ⟨i - 19, by omega⟩) else none)
    ∧ ∀ (c : NoticeControl) (k : NoticeKind) (l : Lane) (hold enable isOpen : Named Bool) (mode : Named LaneMode)
      (lane dest : Nat),
      writeNoticeEntry c .global (.global hold) = hold.map (fun h => { c with hold := h })
        ∧ (3 < lane ∨ enable = none → writeNoticeEntry c (.kind k) (.kind enable lane) = none)
        ∧ (∀ (e : Bool) (x : Lane), enable = some e → lane = x.val →
          writeNoticeEntry c (.kind k) (.kind enable lane) =
            some { c with kinds := put c.kinds k { enable := e, lane := x } })
        ∧ (31 < dest ∨ isOpen = none ∨ mode = none →
          writeNoticeEntry c (.lane l) (.lane dest isOpen mode) = none)
        ∧ (∀ (d : Port) (o : Bool) (m : LaneMode), dest = d.val → isOpen = some o → mode = some m →
          writeNoticeEntry c (.lane l) (.lane dest isOpen mode) =
            some { c with lanes := put c.lanes l { dest := d, isOpen := o, mode := m } })
        ∧ writeNoticeEntry c .global (.kind enable lane) = none
        ∧ writeNoticeEntry c .global (.lane dest isOpen mode) = none
        ∧ writeNoticeEntry c (.kind k) (.global hold) = none
        ∧ writeNoticeEntry c (.kind k) (.lane dest isOpen mode) = none
        ∧ writeNoticeEntry c (.lane l) (.global hold) = none
        ∧ writeNoticeEntry c (.lane l) (.kind enable lane) = none

/-- WRITE_ENTRY of the router settings and of the Channel Table replaces the settings or the entry. A channel that
grows grants its queue in order; one that shrinks below its talkers offers the latest granted to the wait queue, the
earlier of them first: as many as fit into 8 join, each at the front of its class behind those already placed, the rest
are dropped with a DENIED period, and TALK_PREEMPTED is raised for each. WRITE_ENTRY of Notice Control replaces one entry
and tests the waiting notices it reaches, after those that wait for entries that stand freed (log 27). The reply of either
write stands ahead of its notices (log 44); a value outside the rules is refused BAD_VALUE (R114, R115, R116, R119, R121,
R189, R190). -/
def Obligations.NoticeRouterAndChannelWrites : Prop :=
  (∀ (s : State) (p : Port) (tag : Octet), MaySend s p .write →
      (∀ w r, checkRouter w = some r →
          exec (.writeRouterSettings p tag 0 w) s = .next
            ({ s with router := r }.replied p (replyOf 0xA1 tag .ok .nothing)))
        ∧ (∀ w, checkRouter w = none →
          exec (.writeRouterSettings p tag 0 w) s = .next (s.replied p (replyOf 0xA1 tag .badValue .nothing)))
        ∧ ∀ (c : Chan) (w : ChannelWrite),
          (checkChannel w = none →
              exec (.writeChannelEntry p tag (c.val + 1) w) s = .next
                (s.replied p (replyOf 0xA1 tag .badValue .nothing)))
            ∧ ∀ e, checkChannel w = some e →
              let talk := s.talk[c]
              let timer := if e.idleRelease = 0 then none else talk.idle
              let becomes : ChannelTalk → State := fun x =>
                State.replied { s with channels := put s.channels c e, talk := put s.talk c x } p
                  (replyOf 0xA1 tag .ok .nothing)
              let grown := e.maxTalkers - talk.talkers.length
              let excess := talk.talkers.drop e.maxTalkers
              let queued := excess.take (8 - talk.waiters.length)
              let dropped := excess.drop (8 - talk.waiters.length)
              (e.maxTalkers = s.channels[c].maxTalkers →
                  exec (.writeChannelEntry p tag (c.val + 1) w) s = .next (becomes { talk with idle := timer }))
                ∧ (e.maxTalkers ≠ s.channels[c].maxTalkers → talk.talkers.length ≤ e.maxTalkers →
                  exec (.writeChannelEntry p tag (c.val + 1) w) s = .next
                    (becomes
                      { talkers := talk.talkers ++ talk.waiters.take grown
                        waiters := talk.waiters.drop grown
                        idle :=
                          if 0 < grown ∧ talk.waiters ≠ [] ∧ e.idleRelease ≠ 0 then
                            some (s.clock + 8000 * e.idleRelease)
                          else timer }))
                ∧ (e.maxTalkers ≠ s.channels[c].maxTalkers → e.maxTalkers < talk.talkers.length →
                  talk.waiters.Pairwise (fun x y => y.priority ≤ x.priority) →
                  ((talk.talkers ++ talk.waiters).map TalkEntry.port).Nodup →
                  ∃ (waiters : List TalkEntry) (denied : Vector (Vector (Option Time) 4) 32),
                    waiters.Pairwise (fun x y => y.priority ≤ x.priority)
                    ∧ (∀ n : Fin 4, waiters.filter (fun x => x.priority = n) =
                      queued.filter (fun x => x.priority = n) ++ talk.waiters.filter fun x => x.priority = n)
                    ∧ (∀ (q : Port) (k : KeySlot), denied[q][k] =
                      if ∃ x ∈ dropped, x.port = q ∧ x.slot = k then some (s.clock + 8 * 1000) else s.denied[q][k])
                    ∧ exec (.writeChannelEntry p tag (c.val + 1) w) s = .next
                      (State.raised
                        { becomes { talkers := talk.talkers.take e.maxTalkers, waiters := waiters, idle := timer } with
                          denied := denied }
                        (queued.map (fun x => .talkPreempted c x.port .channelWrite .queued) ++
                          dropped.map fun x => .talkPreempted c x.port .channelWrite .dropped))))
    ∧ (∀ (s : State) (p : Port) (tag : Octet) (i : Nat) (place : NoticePlace) (w : NoticeEntryWrite), MaySend s p .write →
        noticePlace i = some place →
        (writeNoticeEntry s.noticeControl place w = none →
            exec (.writeNoticeControl p tag i w) s = .next (s.replied p (replyOf 0xA1 tag .badValue .nothing)))
          ∧ ∀ c, writeNoticeEntry s.noticeControl place w = some c →
            let u : State := (s.replied p (replyOf 0xA1 tag .ok .nothing)).testAll
            exec (.writeNoticeControl p tag i w) s = .next
              (match place with
              | .global => State.testAll { u with noticeControl := c }
              | .kind k => State.testNotice { u with noticeControl := c } k
              | .lane l => State.testLane { u with noticeControl := c } l))

/-- A profile write is tested BAD_VALUE, then LOCKOUT; an accepted one is answered OK and replaces the profile. Where a
slot's channel or mode has changed, the port's entry on the old channel goes, a talker's place is granted to the heads of
the queue, and the slot's DENIED period ends; a slot with another channel, a mode outside LISTEN and TALK_LISTEN, or inert
loses its flash, and one with another channel or no call allowed its holdoff. The change of enabled takes a port to
DISABLED, present or not, wakes a DISABLED one and removes a deferred DISABLE, or is deferred when the port is the sender's
own; nothing else changes. A present port that goes to DISABLED leaves as after link loss, without PORT_DOWN (R25, R118,
R126, R131, R133, R135, R144, R163, R165, R166, R168, R192; the order of its messages is log 11, the reply a second deferral
waits for log 14, the order of a RESTART whose port falls log 16). The model's too: a port that was not present keeps its
sample when it is disabled (log 33), and the reply stands ahead of the desk status and LANE_LOST of the write (log 44). -/
def Obligations.ProfileWriteActsOnThePort : Prop :=
  ∀ (s : State) (p n : Port) (tag : Octet) (w : ProfileWrite), MaySend s p .write →
    (checkProfile w = none →
        exec (.writeProfile p tag n.val w) s = .next (s.replied p (replyOf 0xA1 tag .badValue .nothing)))
      ∧ ∀ f, checkProfile w = some f →
        ((∀ q : Port, (put s.profiles n f)[q].rights.write = false) →
            exec (.writeProfile p tag n.val w) s = .next (s.replied p (replyOf 0xA1 tag .lockout .nothing)))
          ∧ ((∃ q : Port, (put s.profiles n f)[q].rights.write = true) →
            let old := s.profiles[n]
            let rewired : KeySlot → Prop := fun k =>
              old.slots[k].channel ≠ f.slots[k].channel ∨ old.slots[k].mode ≠ f.slots[k].mode
            ∃ (talk : Vector ChannelTalk 16) (denied : Vector (Vector (Option Time) 4) 32)
                (calls : Vector (Vector CallRecord 4) 32),
              (∀ c : Chan, talk[c] =
                if ∃ k, rewired k ∧ old.slots[k].channel = some c then s.talkFreed c n else s.talk[c])
              ∧ (∀ (q : Port) (k : KeySlot), denied[q][k] = if q = n ∧ rewired k then none else s.denied[q][k])
              ∧ (∀ (q : Port) (k : KeySlot), calls[q][k] =
                if q = n then
                  { flash :=
                      if old.slots[k].channel ≠ f.slots[k].channel ∨ f.slots[k].mode = .talk ∨ s.inert n k = true then
                        none
                      else s.calls[q][k].flash
                    holdoff :=
                      if f.slots[k].callAllowed = false ∨ old.slots[k].channel ≠ f.slots[k].channel then none
                      else s.calls[q][k].holdoff }
                else s.calls[q][k])
              ∧ (let u : State :=
                  { s with profiles := put s.profiles n f, talk := talk, denied := denied, calls := calls }
                let becomes : State → Prop := fun x =>
                  exec (.writeProfile p tag n.val w) s = .next (x.replied p (replyOf 0xA1 tag .ok .nothing))
                let st := s.ports[n].state
                (old.enabled = f.enabled → becomes u)
                  ∧ (old.enabled = false → f.enabled = true →
                    (st = .disabled → becomes { u with ports := put s.ports n PortRecord.powerOn })
                      ∧ (st ≠ .disabled → s.ports[n].deferred = some .disable →
                        becomes { u with ports := put s.ports n { s.ports[n] with deferred := none } })
                      ∧ (st ≠ .disabled → s.ports[n].deferred ≠ some .disable → becomes u))
                  ∧ (old.enabled = true → f.enabled = false →
                    (st = .disabled → becomes u)
                      ∧ (n = p →
                        exec (.writeProfile p tag n.val w) s = .next
                          { u with
                            ports := put s.ports n { s.ports[n] with deferred := some .disable }
                            queues := put s.queues p
                              ((s.queues[p].map fun e =>
                                  if e.waits = .deferred then { e with waits := .nothing } else e) ++
                                [{ content := .reply 0xA1 tag .ok .nothing, sent := 0, waits := .deferred }]) })
                      ∧ (st = .down ∨ st = .probing ∨ st = .fault →
                        becomes
                          { u with
                            ports := put s.ports n { PortRecord.powerOn with state := .disabled }
                            assemblies := put s.assemblies n .empty
                            queues := put s.queues n []
                            gaps := put s.gaps n false })
                      ∧ (n ≠ p → s.present n = true → s.restartBy ≠ some n →
                        ∃ t, exec (.writeProfile p tag n.val w) s = .next t ∧ HasLeft u t n .disabled ∧ TablesKept s t
                          ∧ (CueListSound s →
                            HasDeparted (u.replied p (replyOf 0xA1 tag .ok .nothing)) t n .disabled [])
                          ∧ t.profiles = u.profiles
                          ∧ replyOf 0xA1 tag .ok .nothing ∈ t.queues[p]
                          ∧ ∀ q : Port, q ≠ n →
                            t.ports[q] = s.ports[q] ∧ t.samples[q] = s.samples[q] ∧ t.calls[q] = s.calls[q])
                      ∧ (n ≠ p → s.present n = true → s.restartBy = some n → s.loader ≠ .loading →
                        ∃ t, exec (.writeProfile p tag n.val w) s = .next t ∧ HasRestarted u t))))

/-- COPY_LIVE_TO_EDIT replaces the edit bank's four tables by the live bank's and changes nothing else; with a swap
pending it is refused SWAP_PENDING (R104). -/
def Obligations.CopyReplacesTheEditBank : Prop :=
  ∀ (s : State) (p : Port) (tag : Octet), MaySend s p .write →
    (s.swapPending = true →
        exec (.copyLiveToEdit p tag) s = .next (s.replied p (replyOf 0xB0 tag .swapPending .nothing)))
      ∧ (s.swapPending = false →
        exec (.copyLiveToEdit p tag) s = .next
          ({ s with bankA := s.bank s.live, bankB := s.bank s.live }.replied p
            (replyOf 0xB0 tag .ok (.bank s.live false))))

/-- CANCEL_SWAP clears a pending swap and keeps the selector and the edit bank, and is refused NOT_PENDING otherwise
(R107). -/
def Obligations.CancelSwapClearsTheFlag : Prop :=
  ∀ (s : State) (p : Port) (tag : Octet), MaySend s p .write →
    (s.swapPending = false →
        exec (.cancelSwap p tag) s = .next (s.replied p (replyOf 0xB2 tag .notPending (.bank s.live false))))
      ∧ (s.swapPending = true →
        exec (.cancelSwap p tag) s = .next
          ({ s with swapPending := false }.replied p (replyOf 0xB2 tag .ok (.bank s.live false))))

/-- SWAP is refused ALREADY while a swap is pending, sets the flag while a record stands, and otherwise completes at
once; and a removal that empties the list, by the go-display expiry, by CANCEL or by CANCEL(ALL), completes a pending
swap after the desks have been told of the removal: the selector moves, the flag clears, both comparisons are rewound,
the zones are evaluated under the new table with their ZONE_CHANGEs, BANK_SWAPPED is raised with its cause, and the desks
are told of the new live bank (R58, R71, R92, R100, R105, R108, R109; the value that ZONE_CHANGE carries is log 23, the
data of the replies log 17). -/
def Obligations.SwapCompletesOrWaits : Prop :=
  ∀ s : State,
    let new := s.bank s.live.other
    let inside : Vector Bool 6 → Prop := fun o =>
      ∀ z : ZoneNo, o[z] = true ↔
        new.zones[z].valid = true
          ∧ ((s.counter new.zones[z].counter).state = .overrange
            ∨ (new.zones[z].lower ≤ (s.counter new.zones[z].counter).value
              ∧ (s.counter new.zones[z].counter).value ≤ new.zones[z].upper))
    let emptied : State := { s with active := [] }
    (∀ (p : Port) (tag : Octet), MaySend s p .write →
        (s.swapPending = true →
            exec (.swap p tag) s = .next (s.replied p (replyOf 0xB1 tag .already (.bank s.live true))))
          ∧ (s.swapPending = false → s.active ≠ [] →
            exec (.swap p tag) s = .next
              ({ s with swapPending := true }.replied p (replyOf 0xB1 tag .ok (.bank s.live true))))
          ∧ (s.swapPending = false → s.active = [] →
            ∃ o, inside o ∧ exec (.swap p tag) s = .next
              ((s.replied p (replyOf 0xB1 tag .ok (.bank s.live.other false))).swappedTo o .request)))
      ∧ (∀ (slot : CueSlot) (r : ActiveCue) (d : Time), s.active = [r] → r.slot = slot →
        r.goDisplay = some d → d ≤ s.clock → s.swapPending = true →
        ∃ o, inside o ∧ exec (.goDisplayExpiry slot) s = .next ((emptied.told r .done).swappedTo o .drain))
      ∧ (∀ (p : Port) (tag : Octet) (r : ActiveCue), MaySend s p .cue → s.active = [r] → r.state ≠ .going →
        s.swapPending = true →
        ∃ o, inside o ∧ exec (.cancel p tag r.slot) s = .next
          (((emptied.replied p (replyOf 0x95 tag .ok (.slot r.slot))).told r .cancelled).swappedTo o .drain))
      ∧ ∀ (p : Port) (tag : Octet), MaySend s p .cue → CueListSound s → s.active ≠ [] →
        (∀ r ∈ s.active, r.state ≠ .going) → s.swapPending = true →
        ∃ o, inside o ∧ exec (.cancelAll p tag) s = .next
          (((emptied.replied p (replyOf 0x95 tag .ok .nothing)).toldCancelled s.active).swappedTo o .drain)

/-! ## Port control, NOTICE_CONTROL and STATUS -/

/-- PORT_CONTROL: each command in each port state, its refusals, a port number above 31, and the deferral of DISABLE and
RESTART of the sender's own port: DISABLE replaces a deferred RESTART, and RESTART leaves a deferred DISABLE, which also
takes the port to DISABLED when another port's RESTART makes it fall. A present port that DISABLE or RESTART takes down
leaves as after link loss, without PORT_DOWN for DISABLE; QUIET takes the port's talk entries, with the grants behind them,
and its DENIED periods, and nothing else (R25, R126, R131, R133, R167, R168, R192; the order of the messages is log 11,
which reply a second deferral waits for log 14, its PORT_DOWN log 15, the order of a RESTART whose port falls log 16). That
a port which was not present keeps its sample through DISABLE and RESTART is log 33. -/
def Obligations.PortControlByPortState : Prop :=
  ∀ (s : State) (p n : Port) (tag : Octet), MaySend s p .write →
    let st := s.ports[n].state
    let refused : Instr → Status → Prop := fun cmd code =>
      exec cmd s = .next (s.replied p (replyOf 0xC8 tag code .nothing))
    let off : State := { s with profiles := put s.profiles n { s.profiles[n] with enabled := false } }
    let cleared : State → PortState → State := fun u x =>
      { u with
        ports := put s.ports n { PortRecord.powerOn with state := x }
        assemblies := put s.assemblies n .empty
        queues := put s.queues n []
        gaps := put s.gaps n false }
    let target : PortState := if s.ports[n].deferred = some .disable then .disabled else .down
    let deferring : State → Deferred → PortState → State := fun u d x =>
      { u with
        ports := put s.ports n { s.ports[n] with deferred := some d }
        queues := put s.queues p
          ((s.queues[p].map fun e => if e.waits = .deferred then { e with waits := .nothing } else e) ++
            [{ content := .reply 0xC8 tag .ok (.portState x), sent := 0, waits := .deferred }]) }
    (∀ m, 31 < m → ∀ cmd ∈ [Instr.enable p tag m, .disable p tag m, .quiet p tag m, .unquiet p tag m,
        .portRestart p tag m], refused cmd .badIndex)
      ∧ (st ≠ .disabled → refused (.enable p tag n.val) .already)
      ∧ (st = .disabled → refused (.disable p tag n.val) .already ∧ refused (.portRestart p tag n.val) .busy
        ∧ exec (.enable p tag n.val) s = .next
          ({ s with
              profiles := put s.profiles n { s.profiles[n] with enabled := true }
              ports := put s.ports n PortRecord.powerOn }.replied p (replyOf 0xC8 tag .ok (.portState .down))))
      ∧ (st = .down ∨ st = .probing ∨ st = .fault →
        exec (.disable p tag n.val) s = .next
            ((cleared off .disabled).replied p (replyOf 0xC8 tag .ok (.portState .disabled)))
          ∧ exec (.portRestart p tag n.val) s = .next
            ((cleared s target).replied p (replyOf 0xC8 tag .ok (.portState target))))
      ∧ (st ≠ .up → st ≠ .quiet → refused (.quiet p tag n.val) .busy ∧ refused (.unquiet p tag n.val) .busy)
      ∧ (st = .quiet → refused (.quiet p tag n.val) .already
        ∧ exec (.unquiet p tag n.val) s = .next
          ({ s with ports := put s.ports n { s.ports[n] with state := .up } }.replied p
            (replyOf 0xC8 tag .ok (.portState .up))))
      ∧ (st = .up → refused (.unquiet p tag n.val) .already
        ∧ ∃ t, exec (.quiet p tag n.val) s = .next t
          ∧ t.ports = put s.ports n { s.ports[n] with state := .quiet }
          ∧ (∀ c : Chan, t.talk[c] = s.talkFreed c n ∧ ∀ e ∈ t.talk[c].talkers ++ t.talk[c].waiters, e.port ≠ n)
          ∧ t.denied = put s.denied n (Vector.replicate 4 none)
          ∧ t = { s with ports := t.ports, talk := t.talk, denied := t.denied }.replied p
              (replyOf 0xC8 tag .ok (.portState .quiet)))
      ∧ (n ≠ p → s.present n = true → s.restartBy ≠ some n →
        (∃ t, exec (.disable p tag n.val) s = .next t ∧ HasLeft s t n .disabled ∧ TablesKept s t
            ∧ (CueListSound s →
              HasDeparted (off.replied p (replyOf 0xC8 tag .ok (.portState .disabled))) t n .disabled [])
            ∧ t.profiles = off.profiles ∧ replyOf 0xC8 tag .ok (.portState .disabled) ∈ t.queues[p])
          ∧ ∃ t, exec (.portRestart p tag n.val) s = .next t ∧ HasLeft s t n target ∧ TablesKept s t
            ∧ (CueListSound s →
              HasDeparted (s.replied p (replyOf 0xC8 tag .ok (.portState target))) t n target
                [.portDown n .portRestart])
            ∧ t.profiles = s.profiles ∧ replyOf 0xC8 tag .ok (.portState target) ∈ t.queues[p]
            ∧ t.notices[(1 : NoticeKind)].detail = some (.portDown n .portRestart))
      ∧ (n ≠ p → s.present n = true → s.restartBy = some n → s.loader ≠ .loading →
        (∃ t, exec (.disable p tag n.val) s = .next t ∧ HasRestarted off t)
          ∧ ∃ t, exec (.portRestart p tag n.val) s = .next t ∧ HasRestarted s t)
      ∧ (n = p →
        exec (.disable p tag n.val) s = .next (deferring off .disable .disabled)
          ∧ (s.ports[n].deferred ≠ some .disable →
            exec (.portRestart p tag n.val) s = .next (deferring s .restart .down))
          ∧ (s.ports[n].deferred = some .disable →
            exec (.portRestart p tag n.val) s = .next (s.replied p (replyOf 0xC8 tag .ok (.portState .disabled)))))

/-- NOTICE_CONTROL: HOLD, UNHOLD, CLEAR, OPEN and CLOSE with their refusals; UNHOLD tests every waiting notice, and OPEN
those of its lane, after those that wait for entries that stand freed (log 27); the reply stands ahead of what they build
(R190, R193). -/
def Obligations.NoticeControlCommands : Prop :=
  ∀ (s : State) (p : Port) (tag : Octet), MaySend s p .write →
    let refused : Instr → Status → Prop := fun cmd st =>
      exec cmd s = .next (s.replied p (replyOf 0xD0 tag st .nothing))
    let answered := s.replied p (replyOf 0xD0 tag .ok .nothing)
    let held : State → Bool → State := fun u h => { u with noticeControl := { s.noticeControl with hold := h } }
    let opened : State → Lane → Bool → State := fun u l o =>
      { u with
        noticeControl := { s.noticeControl with
          lanes := put s.noticeControl.lanes l { s.noticeControl.lanes[l] with isOpen := o } } }
    (s.noticeControl.hold = true → refused (.noticeHold p tag none) .already
        ∧ exec (.noticeUnhold p tag none) s = .next (held answered false).testAll)
      ∧ (s.noticeControl.hold = false → refused (.noticeUnhold p tag none) .already
        ∧ exec (.noticeHold p tag none) s = .next (held answered true))
      ∧ (∀ x, refused (.noticeHold p tag (some x)) .badValue ∧ refused (.noticeUnhold p tag (some x)) .badValue)
      ∧ refused (.noticeClear p tag none) .badValue ∧ refused (.noticeOpen p tag none) .badValue
      ∧ refused (.noticeClose p tag none) .badValue
      ∧ (∀ n, n = 0 ∨ 18 < n → refused (.noticeClear p tag (some n)) .badIndex)
      ∧ (∀ n, 3 < n → refused (.noticeOpen p tag (some n)) .badIndex
        ∧ refused (.noticeClose p tag (some n)) .badIndex)
      ∧ (∀ k : NoticeKind, exec (.noticeClear p tag (some (k.val + 1))) s = .next
        ({ s with
            notices := put s.notices k { s.notices[k] with pending := false, sent := false, count := 0 } }.replied p
          (replyOf 0xD0 tag .ok .nothing)))
      ∧ ∀ l : Lane,
        (s.noticeControl.lanes[l].isOpen = true → refused (.noticeOpen p tag (some l.val)) .already
            ∧ exec (.noticeClose p tag (some l.val)) s = .next
              (opened answered l false))
          ∧ (s.noticeControl.lanes[l].isOpen = false → refused (.noticeClose p tag (some l.val)) .already
            ∧ exec (.noticeOpen p tag (some l.val)) s = .next ((opened answered.testAll l true).testLane l))

/-- STATUS answers with the subject's fields as they stand and changes nothing but the reader's queue; a selector out of
range is refused BAD_INDEX and a subject or command outside the named ones BAD_VALUE (R94, R167, R184, R193; the model's
choices in it are log 24, log 26 and log 39). -/
def Obligations.StatusReportsTheSubject : Prop :=
  ∀ (s : State) (p : Port) (tag : Octet),
    (MaySend s p .read →
      let answers : Instr → Status → ReplyData → Prop := fun cmd st d =>
        exec cmd s = .next (s.replied p (replyOf 0xD8 tag st d))
      let left : Option Time → Option Time := fun d => d.map fun x => x - s.clock
      (∀ i : Fin 8, answers (.statusActiveList p tag i.val) .ok
          (.activeList s.live s.swapPending (s.active.map fun r => (r.slot, r.state))
            ((s.active[i.val]?).map fun r =>
              { slot := r.slot, state := r.state, prior := r.prior, awaited := r.awaited, acked := r.acked,
                absent := r.absent, overdue := r.overdue, unready := r.unready, origin := r.origin,
                ackLeft := left r.ackDeadline, followLeft := left r.followDeadline, remaining := r.remaining,
                goDisplayLeft := left r.goDisplay })))
        ∧ (∀ c : Chan, answers (.statusChannel p tag (c.val + 1)) .ok
          (.channelStatus s.channels[c] (s.talk[c].talkers.map TalkEntry.view) (s.talk[c].waiters.map TalkEntry.view)
            (left s.talk[c].idle)))
        ∧ (∀ n : Port, answers (.statusPort p tag n.val) .ok
          (.portStatus
            { state := s.ports[n].state, lossCount := s.ports[n].lossCount, ident := s.ports[n].ident,
              asksSent := s.ports[n].asksSent, askLeft := left s.ports[n].askDeadline,
              deferred := s.ports[n].deferred, cueLamp := s.cueLamp n, lamps := s.shown[n],
              calls := s.calls[n].toList.map fun r =>
                { caller := r.flash.map Flash.caller, displayLeft := left (r.flash.map Flash.deadline),
                  holdoffLeft := left r.holdoff },
              queued := s.queues[n].length + if n = p then 1 else 0 }))
        ∧ (∀ c : CounterId, answers (.statusCounter p tag (some c)) .ok
          (.counterStatus
            { value := (s.counter c).value, state := (s.counter c).state, mode := (s.counter c).mode,
              preset := (s.counter c).preset, arm := (s.counter c).arm, comparison := (s.counter c).comparison,
              index := (s.counter c).index, length := s.listLength c,
              zones := ((List.finRange 6).filter fun z =>
                s.liveTables.zones[z].valid && s.liveTables.zones[z].counter == c).map fun z => (z, s.occupied[z]) }))
        ∧ (∀ k : NoticeKind, answers (.statusNotice p tag (k.val + 1)) .ok
          (.noticeStatus s.notices[k] s.noticeControl.kinds[k].enable s.noticeControl.kinds[k].lane
            s.noticeControl.hold))
        ∧ (∀ n, 7 < n → answers (.statusActiveList p tag n) .badIndex .nothing)
        ∧ (∀ n, n = 0 ∨ 16 < n → answers (.statusChannel p tag n) .badIndex .nothing)
        ∧ (∀ n, 31 < n → answers (.statusPort p tag n) .badIndex .nothing)
        ∧ answers (.statusCounter p tag none) .badIndex .nothing
        ∧ (∀ n, n = 0 ∨ 18 < n → answers (.statusNotice p tag n) .badIndex .nothing)
        ∧ answers (.unnamedSubjectOrCommand p tag .status) .badValue .nothing)
      ∧ (MaySend s p .write →
        exec (.unnamedSubjectOrCommand p tag .port) s = .next (s.replied p (replyOf 0xC8 tag .badValue .nothing))
          ∧ exec (.unnamedSubjectOrCommand p tag .notice) s = .next
            (s.replied p (replyOf 0xD0 tag .badValue .nothing))
          ∧ ∀ c : CounterId, exec (.unnamedSubjectOrCommand p tag (.counter (some c))) s = .next
            (s.replied p (replyOf 0xC0 tag .badValue
              (.counter (s.counter c).value (s.counter c).state (s.counter c).comparison (s.counter c).index))))

/-! ## What every step keeps -/

/-- A port's transmit queue holds at most 8 messages, none of them a reservation left open (R179, R181). -/
def Obligations.StepKeepsQueuesBounded : Prop :=
  ∀ s t : State, QueuesBounded s → NoneReserved s → step s = .next t → QueuesBounded t ∧ NoneReserved t

/-- A notice record's count lies within 0–255, at least one profile holds WRITE, and a counter's value lies within
−999,999 to +999,999 (R76, R78, R165, R187). -/
def Obligations.StepKeepsRangesAndAWriter : Prop :=
  (∀ s t : State, CountsBounded s → WriterHeld s → step s = .next t → CountsBounded t ∧ WriterHeld t)
    ∧ (∀ s t : State, CountersInRange s → step s = .next t → CountersInRange t)

/-- The Active Cue List holds at most 8 records, no two of one slot, and at least one while a swap is pending (R13,
R106). -/
def Obligations.StepKeepsTheCueListSound : Prop :=
  ∀ s t : State, CueListSound s → step s = .next t → CueListSound t

/-- The three sets of every record are disjoint, make up its targets, and hold awaited and acked ports present (R15). -/
def Obligations.StepKeepsTheCueSetsSound : Prop :=
  ∀ s t : State, CueListSound s → CueSetsSound s → step s = .next t → CueSetsSound t

/-- The current index is at most the length of the live list, equal to it in EXHAUSTED and below it in RUNNING (R86,
R87). -/
def Obligations.StepKeepsComparisonsSound : Prop :=
  ∀ s t : State, ComparisonsSound s → step s = .next t → ComparisonsSound t

/-- A talker list holds no more entries than the channel's max talkers and a wait queue no more than 8 (R120). -/
def Obligations.StepKeepsTalkBounded : Prop :=
  ∀ s t : State, TalkBounded s → step s = .next t → TalkBounded t

/-- The live bank's tables change only at swap completion and at power-on loading: any other command leaves them, or is a
SWAP, a removal or a frame that carries such a request, has moved the selector to the other bank, whose tables then serve
as they stood, and leaves the list empty and no swap pending, the list having been empty or a swap pending before
(R101). -/
def Obligations.LiveTablesChangeOnlyAtSwapOrLoad : Prop :=
  ∀ (s t : State) (c : Instr), (∀ answered, c ≠ .loadEnd answered) → c ≠ .powerOn → c ≠ .powerLoss →
    exec c s = .next t →
    (t.live = s.live ∧ t.bank t.live = s.bank s.live)
      ∨ (t.live = s.live.other ∧ t.swapPending = false ∧ t.bank t.live = s.bank s.live.other ∧ t.active = []
        ∧ (s.active = [] ∨ s.swapPending = true)
        ∧ ((∃ p tag, c = .swap p tag ∨ c = .cancelAll p tag ∨ ∃ slot, c = .cancel p tag slot)
          ∨ (∃ slot, c = .goDisplayExpiry slot)
          ∨ ∃ p f, c = .goodFrame p f ∨ c = .frameDiscarded p f))
end

