-- ==== Sys2Proof/Laws/State.lean ====
section
/-! SUPPORT. What each named update of the state leaves in each field: one fact per field, so that no proof unfolds a
record update. -/

namespace Sys2Proof.Machine

/-- Reading a fixed table after one entry has been replaced. -/
@[simp] theorem get_put {α : Type} {n : Nat} (v : Vector α n) (i j : Fin n) (x : α) :
    (put v i x)[j] = if j = i then x else v[j] := by
  simp only [put, Fin.getElem_fin, Vector.getElem_set, Fin.ext_iff, eq_comm]

/-- Reading a fixed table at a number after one entry has been replaced. -/
@[simp] theorem getElem_put {α : Type} {n : Nat} (v : Vector α n) (i : Fin n) (x : α) (k : Nat) (h : k < n) :
    (put v i x)[k] = if k = i.val then x else v[k] := by
  simp only [put, Vector.getElem_set, eq_comm]

/-- Replacing an entry by itself changes nothing. -/
@[simp] theorem put_getElem {α : Type} {n : Nat} (v : Vector α n) (i : Fin n) : put v i v[i.val] = v := by
  simp [put]

/-- Replacing an entry by itself changes nothing. -/
@[simp] theorem put_get {α : Type} {n : Nat} (v : Vector α n) (i : Fin n) : put v i v[i] = v := by
  simp [put]

/-- The second of two replacements of one entry stands. -/
@[simp] theorem put_put {α : Type} {n : Nat} (v : Vector α n) (i : Fin n) (x y : α) : put (put v i x) i y = put v i y := by
  simp [put]

/-- Replacements of different entries commute. -/
theorem put_comm {α : Type} {n : Nat} (v : Vector α n) {i j : Fin n} (h : i ≠ j) (x y : α) :
    put (put v i x) j y = put (put v j y) i x := by
  apply Vector.ext
  intro k hk
  simp only [getElem_put]
  by_cases hj : k = j.val
  · by_cases hi : k = i.val
    · exact absurd (Fin.ext (hi.symm.trans hj)) h
    · rw [if_pos hj, if_neg hi, if_pos hj]
  · rw [if_neg hj, if_neg hj]

/-- What setPort leaves in each field. -/
@[simp] theorem setPort_fields (s : State) (p : Port) (x : PortRecord) :
    (s.setPort p x).pending = s.pending ∧ (s.setPort p x).powered = s.powered ∧ (s.setPort p x).clock = s.clock
      ∧ (s.setPort p x).fresh = s.fresh ∧ (s.setPort p x).ports = put s.ports p x
      ∧ (s.setPort p x).assemblies = s.assemblies ∧ (s.setPort p x).queues = s.queues ∧ (s.setPort p x).gaps = s.gaps
      ∧ (s.setPort p x).restartBy = s.restartBy ∧ (s.setPort p x).profiles = s.profiles
      ∧ (s.setPort p x).bankA = s.bankA ∧ (s.setPort p x).bankB = s.bankB ∧ (s.setPort p x).live = s.live
      ∧ (s.setPort p x).swapPending = s.swapPending ∧ (s.setPort p x).active = s.active
      ∧ (s.setPort p x).counters = s.counters ∧ (s.setPort p x).pins = s.pins ∧ (s.setPort p x).occupied = s.occupied
      ∧ (s.setPort p x).channels = s.channels ∧ (s.setPort p x).router = s.router ∧ (s.setPort p x).talk = s.talk
      ∧ (s.setPort p x).denied = s.denied ∧ (s.setPort p x).calls = s.calls ∧ (s.setPort p x).samples = s.samples
      ∧ (s.setPort p x).shown = s.shown ∧ (s.setPort p x).line = s.line ∧ (s.setPort p x).notices = s.notices
      ∧ (s.setPort p x).noticeControl = s.noticeControl ∧ (s.setPort p x).loader = s.loader
      ∧ (s.setPort p x).save = s.save ∧ (s.setPort p x).store = s.store := by
  simp only [State.setPort, and_self]

/-- What setAssembly leaves in each field. -/
@[simp] theorem setAssembly_fields (s : State) (p : Port) (x : Assembly) :
    (s.setAssembly p x).pending = s.pending ∧ (s.setAssembly p x).powered = s.powered
      ∧ (s.setAssembly p x).clock = s.clock ∧ (s.setAssembly p x).fresh = s.fresh
      ∧ (s.setAssembly p x).ports = s.ports ∧ (s.setAssembly p x).assemblies = put s.assemblies p x
      ∧ (s.setAssembly p x).queues = s.queues ∧ (s.setAssembly p x).gaps = s.gaps
      ∧ (s.setAssembly p x).restartBy = s.restartBy ∧ (s.setAssembly p x).profiles = s.profiles
      ∧ (s.setAssembly p x).bankA = s.bankA ∧ (s.setAssembly p x).bankB = s.bankB ∧ (s.setAssembly p x).live = s.live
      ∧ (s.setAssembly p x).swapPending = s.swapPending ∧ (s.setAssembly p x).active = s.active
      ∧ (s.setAssembly p x).counters = s.counters ∧ (s.setAssembly p x).pins = s.pins
      ∧ (s.setAssembly p x).occupied = s.occupied ∧ (s.setAssembly p x).channels = s.channels
      ∧ (s.setAssembly p x).router = s.router ∧ (s.setAssembly p x).talk = s.talk
      ∧ (s.setAssembly p x).denied = s.denied ∧ (s.setAssembly p x).calls = s.calls
      ∧ (s.setAssembly p x).samples = s.samples ∧ (s.setAssembly p x).shown = s.shown
      ∧ (s.setAssembly p x).line = s.line ∧ (s.setAssembly p x).notices = s.notices
      ∧ (s.setAssembly p x).noticeControl = s.noticeControl ∧ (s.setAssembly p x).loader = s.loader
      ∧ (s.setAssembly p x).save = s.save ∧ (s.setAssembly p x).store = s.store := by
  simp only [State.setAssembly, and_self]

/-- What setQueue leaves in each field. -/
@[simp] theorem setQueue_fields (s : State) (p : Port) (x : List TxEntry) :
    (s.setQueue p x).pending = s.pending ∧ (s.setQueue p x).powered = s.powered ∧ (s.setQueue p x).clock = s.clock
      ∧ (s.setQueue p x).fresh = s.fresh ∧ (s.setQueue p x).ports = s.ports
      ∧ (s.setQueue p x).assemblies = s.assemblies ∧ (s.setQueue p x).queues = put s.queues p x
      ∧ (s.setQueue p x).gaps = s.gaps ∧ (s.setQueue p x).restartBy = s.restartBy
      ∧ (s.setQueue p x).profiles = s.profiles ∧ (s.setQueue p x).bankA = s.bankA ∧ (s.setQueue p x).bankB = s.bankB
      ∧ (s.setQueue p x).live = s.live ∧ (s.setQueue p x).swapPending = s.swapPending
      ∧ (s.setQueue p x).active = s.active ∧ (s.setQueue p x).counters = s.counters ∧ (s.setQueue p x).pins = s.pins
      ∧ (s.setQueue p x).occupied = s.occupied ∧ (s.setQueue p x).channels = s.channels
      ∧ (s.setQueue p x).router = s.router ∧ (s.setQueue p x).talk = s.talk ∧ (s.setQueue p x).denied = s.denied
      ∧ (s.setQueue p x).calls = s.calls ∧ (s.setQueue p x).samples = s.samples ∧ (s.setQueue p x).shown = s.shown
      ∧ (s.setQueue p x).line = s.line ∧ (s.setQueue p x).notices = s.notices
      ∧ (s.setQueue p x).noticeControl = s.noticeControl ∧ (s.setQueue p x).loader = s.loader
      ∧ (s.setQueue p x).save = s.save ∧ (s.setQueue p x).store = s.store := by
  simp only [State.setQueue, and_self]

/-- What setGap leaves in each field. -/
@[simp] theorem setGap_fields (s : State) (p : Port) (x : Bool) :
    (s.setGap p x).pending = s.pending ∧ (s.setGap p x).powered = s.powered ∧ (s.setGap p x).clock = s.clock
      ∧ (s.setGap p x).fresh = s.fresh ∧ (s.setGap p x).ports = s.ports ∧ (s.setGap p x).assemblies = s.assemblies
      ∧ (s.setGap p x).queues = s.queues ∧ (s.setGap p x).gaps = put s.gaps p x
      ∧ (s.setGap p x).restartBy = s.restartBy ∧ (s.setGap p x).profiles = s.profiles ∧ (s.setGap p x).bankA = s.bankA
      ∧ (s.setGap p x).bankB = s.bankB ∧ (s.setGap p x).live = s.live ∧ (s.setGap p x).swapPending = s.swapPending
      ∧ (s.setGap p x).active = s.active ∧ (s.setGap p x).counters = s.counters ∧ (s.setGap p x).pins = s.pins
      ∧ (s.setGap p x).occupied = s.occupied ∧ (s.setGap p x).channels = s.channels ∧ (s.setGap p x).router = s.router
      ∧ (s.setGap p x).talk = s.talk ∧ (s.setGap p x).denied = s.denied ∧ (s.setGap p x).calls = s.calls
      ∧ (s.setGap p x).samples = s.samples ∧ (s.setGap p x).shown = s.shown ∧ (s.setGap p x).line = s.line
      ∧ (s.setGap p x).notices = s.notices ∧ (s.setGap p x).noticeControl = s.noticeControl
      ∧ (s.setGap p x).loader = s.loader ∧ (s.setGap p x).save = s.save ∧ (s.setGap p x).store = s.store := by
  simp only [State.setGap, and_self]

/-- What setProfile leaves in each field. -/
@[simp] theorem setProfile_fields (s : State) (p : Port) (x : Profile) :
    (s.setProfile p x).pending = s.pending ∧ (s.setProfile p x).powered = s.powered
      ∧ (s.setProfile p x).clock = s.clock ∧ (s.setProfile p x).fresh = s.fresh ∧ (s.setProfile p x).ports = s.ports
      ∧ (s.setProfile p x).assemblies = s.assemblies ∧ (s.setProfile p x).queues = s.queues
      ∧ (s.setProfile p x).gaps = s.gaps ∧ (s.setProfile p x).restartBy = s.restartBy
      ∧ (s.setProfile p x).profiles = put s.profiles p x ∧ (s.setProfile p x).bankA = s.bankA
      ∧ (s.setProfile p x).bankB = s.bankB ∧ (s.setProfile p x).live = s.live
      ∧ (s.setProfile p x).swapPending = s.swapPending ∧ (s.setProfile p x).active = s.active
      ∧ (s.setProfile p x).counters = s.counters ∧ (s.setProfile p x).pins = s.pins
      ∧ (s.setProfile p x).occupied = s.occupied ∧ (s.setProfile p x).channels = s.channels
      ∧ (s.setProfile p x).router = s.router ∧ (s.setProfile p x).talk = s.talk ∧ (s.setProfile p x).denied = s.denied
      ∧ (s.setProfile p x).calls = s.calls ∧ (s.setProfile p x).samples = s.samples
      ∧ (s.setProfile p x).shown = s.shown ∧ (s.setProfile p x).line = s.line ∧ (s.setProfile p x).notices = s.notices
      ∧ (s.setProfile p x).noticeControl = s.noticeControl ∧ (s.setProfile p x).loader = s.loader
      ∧ (s.setProfile p x).save = s.save ∧ (s.setProfile p x).store = s.store := by
  simp only [State.setProfile, and_self]

/-- What setActive leaves in each field. -/
@[simp] theorem setActive_fields (s : State) (x : List ActiveCue) :
    (s.setActive x).pending = s.pending ∧ (s.setActive x).powered = s.powered ∧ (s.setActive x).clock = s.clock
      ∧ (s.setActive x).fresh = s.fresh ∧ (s.setActive x).ports = s.ports ∧ (s.setActive x).assemblies = s.assemblies
      ∧ (s.setActive x).queues = s.queues ∧ (s.setActive x).gaps = s.gaps ∧ (s.setActive x).restartBy = s.restartBy
      ∧ (s.setActive x).profiles = s.profiles ∧ (s.setActive x).bankA = s.bankA ∧ (s.setActive x).bankB = s.bankB
      ∧ (s.setActive x).live = s.live ∧ (s.setActive x).swapPending = s.swapPending ∧ (s.setActive x).active = x
      ∧ (s.setActive x).counters = s.counters ∧ (s.setActive x).pins = s.pins ∧ (s.setActive x).occupied = s.occupied
      ∧ (s.setActive x).channels = s.channels ∧ (s.setActive x).router = s.router ∧ (s.setActive x).talk = s.talk
      ∧ (s.setActive x).denied = s.denied ∧ (s.setActive x).calls = s.calls ∧ (s.setActive x).samples = s.samples
      ∧ (s.setActive x).shown = s.shown ∧ (s.setActive x).line = s.line ∧ (s.setActive x).notices = s.notices
      ∧ (s.setActive x).noticeControl = s.noticeControl ∧ (s.setActive x).loader = s.loader
      ∧ (s.setActive x).save = s.save ∧ (s.setActive x).store = s.store := by
  simp only [State.setActive, and_self]

/-- What setCounter leaves in each field. -/
@[simp] theorem setCounter_fields (s : State) (c : CounterId) (x : Counter) :
    (s.setCounter c x).pending = s.pending ∧ (s.setCounter c x).powered = s.powered
      ∧ (s.setCounter c x).clock = s.clock ∧ (s.setCounter c x).fresh = s.fresh ∧ (s.setCounter c x).ports = s.ports
      ∧ (s.setCounter c x).assemblies = s.assemblies ∧ (s.setCounter c x).queues = s.queues
      ∧ (s.setCounter c x).gaps = s.gaps ∧ (s.setCounter c x).restartBy = s.restartBy
      ∧ (s.setCounter c x).profiles = s.profiles ∧ (s.setCounter c x).bankA = s.bankA
      ∧ (s.setCounter c x).bankB = s.bankB ∧ (s.setCounter c x).live = s.live
      ∧ (s.setCounter c x).swapPending = s.swapPending ∧ (s.setCounter c x).active = s.active
      ∧ (s.setCounter c x).counters = put s.counters (State.counterIdx c) x ∧ (s.setCounter c x).pins = s.pins
      ∧ (s.setCounter c x).occupied = s.occupied ∧ (s.setCounter c x).channels = s.channels
      ∧ (s.setCounter c x).router = s.router ∧ (s.setCounter c x).talk = s.talk ∧ (s.setCounter c x).denied = s.denied
      ∧ (s.setCounter c x).calls = s.calls ∧ (s.setCounter c x).samples = s.samples
      ∧ (s.setCounter c x).shown = s.shown ∧ (s.setCounter c x).line = s.line ∧ (s.setCounter c x).notices = s.notices
      ∧ (s.setCounter c x).noticeControl = s.noticeControl ∧ (s.setCounter c x).loader = s.loader
      ∧ (s.setCounter c x).save = s.save ∧ (s.setCounter c x).store = s.store := by
  simp only [State.setCounter, and_self]

/-- What setPins leaves in each field. -/
@[simp] theorem setPins_fields (s : State) (c : CounterId) (x : Levels) :
    (s.setPins c x).pending = s.pending ∧ (s.setPins c x).powered = s.powered ∧ (s.setPins c x).clock = s.clock
      ∧ (s.setPins c x).fresh = s.fresh ∧ (s.setPins c x).ports = s.ports ∧ (s.setPins c x).assemblies = s.assemblies
      ∧ (s.setPins c x).queues = s.queues ∧ (s.setPins c x).gaps = s.gaps ∧ (s.setPins c x).restartBy = s.restartBy
      ∧ (s.setPins c x).profiles = s.profiles ∧ (s.setPins c x).bankA = s.bankA ∧ (s.setPins c x).bankB = s.bankB
      ∧ (s.setPins c x).live = s.live ∧ (s.setPins c x).swapPending = s.swapPending
      ∧ (s.setPins c x).active = s.active ∧ (s.setPins c x).counters = s.counters
      ∧ (s.setPins c x).pins = put s.pins (State.counterIdx c) x ∧ (s.setPins c x).occupied = s.occupied
      ∧ (s.setPins c x).channels = s.channels ∧ (s.setPins c x).router = s.router ∧ (s.setPins c x).talk = s.talk
      ∧ (s.setPins c x).denied = s.denied ∧ (s.setPins c x).calls = s.calls ∧ (s.setPins c x).samples = s.samples
      ∧ (s.setPins c x).shown = s.shown ∧ (s.setPins c x).line = s.line ∧ (s.setPins c x).notices = s.notices
      ∧ (s.setPins c x).noticeControl = s.noticeControl ∧ (s.setPins c x).loader = s.loader
      ∧ (s.setPins c x).save = s.save ∧ (s.setPins c x).store = s.store := by
  simp only [State.setPins, and_self]

/-- What setOccupied leaves in each field. -/
@[simp] theorem setOccupied_fields (s : State) (z : ZoneNo) (x : Bool) :
    (s.setOccupied z x).pending = s.pending ∧ (s.setOccupied z x).powered = s.powered
      ∧ (s.setOccupied z x).clock = s.clock ∧ (s.setOccupied z x).fresh = s.fresh
      ∧ (s.setOccupied z x).ports = s.ports ∧ (s.setOccupied z x).assemblies = s.assemblies
      ∧ (s.setOccupied z x).queues = s.queues ∧ (s.setOccupied z x).gaps = s.gaps
      ∧ (s.setOccupied z x).restartBy = s.restartBy ∧ (s.setOccupied z x).profiles = s.profiles
      ∧ (s.setOccupied z x).bankA = s.bankA ∧ (s.setOccupied z x).bankB = s.bankB ∧ (s.setOccupied z x).live = s.live
      ∧ (s.setOccupied z x).swapPending = s.swapPending ∧ (s.setOccupied z x).active = s.active
      ∧ (s.setOccupied z x).counters = s.counters ∧ (s.setOccupied z x).pins = s.pins
      ∧ (s.setOccupied z x).occupied = put s.occupied z x ∧ (s.setOccupied z x).channels = s.channels
      ∧ (s.setOccupied z x).router = s.router ∧ (s.setOccupied z x).talk = s.talk
      ∧ (s.setOccupied z x).denied = s.denied ∧ (s.setOccupied z x).calls = s.calls
      ∧ (s.setOccupied z x).samples = s.samples ∧ (s.setOccupied z x).shown = s.shown
      ∧ (s.setOccupied z x).line = s.line ∧ (s.setOccupied z x).notices = s.notices
      ∧ (s.setOccupied z x).noticeControl = s.noticeControl ∧ (s.setOccupied z x).loader = s.loader
      ∧ (s.setOccupied z x).save = s.save ∧ (s.setOccupied z x).store = s.store := by
  simp only [State.setOccupied, and_self]

/-- What setTalk leaves in each field. -/
@[simp] theorem setTalk_fields (s : State) (c : Chan) (x : ChannelTalk) :
    (s.setTalk c x).pending = s.pending ∧ (s.setTalk c x).powered = s.powered ∧ (s.setTalk c x).clock = s.clock
      ∧ (s.setTalk c x).fresh = s.fresh ∧ (s.setTalk c x).ports = s.ports ∧ (s.setTalk c x).assemblies = s.assemblies
      ∧ (s.setTalk c x).queues = s.queues ∧ (s.setTalk c x).gaps = s.gaps ∧ (s.setTalk c x).restartBy = s.restartBy
      ∧ (s.setTalk c x).profiles = s.profiles ∧ (s.setTalk c x).bankA = s.bankA ∧ (s.setTalk c x).bankB = s.bankB
      ∧ (s.setTalk c x).live = s.live ∧ (s.setTalk c x).swapPending = s.swapPending
      ∧ (s.setTalk c x).active = s.active ∧ (s.setTalk c x).counters = s.counters ∧ (s.setTalk c x).pins = s.pins
      ∧ (s.setTalk c x).occupied = s.occupied ∧ (s.setTalk c x).channels = s.channels
      ∧ (s.setTalk c x).router = s.router ∧ (s.setTalk c x).talk = put s.talk c x ∧ (s.setTalk c x).denied = s.denied
      ∧ (s.setTalk c x).calls = s.calls ∧ (s.setTalk c x).samples = s.samples ∧ (s.setTalk c x).shown = s.shown
      ∧ (s.setTalk c x).line = s.line ∧ (s.setTalk c x).notices = s.notices
      ∧ (s.setTalk c x).noticeControl = s.noticeControl ∧ (s.setTalk c x).loader = s.loader
      ∧ (s.setTalk c x).save = s.save ∧ (s.setTalk c x).store = s.store := by
  simp only [State.setTalk, and_self]

/-- What setDenied leaves in each field. -/
@[simp] theorem setDenied_fields (s : State) (p : Port) (k : KeySlot) (x : Option Time) :
    (s.setDenied p k x).pending = s.pending ∧ (s.setDenied p k x).powered = s.powered
      ∧ (s.setDenied p k x).clock = s.clock ∧ (s.setDenied p k x).fresh = s.fresh
      ∧ (s.setDenied p k x).ports = s.ports ∧ (s.setDenied p k x).assemblies = s.assemblies
      ∧ (s.setDenied p k x).queues = s.queues ∧ (s.setDenied p k x).gaps = s.gaps
      ∧ (s.setDenied p k x).restartBy = s.restartBy ∧ (s.setDenied p k x).profiles = s.profiles
      ∧ (s.setDenied p k x).bankA = s.bankA ∧ (s.setDenied p k x).bankB = s.bankB ∧ (s.setDenied p k x).live = s.live
      ∧ (s.setDenied p k x).swapPending = s.swapPending ∧ (s.setDenied p k x).active = s.active
      ∧ (s.setDenied p k x).counters = s.counters ∧ (s.setDenied p k x).pins = s.pins
      ∧ (s.setDenied p k x).occupied = s.occupied ∧ (s.setDenied p k x).channels = s.channels
      ∧ (s.setDenied p k x).router = s.router ∧ (s.setDenied p k x).talk = s.talk
      ∧ (s.setDenied p k x).denied = put s.denied p (put s.denied[p] k x) ∧ (s.setDenied p k x).calls = s.calls
      ∧ (s.setDenied p k x).samples = s.samples ∧ (s.setDenied p k x).shown = s.shown
      ∧ (s.setDenied p k x).line = s.line ∧ (s.setDenied p k x).notices = s.notices
      ∧ (s.setDenied p k x).noticeControl = s.noticeControl ∧ (s.setDenied p k x).loader = s.loader
      ∧ (s.setDenied p k x).save = s.save ∧ (s.setDenied p k x).store = s.store := by
  simp only [State.setDenied, and_self]

/-- What setCall leaves in each field. -/
@[simp] theorem setCall_fields (s : State) (p : Port) (k : KeySlot) (x : CallRecord) :
    (s.setCall p k x).pending = s.pending ∧ (s.setCall p k x).powered = s.powered
      ∧ (s.setCall p k x).clock = s.clock ∧ (s.setCall p k x).fresh = s.fresh ∧ (s.setCall p k x).ports = s.ports
      ∧ (s.setCall p k x).assemblies = s.assemblies ∧ (s.setCall p k x).queues = s.queues
      ∧ (s.setCall p k x).gaps = s.gaps ∧ (s.setCall p k x).restartBy = s.restartBy
      ∧ (s.setCall p k x).profiles = s.profiles ∧ (s.setCall p k x).bankA = s.bankA
      ∧ (s.setCall p k x).bankB = s.bankB ∧ (s.setCall p k x).live = s.live
      ∧ (s.setCall p k x).swapPending = s.swapPending ∧ (s.setCall p k x).active = s.active
      ∧ (s.setCall p k x).counters = s.counters ∧ (s.setCall p k x).pins = s.pins
      ∧ (s.setCall p k x).occupied = s.occupied ∧ (s.setCall p k x).channels = s.channels
      ∧ (s.setCall p k x).router = s.router ∧ (s.setCall p k x).talk = s.talk ∧ (s.setCall p k x).denied = s.denied
      ∧ (s.setCall p k x).calls = put s.calls p (put s.calls[p] k x) ∧ (s.setCall p k x).samples = s.samples
      ∧ (s.setCall p k x).shown = s.shown ∧ (s.setCall p k x).line = s.line ∧ (s.setCall p k x).notices = s.notices
      ∧ (s.setCall p k x).noticeControl = s.noticeControl ∧ (s.setCall p k x).loader = s.loader
      ∧ (s.setCall p k x).save = s.save ∧ (s.setCall p k x).store = s.store := by
  simp only [State.setCall, and_self]

/-- What setSample leaves in each field. -/
@[simp] theorem setSample_fields (s : State) (p : Port) (x : Option Sample) :
    (s.setSample p x).pending = s.pending ∧ (s.setSample p x).powered = s.powered
      ∧ (s.setSample p x).clock = s.clock ∧ (s.setSample p x).fresh = s.fresh ∧ (s.setSample p x).ports = s.ports
      ∧ (s.setSample p x).assemblies = s.assemblies ∧ (s.setSample p x).queues = s.queues
      ∧ (s.setSample p x).gaps = s.gaps ∧ (s.setSample p x).restartBy = s.restartBy
      ∧ (s.setSample p x).profiles = s.profiles ∧ (s.setSample p x).bankA = s.bankA
      ∧ (s.setSample p x).bankB = s.bankB ∧ (s.setSample p x).live = s.live
      ∧ (s.setSample p x).swapPending = s.swapPending ∧ (s.setSample p x).active = s.active
      ∧ (s.setSample p x).counters = s.counters ∧ (s.setSample p x).pins = s.pins
      ∧ (s.setSample p x).occupied = s.occupied ∧ (s.setSample p x).channels = s.channels
      ∧ (s.setSample p x).router = s.router ∧ (s.setSample p x).talk = s.talk ∧ (s.setSample p x).denied = s.denied
      ∧ (s.setSample p x).calls = s.calls ∧ (s.setSample p x).samples = put s.samples p x
      ∧ (s.setSample p x).shown = s.shown ∧ (s.setSample p x).line = s.line ∧ (s.setSample p x).notices = s.notices
      ∧ (s.setSample p x).noticeControl = s.noticeControl ∧ (s.setSample p x).loader = s.loader
      ∧ (s.setSample p x).save = s.save ∧ (s.setSample p x).store = s.store := by
  simp only [State.setSample, and_self]

/-- What setShown leaves in each field. -/
@[simp] theorem setShown_fields (s : State) (p : Port) (x : ShownLamps) :
    (s.setShown p x).pending = s.pending ∧ (s.setShown p x).powered = s.powered ∧ (s.setShown p x).clock = s.clock
      ∧ (s.setShown p x).fresh = s.fresh ∧ (s.setShown p x).ports = s.ports
      ∧ (s.setShown p x).assemblies = s.assemblies ∧ (s.setShown p x).queues = s.queues
      ∧ (s.setShown p x).gaps = s.gaps ∧ (s.setShown p x).restartBy = s.restartBy
      ∧ (s.setShown p x).profiles = s.profiles ∧ (s.setShown p x).bankA = s.bankA ∧ (s.setShown p x).bankB = s.bankB
      ∧ (s.setShown p x).live = s.live ∧ (s.setShown p x).swapPending = s.swapPending
      ∧ (s.setShown p x).active = s.active ∧ (s.setShown p x).counters = s.counters ∧ (s.setShown p x).pins = s.pins
      ∧ (s.setShown p x).occupied = s.occupied ∧ (s.setShown p x).channels = s.channels
      ∧ (s.setShown p x).router = s.router ∧ (s.setShown p x).talk = s.talk ∧ (s.setShown p x).denied = s.denied
      ∧ (s.setShown p x).calls = s.calls ∧ (s.setShown p x).samples = s.samples
      ∧ (s.setShown p x).shown = put s.shown p x ∧ (s.setShown p x).line = s.line
      ∧ (s.setShown p x).notices = s.notices ∧ (s.setShown p x).noticeControl = s.noticeControl
      ∧ (s.setShown p x).loader = s.loader ∧ (s.setShown p x).save = s.save ∧ (s.setShown p x).store = s.store := by
  simp only [State.setShown, and_self]

/-- What setLine leaves in each field. -/
@[simp] theorem setLine_fields (s : State) (p : Port) (x : Option DownFrame) :
    (s.setLine p x).pending = s.pending ∧ (s.setLine p x).powered = s.powered ∧ (s.setLine p x).clock = s.clock
      ∧ (s.setLine p x).fresh = s.fresh ∧ (s.setLine p x).ports = s.ports ∧ (s.setLine p x).assemblies = s.assemblies
      ∧ (s.setLine p x).queues = s.queues ∧ (s.setLine p x).gaps = s.gaps ∧ (s.setLine p x).restartBy = s.restartBy
      ∧ (s.setLine p x).profiles = s.profiles ∧ (s.setLine p x).bankA = s.bankA ∧ (s.setLine p x).bankB = s.bankB
      ∧ (s.setLine p x).live = s.live ∧ (s.setLine p x).swapPending = s.swapPending
      ∧ (s.setLine p x).active = s.active ∧ (s.setLine p x).counters = s.counters ∧ (s.setLine p x).pins = s.pins
      ∧ (s.setLine p x).occupied = s.occupied ∧ (s.setLine p x).channels = s.channels
      ∧ (s.setLine p x).router = s.router ∧ (s.setLine p x).talk = s.talk ∧ (s.setLine p x).denied = s.denied
      ∧ (s.setLine p x).calls = s.calls ∧ (s.setLine p x).samples = s.samples ∧ (s.setLine p x).shown = s.shown
      ∧ (s.setLine p x).line = put s.line p x ∧ (s.setLine p x).notices = s.notices
      ∧ (s.setLine p x).noticeControl = s.noticeControl ∧ (s.setLine p x).loader = s.loader
      ∧ (s.setLine p x).save = s.save ∧ (s.setLine p x).store = s.store := by
  simp only [State.setLine, and_self]

/-- What setNotice leaves in each field. -/
@[simp] theorem setNotice_fields (s : State) (k : NoticeKind) (x : NoticeRecord) :
    (s.setNotice k x).pending = s.pending ∧ (s.setNotice k x).powered = s.powered
      ∧ (s.setNotice k x).clock = s.clock ∧ (s.setNotice k x).fresh = s.fresh ∧ (s.setNotice k x).ports = s.ports
      ∧ (s.setNotice k x).assemblies = s.assemblies ∧ (s.setNotice k x).queues = s.queues
      ∧ (s.setNotice k x).gaps = s.gaps ∧ (s.setNotice k x).restartBy = s.restartBy
      ∧ (s.setNotice k x).profiles = s.profiles ∧ (s.setNotice k x).bankA = s.bankA
      ∧ (s.setNotice k x).bankB = s.bankB ∧ (s.setNotice k x).live = s.live
      ∧ (s.setNotice k x).swapPending = s.swapPending ∧ (s.setNotice k x).active = s.active
      ∧ (s.setNotice k x).counters = s.counters ∧ (s.setNotice k x).pins = s.pins
      ∧ (s.setNotice k x).occupied = s.occupied ∧ (s.setNotice k x).channels = s.channels
      ∧ (s.setNotice k x).router = s.router ∧ (s.setNotice k x).talk = s.talk ∧ (s.setNotice k x).denied = s.denied
      ∧ (s.setNotice k x).calls = s.calls ∧ (s.setNotice k x).samples = s.samples ∧ (s.setNotice k x).shown = s.shown
      ∧ (s.setNotice k x).line = s.line ∧ (s.setNotice k x).notices = put s.notices k x
      ∧ (s.setNotice k x).noticeControl = s.noticeControl ∧ (s.setNotice k x).loader = s.loader
      ∧ (s.setNotice k x).save = s.save ∧ (s.setNotice k x).store = s.store := by
  simp only [State.setNotice, and_self]

/-- What setChannel leaves in each field. -/
@[simp] theorem setChannel_fields (s : State) (c : Chan) (x : ChannelEntry) :
    (s.setChannel c x).pending = s.pending ∧ (s.setChannel c x).powered = s.powered
      ∧ (s.setChannel c x).clock = s.clock ∧ (s.setChannel c x).fresh = s.fresh ∧ (s.setChannel c x).ports = s.ports
      ∧ (s.setChannel c x).assemblies = s.assemblies ∧ (s.setChannel c x).queues = s.queues
      ∧ (s.setChannel c x).gaps = s.gaps ∧ (s.setChannel c x).restartBy = s.restartBy
      ∧ (s.setChannel c x).profiles = s.profiles ∧ (s.setChannel c x).bankA = s.bankA
      ∧ (s.setChannel c x).bankB = s.bankB ∧ (s.setChannel c x).live = s.live
      ∧ (s.setChannel c x).swapPending = s.swapPending ∧ (s.setChannel c x).active = s.active
      ∧ (s.setChannel c x).counters = s.counters ∧ (s.setChannel c x).pins = s.pins
      ∧ (s.setChannel c x).occupied = s.occupied ∧ (s.setChannel c x).channels = put s.channels c x
      ∧ (s.setChannel c x).router = s.router ∧ (s.setChannel c x).talk = s.talk ∧ (s.setChannel c x).denied = s.denied
      ∧ (s.setChannel c x).calls = s.calls ∧ (s.setChannel c x).samples = s.samples
      ∧ (s.setChannel c x).shown = s.shown ∧ (s.setChannel c x).line = s.line ∧ (s.setChannel c x).notices = s.notices
      ∧ (s.setChannel c x).noticeControl = s.noticeControl ∧ (s.setChannel c x).loader = s.loader
      ∧ (s.setChannel c x).save = s.save ∧ (s.setChannel c x).store = s.store := by
  simp only [State.setChannel, and_self]

/-- What setControl leaves in each field. -/
@[simp] theorem setControl_fields (s : State) (x : NoticeControl) :
    (s.setControl x).pending = s.pending ∧ (s.setControl x).powered = s.powered ∧ (s.setControl x).clock = s.clock
      ∧ (s.setControl x).fresh = s.fresh ∧ (s.setControl x).ports = s.ports
      ∧ (s.setControl x).assemblies = s.assemblies ∧ (s.setControl x).queues = s.queues
      ∧ (s.setControl x).gaps = s.gaps ∧ (s.setControl x).restartBy = s.restartBy
      ∧ (s.setControl x).profiles = s.profiles ∧ (s.setControl x).bankA = s.bankA ∧ (s.setControl x).bankB = s.bankB
      ∧ (s.setControl x).live = s.live ∧ (s.setControl x).swapPending = s.swapPending
      ∧ (s.setControl x).active = s.active ∧ (s.setControl x).counters = s.counters ∧ (s.setControl x).pins = s.pins
      ∧ (s.setControl x).occupied = s.occupied ∧ (s.setControl x).channels = s.channels
      ∧ (s.setControl x).router = s.router ∧ (s.setControl x).talk = s.talk ∧ (s.setControl x).denied = s.denied
      ∧ (s.setControl x).calls = s.calls ∧ (s.setControl x).samples = s.samples ∧ (s.setControl x).shown = s.shown
      ∧ (s.setControl x).line = s.line ∧ (s.setControl x).notices = s.notices ∧ (s.setControl x).noticeControl = x
      ∧ (s.setControl x).loader = s.loader ∧ (s.setControl x).save = s.save ∧ (s.setControl x).store = s.store := by
  simp only [State.setControl, and_self]

/-- What clearDenied leaves in each field. -/
@[simp] theorem clearDenied_fields (s : State) (p : Port) :
    (s.clearDenied p).pending = s.pending ∧ (s.clearDenied p).powered = s.powered
      ∧ (s.clearDenied p).clock = s.clock ∧ (s.clearDenied p).fresh = s.fresh ∧ (s.clearDenied p).ports = s.ports
      ∧ (s.clearDenied p).assemblies = s.assemblies ∧ (s.clearDenied p).queues = s.queues
      ∧ (s.clearDenied p).gaps = s.gaps ∧ (s.clearDenied p).restartBy = s.restartBy
      ∧ (s.clearDenied p).profiles = s.profiles ∧ (s.clearDenied p).bankA = s.bankA
      ∧ (s.clearDenied p).bankB = s.bankB ∧ (s.clearDenied p).live = s.live
      ∧ (s.clearDenied p).swapPending = s.swapPending ∧ (s.clearDenied p).active = s.active
      ∧ (s.clearDenied p).counters = s.counters ∧ (s.clearDenied p).pins = s.pins
      ∧ (s.clearDenied p).occupied = s.occupied ∧ (s.clearDenied p).channels = s.channels
      ∧ (s.clearDenied p).router = s.router ∧ (s.clearDenied p).talk = s.talk
      ∧ (s.clearDenied p).denied = put s.denied p (Vector.replicate 4 none) ∧ (s.clearDenied p).calls = s.calls
      ∧ (s.clearDenied p).samples = s.samples ∧ (s.clearDenied p).shown = s.shown ∧ (s.clearDenied p).line = s.line
      ∧ (s.clearDenied p).notices = s.notices ∧ (s.clearDenied p).noticeControl = s.noticeControl
      ∧ (s.clearDenied p).loader = s.loader ∧ (s.clearDenied p).save = s.save ∧ (s.clearDenied p).store = s.store := by
  simp only [State.clearDenied, and_self]

/-- What clearCalls leaves in each field. -/
@[simp] theorem clearCalls_fields (s : State) (p : Port) :
    (s.clearCalls p).pending = s.pending ∧ (s.clearCalls p).powered = s.powered ∧ (s.clearCalls p).clock = s.clock
      ∧ (s.clearCalls p).fresh = s.fresh ∧ (s.clearCalls p).ports = s.ports
      ∧ (s.clearCalls p).assemblies = s.assemblies ∧ (s.clearCalls p).queues = s.queues
      ∧ (s.clearCalls p).gaps = s.gaps ∧ (s.clearCalls p).restartBy = s.restartBy
      ∧ (s.clearCalls p).profiles = s.profiles ∧ (s.clearCalls p).bankA = s.bankA ∧ (s.clearCalls p).bankB = s.bankB
      ∧ (s.clearCalls p).live = s.live ∧ (s.clearCalls p).swapPending = s.swapPending
      ∧ (s.clearCalls p).active = s.active ∧ (s.clearCalls p).counters = s.counters ∧ (s.clearCalls p).pins = s.pins
      ∧ (s.clearCalls p).occupied = s.occupied ∧ (s.clearCalls p).channels = s.channels
      ∧ (s.clearCalls p).router = s.router ∧ (s.clearCalls p).talk = s.talk ∧ (s.clearCalls p).denied = s.denied
      ∧ (s.clearCalls p).calls = put s.calls p (Vector.replicate 4 CallRecord.cleared)
      ∧ (s.clearCalls p).samples = s.samples ∧ (s.clearCalls p).shown = s.shown ∧ (s.clearCalls p).line = s.line
      ∧ (s.clearCalls p).notices = s.notices ∧ (s.clearCalls p).noticeControl = s.noticeControl
      ∧ (s.clearCalls p).loader = s.loader ∧ (s.clearCalls p).save = s.save ∧ (s.clearCalls p).store = s.store := by
  simp only [State.clearCalls, and_self]

/-- What withPending leaves in each field. -/
@[simp] theorem withPending_fields (s : State) (x : List Instr) :
    (s.withPending x).pending = x ∧ (s.withPending x).powered = s.powered ∧ (s.withPending x).clock = s.clock
      ∧ (s.withPending x).fresh = s.fresh ∧ (s.withPending x).ports = s.ports
      ∧ (s.withPending x).assemblies = s.assemblies ∧ (s.withPending x).queues = s.queues
      ∧ (s.withPending x).gaps = s.gaps ∧ (s.withPending x).restartBy = s.restartBy
      ∧ (s.withPending x).profiles = s.profiles ∧ (s.withPending x).bankA = s.bankA
      ∧ (s.withPending x).bankB = s.bankB ∧ (s.withPending x).live = s.live
      ∧ (s.withPending x).swapPending = s.swapPending ∧ (s.withPending x).active = s.active
      ∧ (s.withPending x).counters = s.counters ∧ (s.withPending x).pins = s.pins
      ∧ (s.withPending x).occupied = s.occupied ∧ (s.withPending x).channels = s.channels
      ∧ (s.withPending x).router = s.router ∧ (s.withPending x).talk = s.talk ∧ (s.withPending x).denied = s.denied
      ∧ (s.withPending x).calls = s.calls ∧ (s.withPending x).samples = s.samples ∧ (s.withPending x).shown = s.shown
      ∧ (s.withPending x).line = s.line ∧ (s.withPending x).notices = s.notices
      ∧ (s.withPending x).noticeControl = s.noticeControl ∧ (s.withPending x).loader = s.loader
      ∧ (s.withPending x).save = s.save ∧ (s.withPending x).store = s.store := by
  simp only [State.withPending, and_self]

/-- What draw leaves in each field. -/
@[simp] theorem draw_fields (s : State) (x : Bool) :
    (s.draw x).pending = s.pending ∧ (s.draw x).powered = s.powered ∧ (s.draw x).clock = s.clock
      ∧ (s.draw x).fresh = (if x then s.fresh + 1 else s.fresh) ∧ (s.draw x).ports = s.ports
      ∧ (s.draw x).assemblies = s.assemblies ∧ (s.draw x).queues = s.queues ∧ (s.draw x).gaps = s.gaps
      ∧ (s.draw x).restartBy = s.restartBy ∧ (s.draw x).profiles = s.profiles ∧ (s.draw x).bankA = s.bankA
      ∧ (s.draw x).bankB = s.bankB ∧ (s.draw x).live = s.live ∧ (s.draw x).swapPending = s.swapPending
      ∧ (s.draw x).active = s.active ∧ (s.draw x).counters = s.counters ∧ (s.draw x).pins = s.pins
      ∧ (s.draw x).occupied = s.occupied ∧ (s.draw x).channels = s.channels ∧ (s.draw x).router = s.router
      ∧ (s.draw x).talk = s.talk ∧ (s.draw x).denied = s.denied ∧ (s.draw x).calls = s.calls
      ∧ (s.draw x).samples = s.samples ∧ (s.draw x).shown = s.shown ∧ (s.draw x).line = s.line
      ∧ (s.draw x).notices = s.notices ∧ (s.draw x).noticeControl = s.noticeControl ∧ (s.draw x).loader = s.loader
      ∧ (s.draw x).save = s.save ∧ (s.draw x).store = s.store := by
  simp only [State.draw, and_self]

/-- What fallPorts leaves in each field. -/
@[simp] theorem fallPorts_fields (s : State) :
    s.fallPorts.pending = s.pending ∧ s.fallPorts.powered = s.powered ∧ s.fallPorts.clock = s.clock
      ∧ s.fallPorts.fresh = s.fresh ∧ s.fallPorts.ports = s.profiles.map fallenPort
      ∧ s.fallPorts.assemblies = s.assemblies ∧ s.fallPorts.queues = s.queues ∧ s.fallPorts.gaps = s.gaps
      ∧ s.fallPorts.restartBy = s.restartBy ∧ s.fallPorts.profiles = s.profiles ∧ s.fallPorts.bankA = s.bankA
      ∧ s.fallPorts.bankB = s.bankB ∧ s.fallPorts.live = s.live ∧ s.fallPorts.swapPending = s.swapPending
      ∧ s.fallPorts.active = s.active ∧ s.fallPorts.counters = s.counters ∧ s.fallPorts.pins = s.pins
      ∧ s.fallPorts.occupied = s.occupied ∧ s.fallPorts.channels = s.channels ∧ s.fallPorts.router = s.router
      ∧ s.fallPorts.talk = s.talk ∧ s.fallPorts.denied = s.denied ∧ s.fallPorts.calls = s.calls
      ∧ s.fallPorts.samples = s.samples ∧ s.fallPorts.shown = s.shown ∧ s.fallPorts.line = s.line
      ∧ s.fallPorts.notices = s.notices ∧ s.fallPorts.noticeControl = s.noticeControl ∧ s.fallPorts.loader = s.loader
      ∧ s.fallPorts.save = s.save ∧ s.fallPorts.store = s.store := by
  simp only [State.fallPorts, and_self]

end Sys2Proof.Machine
end

