-- ==== Sys2Proof/Laws/Calls.lean ====
section
/-! SUPPORT. The operations of the Call Unit on call records touch those records and nothing else. -/

namespace Sys2Proof.Machine

/-- The state without its call records. -/
def State.sansCalls (s : State) : State :=
  { s with
    calls := Vector.replicate 32 (Vector.replicate 4 CallRecord.cleared) }

/-- States equal apart from what `sansCalls` erases agree in every other field. -/
theorem fields_of_sansCalls {a b : State} (h : a.sansCalls = b.sansCalls) :
    a.pending = b.pending ∧ a.powered = b.powered ∧ a.clock = b.clock ∧ a.fresh = b.fresh ∧ a.ports = b.ports
      ∧ a.assemblies = b.assemblies ∧ a.queues = b.queues ∧ a.gaps = b.gaps ∧ a.restartBy = b.restartBy
      ∧ a.profiles = b.profiles ∧ a.bankA = b.bankA ∧ a.bankB = b.bankB ∧ a.live = b.live
      ∧ a.swapPending = b.swapPending ∧ a.active = b.active ∧ a.counters = b.counters ∧ a.pins = b.pins
      ∧ a.occupied = b.occupied ∧ a.channels = b.channels ∧ a.router = b.router ∧ a.talk = b.talk
      ∧ a.denied = b.denied ∧ a.samples = b.samples ∧ a.shown = b.shown ∧ a.line = b.line ∧ a.notices = b.notices
      ∧ a.noticeControl = b.noticeControl ∧ a.loader = b.loader ∧ a.save = b.save ∧ a.store = b.store := by
  exact ⟨(congrArg State.pending h :), (congrArg State.powered h :), (congrArg State.clock h :),
    (congrArg State.fresh h :), (congrArg State.ports h :), (congrArg State.assemblies h :),
    (congrArg State.queues h :), (congrArg State.gaps h :), (congrArg State.restartBy h :),
    (congrArg State.profiles h :), (congrArg State.bankA h :), (congrArg State.bankB h :),
    (congrArg State.live h :), (congrArg State.swapPending h :), (congrArg State.active h :),
    (congrArg State.counters h :), (congrArg State.pins h :), (congrArg State.occupied h :),
    (congrArg State.channels h :), (congrArg State.router h :), (congrArg State.talk h :),
    (congrArg State.denied h :), (congrArg State.samples h :), (congrArg State.shown h :),
    (congrArg State.line h :), (congrArg State.notices h :), (congrArg State.noticeControl h :),
    (congrArg State.loader h :), (congrArg State.save h :), (congrArg State.store h :)⟩

/-- A fold of operations that each keep the rest keeps the rest. -/
theorem foldl_sansCalls {β : Type} (f : State → β → State) (h : ∀ t x, (f t x).sansCalls = t.sansCalls) :
    ∀ (l : List β) (s : State), (l.foldl f s).sansCalls = s.sansCalls
  | [], _ => rfl
  | x :: l, s => by rw [List.foldl_cons, foldl_sansCalls f h l (f s x), h s x]

theorem setCall_sansCalls (s : State) (p : Port) (k : KeySlot) (r : CallRecord) :
    (s.setCall p k r).sansCalls = s.sansCalls := rfl

theorem flashRecipients_sansCalls (s : State) (p : Port) (c : Chan) :
    (s.flashRecipients p c).sansCalls = s.sansCalls := foldl_sansCalls _ (fun t _ => setCall_sansCalls t _ _ _) _ s

/-- What flashRecipients keeps. -/
@[simp] theorem flashRecipients_fields (s : State) (p : Port) (c : Chan) :
    (s.flashRecipients p c).pending = s.pending ∧ (s.flashRecipients p c).powered = s.powered
      ∧ (s.flashRecipients p c).clock = s.clock ∧ (s.flashRecipients p c).fresh = s.fresh
      ∧ (s.flashRecipients p c).ports = s.ports ∧ (s.flashRecipients p c).assemblies = s.assemblies
      ∧ (s.flashRecipients p c).queues = s.queues ∧ (s.flashRecipients p c).gaps = s.gaps
      ∧ (s.flashRecipients p c).restartBy = s.restartBy ∧ (s.flashRecipients p c).profiles = s.profiles
      ∧ (s.flashRecipients p c).bankA = s.bankA ∧ (s.flashRecipients p c).bankB = s.bankB
      ∧ (s.flashRecipients p c).live = s.live ∧ (s.flashRecipients p c).swapPending = s.swapPending
      ∧ (s.flashRecipients p c).active = s.active ∧ (s.flashRecipients p c).counters = s.counters
      ∧ (s.flashRecipients p c).pins = s.pins ∧ (s.flashRecipients p c).occupied = s.occupied
      ∧ (s.flashRecipients p c).channels = s.channels ∧ (s.flashRecipients p c).router = s.router
      ∧ (s.flashRecipients p c).talk = s.talk ∧ (s.flashRecipients p c).denied = s.denied
      ∧ (s.flashRecipients p c).samples = s.samples ∧ (s.flashRecipients p c).shown = s.shown
      ∧ (s.flashRecipients p c).line = s.line ∧ (s.flashRecipients p c).notices = s.notices
      ∧ (s.flashRecipients p c).noticeControl = s.noticeControl ∧ (s.flashRecipients p c).loader = s.loader
      ∧ (s.flashRecipients p c).save = s.save ∧ (s.flashRecipients p c).store = s.store :=
  fields_of_sansCalls (flashRecipients_sansCalls s p c)

theorem startHoldoff_sansCalls (s : State) (p : Port) (k : KeySlot) :
    (s.startHoldoff p k).sansCalls = s.sansCalls := by
  unfold State.startHoldoff
  split
  · rfl
  · rfl

/-- What startHoldoff keeps. -/
@[simp] theorem startHoldoff_fields (s : State) (p : Port) (k : KeySlot) :
    (s.startHoldoff p k).pending = s.pending ∧ (s.startHoldoff p k).powered = s.powered
      ∧ (s.startHoldoff p k).clock = s.clock ∧ (s.startHoldoff p k).fresh = s.fresh
      ∧ (s.startHoldoff p k).ports = s.ports ∧ (s.startHoldoff p k).assemblies = s.assemblies
      ∧ (s.startHoldoff p k).queues = s.queues ∧ (s.startHoldoff p k).gaps = s.gaps
      ∧ (s.startHoldoff p k).restartBy = s.restartBy ∧ (s.startHoldoff p k).profiles = s.profiles
      ∧ (s.startHoldoff p k).bankA = s.bankA ∧ (s.startHoldoff p k).bankB = s.bankB
      ∧ (s.startHoldoff p k).live = s.live ∧ (s.startHoldoff p k).swapPending = s.swapPending
      ∧ (s.startHoldoff p k).active = s.active ∧ (s.startHoldoff p k).counters = s.counters
      ∧ (s.startHoldoff p k).pins = s.pins ∧ (s.startHoldoff p k).occupied = s.occupied
      ∧ (s.startHoldoff p k).channels = s.channels ∧ (s.startHoldoff p k).router = s.router
      ∧ (s.startHoldoff p k).talk = s.talk ∧ (s.startHoldoff p k).denied = s.denied
      ∧ (s.startHoldoff p k).samples = s.samples ∧ (s.startHoldoff p k).shown = s.shown
      ∧ (s.startHoldoff p k).line = s.line ∧ (s.startHoldoff p k).notices = s.notices
      ∧ (s.startHoldoff p k).noticeControl = s.noticeControl ∧ (s.startHoldoff p k).loader = s.loader
      ∧ (s.startHoldoff p k).save = s.save ∧ (s.startHoldoff p k).store = s.store :=
  fields_of_sansCalls (startHoldoff_sansCalls s p k)

theorem stopFlash_sansCalls (s : State) (p : Port) (k : KeySlot) :
    (s.stopFlash p k).sansCalls = s.sansCalls := rfl

/-- What stopFlash keeps. -/
@[simp] theorem stopFlash_fields (s : State) (p : Port) (k : KeySlot) :
    (s.stopFlash p k).pending = s.pending ∧ (s.stopFlash p k).powered = s.powered
      ∧ (s.stopFlash p k).clock = s.clock ∧ (s.stopFlash p k).fresh = s.fresh ∧ (s.stopFlash p k).ports = s.ports
      ∧ (s.stopFlash p k).assemblies = s.assemblies ∧ (s.stopFlash p k).queues = s.queues
      ∧ (s.stopFlash p k).gaps = s.gaps ∧ (s.stopFlash p k).restartBy = s.restartBy
      ∧ (s.stopFlash p k).profiles = s.profiles ∧ (s.stopFlash p k).bankA = s.bankA
      ∧ (s.stopFlash p k).bankB = s.bankB ∧ (s.stopFlash p k).live = s.live
      ∧ (s.stopFlash p k).swapPending = s.swapPending ∧ (s.stopFlash p k).active = s.active
      ∧ (s.stopFlash p k).counters = s.counters ∧ (s.stopFlash p k).pins = s.pins
      ∧ (s.stopFlash p k).occupied = s.occupied ∧ (s.stopFlash p k).channels = s.channels
      ∧ (s.stopFlash p k).router = s.router ∧ (s.stopFlash p k).talk = s.talk ∧ (s.stopFlash p k).denied = s.denied
      ∧ (s.stopFlash p k).samples = s.samples ∧ (s.stopFlash p k).shown = s.shown ∧ (s.stopFlash p k).line = s.line
      ∧ (s.stopFlash p k).notices = s.notices ∧ (s.stopFlash p k).noticeControl = s.noticeControl
      ∧ (s.stopFlash p k).loader = s.loader ∧ (s.stopFlash p k).save = s.save ∧ (s.stopFlash p k).store = s.store :=
  fields_of_sansCalls (stopFlash_sansCalls s p k)

theorem stopHoldoff_sansCalls (s : State) (p : Port) (k : KeySlot) :
    (s.stopHoldoff p k).sansCalls = s.sansCalls := rfl

/-- What stopHoldoff keeps. -/
@[simp] theorem stopHoldoff_fields (s : State) (p : Port) (k : KeySlot) :
    (s.stopHoldoff p k).pending = s.pending ∧ (s.stopHoldoff p k).powered = s.powered
      ∧ (s.stopHoldoff p k).clock = s.clock ∧ (s.stopHoldoff p k).fresh = s.fresh
      ∧ (s.stopHoldoff p k).ports = s.ports ∧ (s.stopHoldoff p k).assemblies = s.assemblies
      ∧ (s.stopHoldoff p k).queues = s.queues ∧ (s.stopHoldoff p k).gaps = s.gaps
      ∧ (s.stopHoldoff p k).restartBy = s.restartBy ∧ (s.stopHoldoff p k).profiles = s.profiles
      ∧ (s.stopHoldoff p k).bankA = s.bankA ∧ (s.stopHoldoff p k).bankB = s.bankB ∧ (s.stopHoldoff p k).live = s.live
      ∧ (s.stopHoldoff p k).swapPending = s.swapPending ∧ (s.stopHoldoff p k).active = s.active
      ∧ (s.stopHoldoff p k).counters = s.counters ∧ (s.stopHoldoff p k).pins = s.pins
      ∧ (s.stopHoldoff p k).occupied = s.occupied ∧ (s.stopHoldoff p k).channels = s.channels
      ∧ (s.stopHoldoff p k).router = s.router ∧ (s.stopHoldoff p k).talk = s.talk
      ∧ (s.stopHoldoff p k).denied = s.denied ∧ (s.stopHoldoff p k).samples = s.samples
      ∧ (s.stopHoldoff p k).shown = s.shown ∧ (s.stopHoldoff p k).line = s.line
      ∧ (s.stopHoldoff p k).notices = s.notices ∧ (s.stopHoldoff p k).noticeControl = s.noticeControl
      ∧ (s.stopHoldoff p k).loader = s.loader ∧ (s.stopHoldoff p k).save = s.save
      ∧ (s.stopHoldoff p k).store = s.store :=
  fields_of_sansCalls (stopHoldoff_sansCalls s p k)

theorem displayExpiry_sansCalls (s : State) (p : Port) (k : KeySlot) :
    (s.displayExpiry p k).sansCalls = s.sansCalls := by
  unfold State.displayExpiry
  split
  · rfl
  · rfl

/-- What displayExpiry keeps. -/
@[simp] theorem displayExpiry_fields (s : State) (p : Port) (k : KeySlot) :
    (s.displayExpiry p k).pending = s.pending ∧ (s.displayExpiry p k).powered = s.powered
      ∧ (s.displayExpiry p k).clock = s.clock ∧ (s.displayExpiry p k).fresh = s.fresh
      ∧ (s.displayExpiry p k).ports = s.ports ∧ (s.displayExpiry p k).assemblies = s.assemblies
      ∧ (s.displayExpiry p k).queues = s.queues ∧ (s.displayExpiry p k).gaps = s.gaps
      ∧ (s.displayExpiry p k).restartBy = s.restartBy ∧ (s.displayExpiry p k).profiles = s.profiles
      ∧ (s.displayExpiry p k).bankA = s.bankA ∧ (s.displayExpiry p k).bankB = s.bankB
      ∧ (s.displayExpiry p k).live = s.live ∧ (s.displayExpiry p k).swapPending = s.swapPending
      ∧ (s.displayExpiry p k).active = s.active ∧ (s.displayExpiry p k).counters = s.counters
      ∧ (s.displayExpiry p k).pins = s.pins ∧ (s.displayExpiry p k).occupied = s.occupied
      ∧ (s.displayExpiry p k).channels = s.channels ∧ (s.displayExpiry p k).router = s.router
      ∧ (s.displayExpiry p k).talk = s.talk ∧ (s.displayExpiry p k).denied = s.denied
      ∧ (s.displayExpiry p k).samples = s.samples ∧ (s.displayExpiry p k).shown = s.shown
      ∧ (s.displayExpiry p k).line = s.line ∧ (s.displayExpiry p k).notices = s.notices
      ∧ (s.displayExpiry p k).noticeControl = s.noticeControl ∧ (s.displayExpiry p k).loader = s.loader
      ∧ (s.displayExpiry p k).save = s.save ∧ (s.displayExpiry p k).store = s.store :=
  fields_of_sansCalls (displayExpiry_sansCalls s p k)

theorem holdoffExpiry_sansCalls (s : State) (p : Port) (k : KeySlot) :
    (s.holdoffExpiry p k).sansCalls = s.sansCalls := by
  unfold State.holdoffExpiry
  split
  · rfl
  · rfl

/-- What holdoffExpiry keeps. -/
@[simp] theorem holdoffExpiry_fields (s : State) (p : Port) (k : KeySlot) :
    (s.holdoffExpiry p k).pending = s.pending ∧ (s.holdoffExpiry p k).powered = s.powered
      ∧ (s.holdoffExpiry p k).clock = s.clock ∧ (s.holdoffExpiry p k).fresh = s.fresh
      ∧ (s.holdoffExpiry p k).ports = s.ports ∧ (s.holdoffExpiry p k).assemblies = s.assemblies
      ∧ (s.holdoffExpiry p k).queues = s.queues ∧ (s.holdoffExpiry p k).gaps = s.gaps
      ∧ (s.holdoffExpiry p k).restartBy = s.restartBy ∧ (s.holdoffExpiry p k).profiles = s.profiles
      ∧ (s.holdoffExpiry p k).bankA = s.bankA ∧ (s.holdoffExpiry p k).bankB = s.bankB
      ∧ (s.holdoffExpiry p k).live = s.live ∧ (s.holdoffExpiry p k).swapPending = s.swapPending
      ∧ (s.holdoffExpiry p k).active = s.active ∧ (s.holdoffExpiry p k).counters = s.counters
      ∧ (s.holdoffExpiry p k).pins = s.pins ∧ (s.holdoffExpiry p k).occupied = s.occupied
      ∧ (s.holdoffExpiry p k).channels = s.channels ∧ (s.holdoffExpiry p k).router = s.router
      ∧ (s.holdoffExpiry p k).talk = s.talk ∧ (s.holdoffExpiry p k).denied = s.denied
      ∧ (s.holdoffExpiry p k).samples = s.samples ∧ (s.holdoffExpiry p k).shown = s.shown
      ∧ (s.holdoffExpiry p k).line = s.line ∧ (s.holdoffExpiry p k).notices = s.notices
      ∧ (s.holdoffExpiry p k).noticeControl = s.noticeControl ∧ (s.holdoffExpiry p k).loader = s.loader
      ∧ (s.holdoffExpiry p k).save = s.save ∧ (s.holdoffExpiry p k).store = s.store :=
  fields_of_sansCalls (holdoffExpiry_sansCalls s p k)

theorem rewriteFlash_sansCalls (s : State) (p : Port) (a b : Vector SlotConfig 4) (k : KeySlot) :
    (s.rewriteFlash p a b k).sansCalls = s.sansCalls := by
  unfold State.rewriteFlash
  split
  · rfl
  · rfl

/-- What rewriteFlash keeps. -/
@[simp] theorem rewriteFlash_fields (s : State) (p : Port) (a b : Vector SlotConfig 4) (k : KeySlot) :
    (s.rewriteFlash p a b k).pending = s.pending ∧ (s.rewriteFlash p a b k).powered = s.powered
      ∧ (s.rewriteFlash p a b k).clock = s.clock ∧ (s.rewriteFlash p a b k).fresh = s.fresh
      ∧ (s.rewriteFlash p a b k).ports = s.ports ∧ (s.rewriteFlash p a b k).assemblies = s.assemblies
      ∧ (s.rewriteFlash p a b k).queues = s.queues ∧ (s.rewriteFlash p a b k).gaps = s.gaps
      ∧ (s.rewriteFlash p a b k).restartBy = s.restartBy ∧ (s.rewriteFlash p a b k).profiles = s.profiles
      ∧ (s.rewriteFlash p a b k).bankA = s.bankA ∧ (s.rewriteFlash p a b k).bankB = s.bankB
      ∧ (s.rewriteFlash p a b k).live = s.live ∧ (s.rewriteFlash p a b k).swapPending = s.swapPending
      ∧ (s.rewriteFlash p a b k).active = s.active ∧ (s.rewriteFlash p a b k).counters = s.counters
      ∧ (s.rewriteFlash p a b k).pins = s.pins ∧ (s.rewriteFlash p a b k).occupied = s.occupied
      ∧ (s.rewriteFlash p a b k).channels = s.channels ∧ (s.rewriteFlash p a b k).router = s.router
      ∧ (s.rewriteFlash p a b k).talk = s.talk ∧ (s.rewriteFlash p a b k).denied = s.denied
      ∧ (s.rewriteFlash p a b k).samples = s.samples ∧ (s.rewriteFlash p a b k).shown = s.shown
      ∧ (s.rewriteFlash p a b k).line = s.line ∧ (s.rewriteFlash p a b k).notices = s.notices
      ∧ (s.rewriteFlash p a b k).noticeControl = s.noticeControl ∧ (s.rewriteFlash p a b k).loader = s.loader
      ∧ (s.rewriteFlash p a b k).save = s.save ∧ (s.rewriteFlash p a b k).store = s.store :=
  fields_of_sansCalls (rewriteFlash_sansCalls s p a b k)

theorem rewriteHoldoff_sansCalls (s : State) (p : Port) (a b : Vector SlotConfig 4) (k : KeySlot) :
    (s.rewriteHoldoff p a b k).sansCalls = s.sansCalls := by
  unfold State.rewriteHoldoff
  split
  · rfl
  · rfl

/-- What rewriteHoldoff keeps. -/
@[simp] theorem rewriteHoldoff_fields (s : State) (p : Port) (a b : Vector SlotConfig 4) (k : KeySlot) :
    (s.rewriteHoldoff p a b k).pending = s.pending ∧ (s.rewriteHoldoff p a b k).powered = s.powered
      ∧ (s.rewriteHoldoff p a b k).clock = s.clock ∧ (s.rewriteHoldoff p a b k).fresh = s.fresh
      ∧ (s.rewriteHoldoff p a b k).ports = s.ports ∧ (s.rewriteHoldoff p a b k).assemblies = s.assemblies
      ∧ (s.rewriteHoldoff p a b k).queues = s.queues ∧ (s.rewriteHoldoff p a b k).gaps = s.gaps
      ∧ (s.rewriteHoldoff p a b k).restartBy = s.restartBy ∧ (s.rewriteHoldoff p a b k).profiles = s.profiles
      ∧ (s.rewriteHoldoff p a b k).bankA = s.bankA ∧ (s.rewriteHoldoff p a b k).bankB = s.bankB
      ∧ (s.rewriteHoldoff p a b k).live = s.live ∧ (s.rewriteHoldoff p a b k).swapPending = s.swapPending
      ∧ (s.rewriteHoldoff p a b k).active = s.active ∧ (s.rewriteHoldoff p a b k).counters = s.counters
      ∧ (s.rewriteHoldoff p a b k).pins = s.pins ∧ (s.rewriteHoldoff p a b k).occupied = s.occupied
      ∧ (s.rewriteHoldoff p a b k).channels = s.channels ∧ (s.rewriteHoldoff p a b k).router = s.router
      ∧ (s.rewriteHoldoff p a b k).talk = s.talk ∧ (s.rewriteHoldoff p a b k).denied = s.denied
      ∧ (s.rewriteHoldoff p a b k).samples = s.samples ∧ (s.rewriteHoldoff p a b k).shown = s.shown
      ∧ (s.rewriteHoldoff p a b k).line = s.line ∧ (s.rewriteHoldoff p a b k).notices = s.notices
      ∧ (s.rewriteHoldoff p a b k).noticeControl = s.noticeControl ∧ (s.rewriteHoldoff p a b k).loader = s.loader
      ∧ (s.rewriteHoldoff p a b k).save = s.save ∧ (s.rewriteHoldoff p a b k).store = s.store :=
  fields_of_sansCalls (rewriteHoldoff_sansCalls s p a b k)

end Sys2Proof.Machine
end

