-- ==== Sys2Proof/Laws/Messages.lean ====
section
/-! SUPPORT. The operations on the transmit queues and the notice records touch the queues, the gap flags and the notice
records and nothing else. -/

namespace Sys2Proof.Machine

/-- The state without its transmit queues, gap flags and notice records. -/
def State.sansMsgs (s : State) : State :=
  { s with
    queues := Vector.replicate 32 []
    gaps := Vector.replicate 32 false
    notices := Vector.replicate 18 NoticeRecord.empty }

/-- States equal apart from what `sansMsgs` erases agree in every other field. -/
theorem fields_of_sansMsgs {a b : State} (h : a.sansMsgs = b.sansMsgs) :
    a.pending = b.pending ∧ a.powered = b.powered ∧ a.clock = b.clock ∧ a.fresh = b.fresh ∧ a.ports = b.ports
      ∧ a.assemblies = b.assemblies ∧ a.restartBy = b.restartBy ∧ a.profiles = b.profiles ∧ a.bankA = b.bankA
      ∧ a.bankB = b.bankB ∧ a.live = b.live ∧ a.swapPending = b.swapPending ∧ a.active = b.active
      ∧ a.counters = b.counters ∧ a.pins = b.pins ∧ a.occupied = b.occupied ∧ a.channels = b.channels
      ∧ a.router = b.router ∧ a.talk = b.talk ∧ a.denied = b.denied ∧ a.calls = b.calls ∧ a.samples = b.samples
      ∧ a.shown = b.shown ∧ a.line = b.line ∧ a.noticeControl = b.noticeControl ∧ a.loader = b.loader
      ∧ a.save = b.save ∧ a.store = b.store := by
  exact ⟨(congrArg State.pending h :), (congrArg State.powered h :), (congrArg State.clock h :),
    (congrArg State.fresh h :), (congrArg State.ports h :), (congrArg State.assemblies h :),
    (congrArg State.restartBy h :), (congrArg State.profiles h :), (congrArg State.bankA h :),
    (congrArg State.bankB h :), (congrArg State.live h :), (congrArg State.swapPending h :),
    (congrArg State.active h :), (congrArg State.counters h :), (congrArg State.pins h :),
    (congrArg State.occupied h :), (congrArg State.channels h :), (congrArg State.router h :),
    (congrArg State.talk h :), (congrArg State.denied h :), (congrArg State.calls h :),
    (congrArg State.samples h :), (congrArg State.shown h :), (congrArg State.line h :),
    (congrArg State.noticeControl h :), (congrArg State.loader h :), (congrArg State.save h :),
    (congrArg State.store h :)⟩

/-- A fold of operations that each keep the rest keeps the rest. -/
theorem foldl_sansMsgs {β : Type} (f : State → β → State) (h : ∀ t x, (f t x).sansMsgs = t.sansMsgs) :
    ∀ (l : List β) (s : State), (l.foldl f s).sansMsgs = s.sansMsgs
  | [], _ => rfl
  | x :: l, s => by rw [List.foldl_cons, foldl_sansMsgs f h l (f s x), h s x]

@[simp] theorem setQueue_sansMsgs (s : State) (p : Port) (q : List TxEntry) :
    (s.setQueue p q).sansMsgs = s.sansMsgs := rfl

@[simp] theorem setGap_sansMsgs (s : State) (p : Port) (g : Bool) : (s.setGap p g).sansMsgs = s.sansMsgs := rfl

@[simp] theorem setNotice_sansMsgs (s : State) (k : NoticeKind) (r : NoticeRecord) :
    (s.setNotice k r).sansMsgs = s.sansMsgs := rfl

@[simp] theorem testNotice_sansMsgs (s : State) (k : NoticeKind) : (s.testNotice k).sansMsgs = s.sansMsgs := by
  unfold State.testNotice
  split
  · rw [setNotice_sansMsgs, setQueue_sansMsgs]
  · rfl

/-- What testNotice keeps. -/
@[simp] theorem testNotice_fields (s : State) (k : NoticeKind) :
    (s.testNotice k).pending = s.pending ∧ (s.testNotice k).powered = s.powered ∧ (s.testNotice k).clock = s.clock
      ∧ (s.testNotice k).fresh = s.fresh ∧ (s.testNotice k).ports = s.ports
      ∧ (s.testNotice k).assemblies = s.assemblies ∧ (s.testNotice k).restartBy = s.restartBy
      ∧ (s.testNotice k).profiles = s.profiles ∧ (s.testNotice k).bankA = s.bankA ∧ (s.testNotice k).bankB = s.bankB
      ∧ (s.testNotice k).live = s.live ∧ (s.testNotice k).swapPending = s.swapPending
      ∧ (s.testNotice k).active = s.active ∧ (s.testNotice k).counters = s.counters ∧ (s.testNotice k).pins = s.pins
      ∧ (s.testNotice k).occupied = s.occupied ∧ (s.testNotice k).channels = s.channels
      ∧ (s.testNotice k).router = s.router ∧ (s.testNotice k).talk = s.talk ∧ (s.testNotice k).denied = s.denied
      ∧ (s.testNotice k).calls = s.calls ∧ (s.testNotice k).samples = s.samples ∧ (s.testNotice k).shown = s.shown
      ∧ (s.testNotice k).line = s.line ∧ (s.testNotice k).noticeControl = s.noticeControl
      ∧ (s.testNotice k).loader = s.loader ∧ (s.testNotice k).save = s.save ∧ (s.testNotice k).store = s.store :=
  fields_of_sansMsgs (testNotice_sansMsgs s k)

@[simp] theorem testNotices_sansMsgs (s : State) (f : Lane → NoticeKind →
    Bool) : (s.testNotices f).sansMsgs = s.sansMsgs := by
  refine foldl_sansMsgs _ (fun t x => ?_) _ _
  split
  · exact testNotice_sansMsgs t x.2
  · rfl

/-- What testNotices keeps. -/
@[simp] theorem testNotices_fields (s : State) (f : Lane → NoticeKind → Bool) :
    (s.testNotices f).pending = s.pending ∧ (s.testNotices f).powered = s.powered
      ∧ (s.testNotices f).clock = s.clock ∧ (s.testNotices f).fresh = s.fresh ∧ (s.testNotices f).ports = s.ports
      ∧ (s.testNotices f).assemblies = s.assemblies ∧ (s.testNotices f).restartBy = s.restartBy
      ∧ (s.testNotices f).profiles = s.profiles ∧ (s.testNotices f).bankA = s.bankA
      ∧ (s.testNotices f).bankB = s.bankB ∧ (s.testNotices f).live = s.live
      ∧ (s.testNotices f).swapPending = s.swapPending ∧ (s.testNotices f).active = s.active
      ∧ (s.testNotices f).counters = s.counters ∧ (s.testNotices f).pins = s.pins
      ∧ (s.testNotices f).occupied = s.occupied ∧ (s.testNotices f).channels = s.channels
      ∧ (s.testNotices f).router = s.router ∧ (s.testNotices f).talk = s.talk ∧ (s.testNotices f).denied = s.denied
      ∧ (s.testNotices f).calls = s.calls ∧ (s.testNotices f).samples = s.samples ∧ (s.testNotices f).shown = s.shown
      ∧ (s.testNotices f).line = s.line ∧ (s.testNotices f).noticeControl = s.noticeControl
      ∧ (s.testNotices f).loader = s.loader ∧ (s.testNotices f).save = s.save ∧ (s.testNotices f).store = s.store :=
  fields_of_sansMsgs (testNotices_sansMsgs s f)

@[simp] theorem offer_sansMsgs (s : State) (p : Port) : (s.offer p).sansMsgs = s.sansMsgs := testNotices_sansMsgs _ _

/-- What offer keeps. -/
@[simp] theorem offer_fields (s : State) (p : Port) :
    (s.offer p).pending = s.pending ∧ (s.offer p).powered = s.powered ∧ (s.offer p).clock = s.clock
      ∧ (s.offer p).fresh = s.fresh ∧ (s.offer p).ports = s.ports ∧ (s.offer p).assemblies = s.assemblies
      ∧ (s.offer p).restartBy = s.restartBy ∧ (s.offer p).profiles = s.profiles ∧ (s.offer p).bankA = s.bankA
      ∧ (s.offer p).bankB = s.bankB ∧ (s.offer p).live = s.live ∧ (s.offer p).swapPending = s.swapPending
      ∧ (s.offer p).active = s.active ∧ (s.offer p).counters = s.counters ∧ (s.offer p).pins = s.pins
      ∧ (s.offer p).occupied = s.occupied ∧ (s.offer p).channels = s.channels ∧ (s.offer p).router = s.router
      ∧ (s.offer p).talk = s.talk ∧ (s.offer p).denied = s.denied ∧ (s.offer p).calls = s.calls
      ∧ (s.offer p).samples = s.samples ∧ (s.offer p).shown = s.shown ∧ (s.offer p).line = s.line
      ∧ (s.offer p).noticeControl = s.noticeControl ∧ (s.offer p).loader = s.loader ∧ (s.offer p).save = s.save
      ∧ (s.offer p).store = s.store :=
  fields_of_sansMsgs (offer_sansMsgs s p)

@[simp] theorem record_sansMsgs (s : State) (d : NoticeDetail) : (s.record d).sansMsgs = s.sansMsgs := rfl

@[simp] theorem raise_sansMsgs (s : State) (d : NoticeDetail) : (s.raise d).sansMsgs = s.sansMsgs := by
  rw [State.raise, testNotice_sansMsgs, record_sansMsgs, offer_sansMsgs]

/-- What raise keeps. -/
@[simp] theorem raise_fields (s : State) (d : NoticeDetail) :
    (s.raise d).pending = s.pending ∧ (s.raise d).powered = s.powered ∧ (s.raise d).clock = s.clock
      ∧ (s.raise d).fresh = s.fresh ∧ (s.raise d).ports = s.ports ∧ (s.raise d).assemblies = s.assemblies
      ∧ (s.raise d).restartBy = s.restartBy ∧ (s.raise d).profiles = s.profiles ∧ (s.raise d).bankA = s.bankA
      ∧ (s.raise d).bankB = s.bankB ∧ (s.raise d).live = s.live ∧ (s.raise d).swapPending = s.swapPending
      ∧ (s.raise d).active = s.active ∧ (s.raise d).counters = s.counters ∧ (s.raise d).pins = s.pins
      ∧ (s.raise d).occupied = s.occupied ∧ (s.raise d).channels = s.channels ∧ (s.raise d).router = s.router
      ∧ (s.raise d).talk = s.talk ∧ (s.raise d).denied = s.denied ∧ (s.raise d).calls = s.calls
      ∧ (s.raise d).samples = s.samples ∧ (s.raise d).shown = s.shown ∧ (s.raise d).line = s.line
      ∧ (s.raise d).noticeControl = s.noticeControl ∧ (s.raise d).loader = s.loader ∧ (s.raise d).save = s.save
      ∧ (s.raise d).store = s.store :=
  fields_of_sansMsgs (raise_sansMsgs s d)

@[simp] theorem deskCopy_sansMsgs (s : State) (b : DeskBody) (p : Port) : (s.deskCopy b p).sansMsgs = s.sansMsgs := by
  unfold State.deskCopy
  split
  · rw [setGap_sansMsgs, setQueue_sansMsgs]
  · split
    · rw [setGap_sansMsgs, setQueue_sansMsgs]
    · rw [setGap_sansMsgs]

/-- What deskCopy keeps. -/
@[simp] theorem deskCopy_fields (s : State) (b : DeskBody) (p : Port) :
    (s.deskCopy b p).pending = s.pending ∧ (s.deskCopy b p).powered = s.powered ∧ (s.deskCopy b p).clock = s.clock
      ∧ (s.deskCopy b p).fresh = s.fresh ∧ (s.deskCopy b p).ports = s.ports
      ∧ (s.deskCopy b p).assemblies = s.assemblies ∧ (s.deskCopy b p).restartBy = s.restartBy
      ∧ (s.deskCopy b p).profiles = s.profiles ∧ (s.deskCopy b p).bankA = s.bankA ∧ (s.deskCopy b p).bankB = s.bankB
      ∧ (s.deskCopy b p).live = s.live ∧ (s.deskCopy b p).swapPending = s.swapPending
      ∧ (s.deskCopy b p).active = s.active ∧ (s.deskCopy b p).counters = s.counters ∧ (s.deskCopy b p).pins = s.pins
      ∧ (s.deskCopy b p).occupied = s.occupied ∧ (s.deskCopy b p).channels = s.channels
      ∧ (s.deskCopy b p).router = s.router ∧ (s.deskCopy b p).talk = s.talk ∧ (s.deskCopy b p).denied = s.denied
      ∧ (s.deskCopy b p).calls = s.calls ∧ (s.deskCopy b p).samples = s.samples ∧ (s.deskCopy b p).shown = s.shown
      ∧ (s.deskCopy b p).line = s.line ∧ (s.deskCopy b p).noticeControl = s.noticeControl
      ∧ (s.deskCopy b p).loader = s.loader ∧ (s.deskCopy b p).save = s.save ∧ (s.deskCopy b p).store = s.store :=
  fields_of_sansMsgs (deskCopy_sansMsgs s b p)

@[simp] theorem deskStatus_sansMsgs (s : State) (b : DeskBody) : (s.deskStatus b).sansMsgs = s.sansMsgs := by
  exact foldl_sansMsgs _ (fun t p => deskCopy_sansMsgs t b p) _ _

/-- What deskStatus keeps. -/
@[simp] theorem deskStatus_fields (s : State) (b : DeskBody) :
    (s.deskStatus b).pending = s.pending ∧ (s.deskStatus b).powered = s.powered ∧ (s.deskStatus b).clock = s.clock
      ∧ (s.deskStatus b).fresh = s.fresh ∧ (s.deskStatus b).ports = s.ports
      ∧ (s.deskStatus b).assemblies = s.assemblies ∧ (s.deskStatus b).restartBy = s.restartBy
      ∧ (s.deskStatus b).profiles = s.profiles ∧ (s.deskStatus b).bankA = s.bankA ∧ (s.deskStatus b).bankB = s.bankB
      ∧ (s.deskStatus b).live = s.live ∧ (s.deskStatus b).swapPending = s.swapPending
      ∧ (s.deskStatus b).active = s.active ∧ (s.deskStatus b).counters = s.counters ∧ (s.deskStatus b).pins = s.pins
      ∧ (s.deskStatus b).occupied = s.occupied ∧ (s.deskStatus b).channels = s.channels
      ∧ (s.deskStatus b).router = s.router ∧ (s.deskStatus b).talk = s.talk ∧ (s.deskStatus b).denied = s.denied
      ∧ (s.deskStatus b).calls = s.calls ∧ (s.deskStatus b).samples = s.samples ∧ (s.deskStatus b).shown = s.shown
      ∧ (s.deskStatus b).line = s.line ∧ (s.deskStatus b).noticeControl = s.noticeControl
      ∧ (s.deskStatus b).loader = s.loader ∧ (s.deskStatus b).save = s.save ∧ (s.deskStatus b).store = s.store :=
  fields_of_sansMsgs (deskStatus_sansMsgs s b)

@[simp] theorem handOn_sansMsgs (s : State) (r : ActiveCue) : (s.handOn r).sansMsgs = s.sansMsgs :=
    deskStatus_sansMsgs _ _

/-- What handOn keeps. -/
@[simp] theorem handOn_fields (s : State) (r : ActiveCue) :
    (s.handOn r).pending = s.pending ∧ (s.handOn r).powered = s.powered ∧ (s.handOn r).clock = s.clock
      ∧ (s.handOn r).fresh = s.fresh ∧ (s.handOn r).ports = s.ports ∧ (s.handOn r).assemblies = s.assemblies
      ∧ (s.handOn r).restartBy = s.restartBy ∧ (s.handOn r).profiles = s.profiles ∧ (s.handOn r).bankA = s.bankA
      ∧ (s.handOn r).bankB = s.bankB ∧ (s.handOn r).live = s.live ∧ (s.handOn r).swapPending = s.swapPending
      ∧ (s.handOn r).active = s.active ∧ (s.handOn r).counters = s.counters ∧ (s.handOn r).pins = s.pins
      ∧ (s.handOn r).occupied = s.occupied ∧ (s.handOn r).channels = s.channels ∧ (s.handOn r).router = s.router
      ∧ (s.handOn r).talk = s.talk ∧ (s.handOn r).denied = s.denied ∧ (s.handOn r).calls = s.calls
      ∧ (s.handOn r).samples = s.samples ∧ (s.handOn r).shown = s.shown ∧ (s.handOn r).line = s.line
      ∧ (s.handOn r).noticeControl = s.noticeControl ∧ (s.handOn r).loader = s.loader ∧ (s.handOn r).save = s.save
      ∧ (s.handOn r).store = s.store :=
  fields_of_sansMsgs (handOn_sansMsgs s r)

@[simp] theorem queueAsk_sansMsgs (s : State) (p : Port) (n : Nat) : (s.queueAsk p n).sansMsgs = s.sansMsgs := by
  unfold State.queueAsk
  split
  · rw [setQueue_sansMsgs]
  · rfl

/-- What queueAsk keeps. -/
@[simp] theorem queueAsk_fields (s : State) (p : Port) (n : Nat) :
    (s.queueAsk p n).pending = s.pending ∧ (s.queueAsk p n).powered = s.powered ∧ (s.queueAsk p n).clock = s.clock
      ∧ (s.queueAsk p n).fresh = s.fresh ∧ (s.queueAsk p n).ports = s.ports
      ∧ (s.queueAsk p n).assemblies = s.assemblies ∧ (s.queueAsk p n).restartBy = s.restartBy
      ∧ (s.queueAsk p n).profiles = s.profiles ∧ (s.queueAsk p n).bankA = s.bankA ∧ (s.queueAsk p n).bankB = s.bankB
      ∧ (s.queueAsk p n).live = s.live ∧ (s.queueAsk p n).swapPending = s.swapPending
      ∧ (s.queueAsk p n).active = s.active ∧ (s.queueAsk p n).counters = s.counters ∧ (s.queueAsk p n).pins = s.pins
      ∧ (s.queueAsk p n).occupied = s.occupied ∧ (s.queueAsk p n).channels = s.channels
      ∧ (s.queueAsk p n).router = s.router ∧ (s.queueAsk p n).talk = s.talk ∧ (s.queueAsk p n).denied = s.denied
      ∧ (s.queueAsk p n).calls = s.calls ∧ (s.queueAsk p n).samples = s.samples ∧ (s.queueAsk p n).shown = s.shown
      ∧ (s.queueAsk p n).line = s.line ∧ (s.queueAsk p n).noticeControl = s.noticeControl
      ∧ (s.queueAsk p n).loader = s.loader ∧ (s.queueAsk p n).save = s.save ∧ (s.queueAsk p n).store = s.store :=
  fields_of_sansMsgs (queueAsk_sansMsgs s p n)

@[simp] theorem dropAsks_sansMsgs (s : State) (p : Port) : (s.dropAsks p).sansMsgs = s.sansMsgs :=
    setQueue_sansMsgs _ _ _

/-- What dropAsks keeps. -/
@[simp] theorem dropAsks_fields (s : State) (p : Port) :
    (s.dropAsks p).pending = s.pending ∧ (s.dropAsks p).powered = s.powered ∧ (s.dropAsks p).clock = s.clock
      ∧ (s.dropAsks p).fresh = s.fresh ∧ (s.dropAsks p).ports = s.ports ∧ (s.dropAsks p).assemblies = s.assemblies
      ∧ (s.dropAsks p).restartBy = s.restartBy ∧ (s.dropAsks p).profiles = s.profiles ∧ (s.dropAsks p).bankA = s.bankA
      ∧ (s.dropAsks p).bankB = s.bankB ∧ (s.dropAsks p).live = s.live ∧ (s.dropAsks p).swapPending = s.swapPending
      ∧ (s.dropAsks p).active = s.active ∧ (s.dropAsks p).counters = s.counters ∧ (s.dropAsks p).pins = s.pins
      ∧ (s.dropAsks p).occupied = s.occupied ∧ (s.dropAsks p).channels = s.channels ∧ (s.dropAsks p).router = s.router
      ∧ (s.dropAsks p).talk = s.talk ∧ (s.dropAsks p).denied = s.denied ∧ (s.dropAsks p).calls = s.calls
      ∧ (s.dropAsks p).samples = s.samples ∧ (s.dropAsks p).shown = s.shown ∧ (s.dropAsks p).line = s.line
      ∧ (s.dropAsks p).noticeControl = s.noticeControl ∧ (s.dropAsks p).loader = s.loader
      ∧ (s.dropAsks p).save = s.save ∧ (s.dropAsks p).store = s.store :=
  fields_of_sansMsgs (dropAsks_sansMsgs s p)

@[simp] theorem reserve_sansMsgs (s : State) (p : Port) : (s.reserve p).sansMsgs = s.sansMsgs := setQueue_sansMsgs _ _ _

/-- What reserve keeps. -/
@[simp] theorem reserve_fields (s : State) (p : Port) :
    (s.reserve p).pending = s.pending ∧ (s.reserve p).powered = s.powered ∧ (s.reserve p).clock = s.clock
      ∧ (s.reserve p).fresh = s.fresh ∧ (s.reserve p).ports = s.ports ∧ (s.reserve p).assemblies = s.assemblies
      ∧ (s.reserve p).restartBy = s.restartBy ∧ (s.reserve p).profiles = s.profiles ∧ (s.reserve p).bankA = s.bankA
      ∧ (s.reserve p).bankB = s.bankB ∧ (s.reserve p).live = s.live ∧ (s.reserve p).swapPending = s.swapPending
      ∧ (s.reserve p).active = s.active ∧ (s.reserve p).counters = s.counters ∧ (s.reserve p).pins = s.pins
      ∧ (s.reserve p).occupied = s.occupied ∧ (s.reserve p).channels = s.channels ∧ (s.reserve p).router = s.router
      ∧ (s.reserve p).talk = s.talk ∧ (s.reserve p).denied = s.denied ∧ (s.reserve p).calls = s.calls
      ∧ (s.reserve p).samples = s.samples ∧ (s.reserve p).shown = s.shown ∧ (s.reserve p).line = s.line
      ∧ (s.reserve p).noticeControl = s.noticeControl ∧ (s.reserve p).loader = s.loader ∧ (s.reserve p).save = s.save
      ∧ (s.reserve p).store = s.store :=
  fields_of_sansMsgs (reserve_sansMsgs s p)

@[simp] theorem answer_sansMsgs (s : State) (p : Port) (kind tag : Octet) (a : Answer) :
    (s.answer p kind tag a).sansMsgs = s.sansMsgs := setQueue_sansMsgs _ _ _

/-- What answer keeps. -/
@[simp] theorem answer_fields (s : State) (p : Port) (kind tag : Octet) (a : Answer) :
    (s.answer p kind tag a).pending = s.pending ∧ (s.answer p kind tag a).powered = s.powered
      ∧ (s.answer p kind tag a).clock = s.clock ∧ (s.answer p kind tag a).fresh = s.fresh
      ∧ (s.answer p kind tag a).ports = s.ports ∧ (s.answer p kind tag a).assemblies = s.assemblies
      ∧ (s.answer p kind tag a).restartBy = s.restartBy ∧ (s.answer p kind tag a).profiles = s.profiles
      ∧ (s.answer p kind tag a).bankA = s.bankA ∧ (s.answer p kind tag a).bankB = s.bankB
      ∧ (s.answer p kind tag a).live = s.live ∧ (s.answer p kind tag a).swapPending = s.swapPending
      ∧ (s.answer p kind tag a).active = s.active ∧ (s.answer p kind tag a).counters = s.counters
      ∧ (s.answer p kind tag a).pins = s.pins ∧ (s.answer p kind tag a).occupied = s.occupied
      ∧ (s.answer p kind tag a).channels = s.channels ∧ (s.answer p kind tag a).router = s.router
      ∧ (s.answer p kind tag a).talk = s.talk ∧ (s.answer p kind tag a).denied = s.denied
      ∧ (s.answer p kind tag a).calls = s.calls ∧ (s.answer p kind tag a).samples = s.samples
      ∧ (s.answer p kind tag a).shown = s.shown ∧ (s.answer p kind tag a).line = s.line
      ∧ (s.answer p kind tag a).noticeControl = s.noticeControl ∧ (s.answer p kind tag a).loader = s.loader
      ∧ (s.answer p kind tag a).save = s.save ∧ (s.answer p kind tag a).store = s.store :=
  fields_of_sansMsgs (answer_sansMsgs s p kind tag a)

@[simp] theorem noticeAbsent_sansMsgs (s : State) (r : ActiveCue) : (s.noticeAbsent r).sansMsgs = s.sansMsgs := by
  unfold State.noticeAbsent
  split
  · rfl
  · exact raise_sansMsgs _ _

/-- What noticeAbsent keeps. -/
@[simp] theorem noticeAbsent_fields (s : State) (r : ActiveCue) :
    (s.noticeAbsent r).pending = s.pending ∧ (s.noticeAbsent r).powered = s.powered
      ∧ (s.noticeAbsent r).clock = s.clock ∧ (s.noticeAbsent r).fresh = s.fresh ∧ (s.noticeAbsent r).ports = s.ports
      ∧ (s.noticeAbsent r).assemblies = s.assemblies ∧ (s.noticeAbsent r).restartBy = s.restartBy
      ∧ (s.noticeAbsent r).profiles = s.profiles ∧ (s.noticeAbsent r).bankA = s.bankA
      ∧ (s.noticeAbsent r).bankB = s.bankB ∧ (s.noticeAbsent r).live = s.live
      ∧ (s.noticeAbsent r).swapPending = s.swapPending ∧ (s.noticeAbsent r).active = s.active
      ∧ (s.noticeAbsent r).counters = s.counters ∧ (s.noticeAbsent r).pins = s.pins
      ∧ (s.noticeAbsent r).occupied = s.occupied ∧ (s.noticeAbsent r).channels = s.channels
      ∧ (s.noticeAbsent r).router = s.router ∧ (s.noticeAbsent r).talk = s.talk ∧ (s.noticeAbsent r).denied = s.denied
      ∧ (s.noticeAbsent r).calls = s.calls ∧ (s.noticeAbsent r).samples = s.samples
      ∧ (s.noticeAbsent r).shown = s.shown ∧ (s.noticeAbsent r).line = s.line
      ∧ (s.noticeAbsent r).noticeControl = s.noticeControl ∧ (s.noticeAbsent r).loader = s.loader
      ∧ (s.noticeAbsent r).save = s.save ∧ (s.noticeAbsent r).store = s.store :=
  fields_of_sansMsgs (noticeAbsent_sansMsgs s r)

@[simp] theorem refuseCue_sansMsgs (s : State) (slot : CueSlot) (st : Status) (o : RefusedOrigin) :
    (s.refuseCue slot st o).sansMsgs = s.sansMsgs := raise_sansMsgs _ _

/-- What refuseCue keeps. -/
@[simp] theorem refuseCue_fields (s : State) (slot : CueSlot) (st : Status) (o : RefusedOrigin) :
    (s.refuseCue slot st o).pending = s.pending ∧ (s.refuseCue slot st o).powered = s.powered
      ∧ (s.refuseCue slot st o).clock = s.clock ∧ (s.refuseCue slot st o).fresh = s.fresh
      ∧ (s.refuseCue slot st o).ports = s.ports ∧ (s.refuseCue slot st o).assemblies = s.assemblies
      ∧ (s.refuseCue slot st o).restartBy = s.restartBy ∧ (s.refuseCue slot st o).profiles = s.profiles
      ∧ (s.refuseCue slot st o).bankA = s.bankA ∧ (s.refuseCue slot st o).bankB = s.bankB
      ∧ (s.refuseCue slot st o).live = s.live ∧ (s.refuseCue slot st o).swapPending = s.swapPending
      ∧ (s.refuseCue slot st o).active = s.active ∧ (s.refuseCue slot st o).counters = s.counters
      ∧ (s.refuseCue slot st o).pins = s.pins ∧ (s.refuseCue slot st o).occupied = s.occupied
      ∧ (s.refuseCue slot st o).channels = s.channels ∧ (s.refuseCue slot st o).router = s.router
      ∧ (s.refuseCue slot st o).talk = s.talk ∧ (s.refuseCue slot st o).denied = s.denied
      ∧ (s.refuseCue slot st o).calls = s.calls ∧ (s.refuseCue slot st o).samples = s.samples
      ∧ (s.refuseCue slot st o).shown = s.shown ∧ (s.refuseCue slot st o).line = s.line
      ∧ (s.refuseCue slot st o).noticeControl = s.noticeControl ∧ (s.refuseCue slot st o).loader = s.loader
      ∧ (s.refuseCue slot st o).save = s.save ∧ (s.refuseCue slot st o).store = s.store :=
  fields_of_sansMsgs (refuseCue_sansMsgs s slot st o)

@[simp] theorem testAll_sansMsgs (s : State) : (s.testAll).sansMsgs = s.sansMsgs := testNotices_sansMsgs _ _

/-- What testAll keeps. -/
@[simp] theorem testAll_fields (s : State) :
    (s.testAll).pending = s.pending ∧ (s.testAll).powered = s.powered ∧ (s.testAll).clock = s.clock
      ∧ (s.testAll).fresh = s.fresh ∧ (s.testAll).ports = s.ports ∧ (s.testAll).assemblies = s.assemblies
      ∧ (s.testAll).restartBy = s.restartBy ∧ (s.testAll).profiles = s.profiles ∧ (s.testAll).bankA = s.bankA
      ∧ (s.testAll).bankB = s.bankB ∧ (s.testAll).live = s.live ∧ (s.testAll).swapPending = s.swapPending
      ∧ (s.testAll).active = s.active ∧ (s.testAll).counters = s.counters ∧ (s.testAll).pins = s.pins
      ∧ (s.testAll).occupied = s.occupied ∧ (s.testAll).channels = s.channels ∧ (s.testAll).router = s.router
      ∧ (s.testAll).talk = s.talk ∧ (s.testAll).denied = s.denied ∧ (s.testAll).calls = s.calls
      ∧ (s.testAll).samples = s.samples ∧ (s.testAll).shown = s.shown ∧ (s.testAll).line = s.line
      ∧ (s.testAll).noticeControl = s.noticeControl ∧ (s.testAll).loader = s.loader ∧ (s.testAll).save = s.save
      ∧ (s.testAll).store = s.store :=
  fields_of_sansMsgs (testAll_sansMsgs s)

@[simp] theorem testLane_sansMsgs (s : State) (l : Lane) : (s.testLane l).sansMsgs = s.sansMsgs :=
    testNotices_sansMsgs _ _

/-- What testLane keeps. -/
@[simp] theorem testLane_fields (s : State) (l : Lane) :
    (s.testLane l).pending = s.pending ∧ (s.testLane l).powered = s.powered ∧ (s.testLane l).clock = s.clock
      ∧ (s.testLane l).fresh = s.fresh ∧ (s.testLane l).ports = s.ports ∧ (s.testLane l).assemblies = s.assemblies
      ∧ (s.testLane l).restartBy = s.restartBy ∧ (s.testLane l).profiles = s.profiles ∧ (s.testLane l).bankA = s.bankA
      ∧ (s.testLane l).bankB = s.bankB ∧ (s.testLane l).live = s.live ∧ (s.testLane l).swapPending = s.swapPending
      ∧ (s.testLane l).active = s.active ∧ (s.testLane l).counters = s.counters ∧ (s.testLane l).pins = s.pins
      ∧ (s.testLane l).occupied = s.occupied ∧ (s.testLane l).channels = s.channels ∧ (s.testLane l).router = s.router
      ∧ (s.testLane l).talk = s.talk ∧ (s.testLane l).denied = s.denied ∧ (s.testLane l).calls = s.calls
      ∧ (s.testLane l).samples = s.samples ∧ (s.testLane l).shown = s.shown ∧ (s.testLane l).line = s.line
      ∧ (s.testLane l).noticeControl = s.noticeControl ∧ (s.testLane l).loader = s.loader
      ∧ (s.testLane l).save = s.save ∧ (s.testLane l).store = s.store :=
  fields_of_sansMsgs (testLane_sansMsgs s l)

@[simp] theorem testPlace_sansMsgs (s : State) (x : NoticePlace) : (s.testPlace x).sansMsgs = s.sansMsgs := by
  cases x
  · exact testAll_sansMsgs s
  · exact testNotice_sansMsgs s _
  · exact testLane_sansMsgs s _

/-- What testPlace keeps. -/
@[simp] theorem testPlace_fields (s : State) (x : NoticePlace) :
    (s.testPlace x).pending = s.pending ∧ (s.testPlace x).powered = s.powered ∧ (s.testPlace x).clock = s.clock
      ∧ (s.testPlace x).fresh = s.fresh ∧ (s.testPlace x).ports = s.ports ∧ (s.testPlace x).assemblies = s.assemblies
      ∧ (s.testPlace x).restartBy = s.restartBy ∧ (s.testPlace x).profiles = s.profiles
      ∧ (s.testPlace x).bankA = s.bankA ∧ (s.testPlace x).bankB = s.bankB ∧ (s.testPlace x).live = s.live
      ∧ (s.testPlace x).swapPending = s.swapPending ∧ (s.testPlace x).active = s.active
      ∧ (s.testPlace x).counters = s.counters ∧ (s.testPlace x).pins = s.pins ∧ (s.testPlace x).occupied = s.occupied
      ∧ (s.testPlace x).channels = s.channels ∧ (s.testPlace x).router = s.router ∧ (s.testPlace x).talk = s.talk
      ∧ (s.testPlace x).denied = s.denied ∧ (s.testPlace x).calls = s.calls ∧ (s.testPlace x).samples = s.samples
      ∧ (s.testPlace x).shown = s.shown ∧ (s.testPlace x).line = s.line
      ∧ (s.testPlace x).noticeControl = s.noticeControl ∧ (s.testPlace x).loader = s.loader
      ∧ (s.testPlace x).save = s.save ∧ (s.testPlace x).store = s.store :=
  fields_of_sansMsgs (testPlace_sansMsgs s x)

@[simp] theorem lanesLost_sansMsgs (s : State) (p : Port) : (s.lanesLost p).sansMsgs = s.sansMsgs := by
  exact foldl_sansMsgs _ (fun t l => raise_sansMsgs t _) _ _

/-- What lanesLost keeps. -/
@[simp] theorem lanesLost_fields (s : State) (p : Port) :
    (s.lanesLost p).pending = s.pending ∧ (s.lanesLost p).powered = s.powered ∧ (s.lanesLost p).clock = s.clock
      ∧ (s.lanesLost p).fresh = s.fresh ∧ (s.lanesLost p).ports = s.ports ∧ (s.lanesLost p).assemblies = s.assemblies
      ∧ (s.lanesLost p).restartBy = s.restartBy ∧ (s.lanesLost p).profiles = s.profiles
      ∧ (s.lanesLost p).bankA = s.bankA ∧ (s.lanesLost p).bankB = s.bankB ∧ (s.lanesLost p).live = s.live
      ∧ (s.lanesLost p).swapPending = s.swapPending ∧ (s.lanesLost p).active = s.active
      ∧ (s.lanesLost p).counters = s.counters ∧ (s.lanesLost p).pins = s.pins ∧ (s.lanesLost p).occupied = s.occupied
      ∧ (s.lanesLost p).channels = s.channels ∧ (s.lanesLost p).router = s.router ∧ (s.lanesLost p).talk = s.talk
      ∧ (s.lanesLost p).denied = s.denied ∧ (s.lanesLost p).calls = s.calls ∧ (s.lanesLost p).samples = s.samples
      ∧ (s.lanesLost p).shown = s.shown ∧ (s.lanesLost p).line = s.line
      ∧ (s.lanesLost p).noticeControl = s.noticeControl ∧ (s.lanesLost p).loader = s.loader
      ∧ (s.lanesLost p).save = s.save ∧ (s.lanesLost p).store = s.store :=
  fields_of_sansMsgs (lanesLost_sansMsgs s p)

@[simp] theorem portDown_sansMsgs (s : State) (p : Port) (c : Option DownCause) :
    (s.portDown p c).sansMsgs = s.sansMsgs := by
  cases c
  · rfl
  · exact raise_sansMsgs s _

/-- What portDown keeps. -/
@[simp] theorem portDown_fields (s : State) (p : Port) (c : Option DownCause) :
    (s.portDown p c).pending = s.pending ∧ (s.portDown p c).powered = s.powered ∧ (s.portDown p c).clock = s.clock
      ∧ (s.portDown p c).fresh = s.fresh ∧ (s.portDown p c).ports = s.ports
      ∧ (s.portDown p c).assemblies = s.assemblies ∧ (s.portDown p c).restartBy = s.restartBy
      ∧ (s.portDown p c).profiles = s.profiles ∧ (s.portDown p c).bankA = s.bankA ∧ (s.portDown p c).bankB = s.bankB
      ∧ (s.portDown p c).live = s.live ∧ (s.portDown p c).swapPending = s.swapPending
      ∧ (s.portDown p c).active = s.active ∧ (s.portDown p c).counters = s.counters ∧ (s.portDown p c).pins = s.pins
      ∧ (s.portDown p c).occupied = s.occupied ∧ (s.portDown p c).channels = s.channels
      ∧ (s.portDown p c).router = s.router ∧ (s.portDown p c).talk = s.talk ∧ (s.portDown p c).denied = s.denied
      ∧ (s.portDown p c).calls = s.calls ∧ (s.portDown p c).samples = s.samples ∧ (s.portDown p c).shown = s.shown
      ∧ (s.portDown p c).line = s.line ∧ (s.portDown p c).noticeControl = s.noticeControl
      ∧ (s.portDown p c).loader = s.loader ∧ (s.portDown p c).save = s.save ∧ (s.portDown p c).store = s.store :=
  fields_of_sansMsgs (portDown_sansMsgs s p c)

@[simp] theorem acceptUnknown_sansMsgs (s : State) (p : Port) (kind tag : Octet) :
    (s.acceptUnknown p kind tag).sansMsgs = s.sansMsgs := by
  unfold State.acceptUnknown
  split
  · split
    · rw [answer_sansMsgs, reserve_sansMsgs]
    · exact raise_sansMsgs s _
  · rfl

/-- What acceptUnknown keeps. -/
@[simp] theorem acceptUnknown_fields (s : State) (p : Port) (kind tag : Octet) :
    (s.acceptUnknown p kind tag).pending = s.pending ∧ (s.acceptUnknown p kind tag).powered = s.powered
      ∧ (s.acceptUnknown p kind tag).clock = s.clock ∧ (s.acceptUnknown p kind tag).fresh = s.fresh
      ∧ (s.acceptUnknown p kind tag).ports = s.ports ∧ (s.acceptUnknown p kind tag).assemblies = s.assemblies
      ∧ (s.acceptUnknown p kind tag).restartBy = s.restartBy ∧ (s.acceptUnknown p kind tag).profiles = s.profiles
      ∧ (s.acceptUnknown p kind tag).bankA = s.bankA ∧ (s.acceptUnknown p kind tag).bankB = s.bankB
      ∧ (s.acceptUnknown p kind tag).live = s.live ∧ (s.acceptUnknown p kind tag).swapPending = s.swapPending
      ∧ (s.acceptUnknown p kind tag).active = s.active ∧ (s.acceptUnknown p kind tag).counters = s.counters
      ∧ (s.acceptUnknown p kind tag).pins = s.pins ∧ (s.acceptUnknown p kind tag).occupied = s.occupied
      ∧ (s.acceptUnknown p kind tag).channels = s.channels ∧ (s.acceptUnknown p kind tag).router = s.router
      ∧ (s.acceptUnknown p kind tag).talk = s.talk ∧ (s.acceptUnknown p kind tag).denied = s.denied
      ∧ (s.acceptUnknown p kind tag).calls = s.calls ∧ (s.acceptUnknown p kind tag).samples = s.samples
      ∧ (s.acceptUnknown p kind tag).shown = s.shown ∧ (s.acceptUnknown p kind tag).line = s.line
      ∧ (s.acceptUnknown p kind tag).noticeControl = s.noticeControl ∧ (s.acceptUnknown p kind tag).loader = s.loader
      ∧ (s.acceptUnknown p kind tag).save = s.save ∧ (s.acceptUnknown p kind tag).store = s.store :=
  fields_of_sansMsgs (acceptUnknown_sansMsgs s p kind tag)

@[simp] theorem buildNotice_sansMsgs (s : State) (k : NoticeKind) : (s.buildNotice k).sansMsgs = s.sansMsgs := by
  unfold State.buildNotice
  split
  · exact testNotice_sansMsgs s k
  · rfl

/-- What buildNotice keeps. -/
@[simp] theorem buildNotice_fields (s : State) (k : NoticeKind) :
    (s.buildNotice k).pending = s.pending ∧ (s.buildNotice k).powered = s.powered
      ∧ (s.buildNotice k).clock = s.clock ∧ (s.buildNotice k).fresh = s.fresh ∧ (s.buildNotice k).ports = s.ports
      ∧ (s.buildNotice k).assemblies = s.assemblies ∧ (s.buildNotice k).restartBy = s.restartBy
      ∧ (s.buildNotice k).profiles = s.profiles ∧ (s.buildNotice k).bankA = s.bankA
      ∧ (s.buildNotice k).bankB = s.bankB ∧ (s.buildNotice k).live = s.live
      ∧ (s.buildNotice k).swapPending = s.swapPending ∧ (s.buildNotice k).active = s.active
      ∧ (s.buildNotice k).counters = s.counters ∧ (s.buildNotice k).pins = s.pins
      ∧ (s.buildNotice k).occupied = s.occupied ∧ (s.buildNotice k).channels = s.channels
      ∧ (s.buildNotice k).router = s.router ∧ (s.buildNotice k).talk = s.talk ∧ (s.buildNotice k).denied = s.denied
      ∧ (s.buildNotice k).calls = s.calls ∧ (s.buildNotice k).samples = s.samples ∧ (s.buildNotice k).shown = s.shown
      ∧ (s.buildNotice k).line = s.line ∧ (s.buildNotice k).noticeControl = s.noticeControl
      ∧ (s.buildNotice k).loader = s.loader ∧ (s.buildNotice k).save = s.save ∧ (s.buildNotice k).store = s.store :=
  fields_of_sansMsgs (buildNotice_sansMsgs s k)

end Sys2Proof.Machine
end

