-- ==== Sys2Proof/Laws/Cues.lean ====
section
/-! SUPPORT. The operations of the Cue Engine but a removal touch the Active Cue List and the messages and nothing
else. -/

namespace Sys2Proof.Machine

/-- The state without its messages and its Active Cue List. -/
def State.sansCues (s : State) : State :=
  { s with
    active := []
    queues := Vector.replicate 32 []
    gaps := Vector.replicate 32 false
    notices := Vector.replicate 18 NoticeRecord.empty }

/-- States equal apart from what `sansCues` erases agree in every other field. -/
theorem fields_of_sansCues {a b : State} (h : a.sansCues = b.sansCues) :
    a.pending = b.pending ∧ a.powered = b.powered ∧ a.clock = b.clock ∧ a.fresh = b.fresh ∧ a.ports = b.ports
      ∧ a.assemblies = b.assemblies ∧ a.restartBy = b.restartBy ∧ a.profiles = b.profiles ∧ a.bankA = b.bankA
      ∧ a.bankB = b.bankB ∧ a.live = b.live ∧ a.swapPending = b.swapPending ∧ a.counters = b.counters
      ∧ a.pins = b.pins ∧ a.occupied = b.occupied ∧ a.channels = b.channels ∧ a.router = b.router ∧ a.talk = b.talk
      ∧ a.denied = b.denied ∧ a.calls = b.calls ∧ a.samples = b.samples ∧ a.shown = b.shown ∧ a.line = b.line
      ∧ a.noticeControl = b.noticeControl ∧ a.loader = b.loader ∧ a.save = b.save ∧ a.store = b.store := by
  exact ⟨(congrArg State.pending h :), (congrArg State.powered h :), (congrArg State.clock h :),
    (congrArg State.fresh h :), (congrArg State.ports h :), (congrArg State.assemblies h :),
    (congrArg State.restartBy h :), (congrArg State.profiles h :), (congrArg State.bankA h :),
    (congrArg State.bankB h :), (congrArg State.live h :), (congrArg State.swapPending h :),
    (congrArg State.counters h :), (congrArg State.pins h :), (congrArg State.occupied h :),
    (congrArg State.channels h :), (congrArg State.router h :), (congrArg State.talk h :),
    (congrArg State.denied h :), (congrArg State.calls h :), (congrArg State.samples h :),
    (congrArg State.shown h :), (congrArg State.line h :), (congrArg State.noticeControl h :),
    (congrArg State.loader h :), (congrArg State.save h :), (congrArg State.store h :)⟩

/-- A fold of operations that each keep the rest keeps the rest. -/
theorem foldl_sansCues {β : Type} (f : State → β → State) (h : ∀ t x, (f t x).sansCues = t.sansCues) :
    ∀ (l : List β) (s : State), (l.foldl f s).sansCues = s.sansCues
  | [], _ => rfl
  | x :: l, s => by rw [List.foldl_cons, foldl_sansCues f h l (f s x), h s x]

/-- What changes only messages changes nothing that `sansCues` keeps. -/
theorem sansCues_of_sansMsgs {a b : State} (h : a.sansMsgs = b.sansMsgs) : a.sansCues = b.sansCues :=
  (congrArg State.sansCues h :)

theorem setActive_sansCues (s : State) (l : List ActiveCue) :
    (s.setActive l).sansCues = s.sansCues := rfl

theorem putCue_sansCues (s : State) (r : ActiveCue) :
    (s.putCue r).sansCues = s.sansCues := rfl

/-- What putCue keeps. -/
@[simp] theorem putCue_fields (s : State) (r : ActiveCue) :
    (s.putCue r).pending = s.pending ∧ (s.putCue r).powered = s.powered ∧ (s.putCue r).clock = s.clock
      ∧ (s.putCue r).fresh = s.fresh ∧ (s.putCue r).ports = s.ports ∧ (s.putCue r).assemblies = s.assemblies
      ∧ (s.putCue r).restartBy = s.restartBy ∧ (s.putCue r).profiles = s.profiles ∧ (s.putCue r).bankA = s.bankA
      ∧ (s.putCue r).bankB = s.bankB ∧ (s.putCue r).live = s.live ∧ (s.putCue r).swapPending = s.swapPending
      ∧ (s.putCue r).counters = s.counters ∧ (s.putCue r).pins = s.pins ∧ (s.putCue r).occupied = s.occupied
      ∧ (s.putCue r).channels = s.channels ∧ (s.putCue r).router = s.router ∧ (s.putCue r).talk = s.talk
      ∧ (s.putCue r).denied = s.denied ∧ (s.putCue r).calls = s.calls ∧ (s.putCue r).samples = s.samples
      ∧ (s.putCue r).shown = s.shown ∧ (s.putCue r).line = s.line ∧ (s.putCue r).noticeControl = s.noticeControl
      ∧ (s.putCue r).loader = s.loader ∧ (s.putCue r).save = s.save ∧ (s.putCue r).store = s.store :=
  fields_of_sansCues (putCue_sansCues s r)

theorem changeCue_sansCues (s : State) (r : ActiveCue) :
    (s.changeCue r).sansCues = s.sansCues := by
  rw [State.changeCue, sansCues_of_sansMsgs (handOn_sansMsgs _ _), putCue_sansCues]

/-- What changeCue keeps. -/
@[simp] theorem changeCue_fields (s : State) (r : ActiveCue) :
    (s.changeCue r).pending = s.pending ∧ (s.changeCue r).powered = s.powered ∧ (s.changeCue r).clock = s.clock
      ∧ (s.changeCue r).fresh = s.fresh ∧ (s.changeCue r).ports = s.ports ∧ (s.changeCue r).assemblies = s.assemblies
      ∧ (s.changeCue r).restartBy = s.restartBy ∧ (s.changeCue r).profiles = s.profiles
      ∧ (s.changeCue r).bankA = s.bankA ∧ (s.changeCue r).bankB = s.bankB ∧ (s.changeCue r).live = s.live
      ∧ (s.changeCue r).swapPending = s.swapPending ∧ (s.changeCue r).counters = s.counters
      ∧ (s.changeCue r).pins = s.pins ∧ (s.changeCue r).occupied = s.occupied ∧ (s.changeCue r).channels = s.channels
      ∧ (s.changeCue r).router = s.router ∧ (s.changeCue r).talk = s.talk ∧ (s.changeCue r).denied = s.denied
      ∧ (s.changeCue r).calls = s.calls ∧ (s.changeCue r).samples = s.samples ∧ (s.changeCue r).shown = s.shown
      ∧ (s.changeCue r).line = s.line ∧ (s.changeCue r).noticeControl = s.noticeControl
      ∧ (s.changeCue r).loader = s.loader ∧ (s.changeCue r).save = s.save ∧ (s.changeCue r).store = s.store :=
  fields_of_sansCues (changeCue_sansCues s r)

theorem joinList_sansCues (s : State) (r : ActiveCue) : (s.joinList r).sansCues = s.sansCues := rfl

theorem appendCue_sansCues (s : State) (r : ActiveCue) :
    (s.appendCue r).sansCues = s.sansCues := by
  rw [State.appendCue, sansCues_of_sansMsgs (noticeAbsent_sansMsgs _ _), sansCues_of_sansMsgs (handOn_sansMsgs _ _),
    joinList_sansCues]

/-- What appendCue keeps. -/
@[simp] theorem appendCue_fields (s : State) (r : ActiveCue) :
    (s.appendCue r).pending = s.pending ∧ (s.appendCue r).powered = s.powered ∧ (s.appendCue r).clock = s.clock
      ∧ (s.appendCue r).fresh = s.fresh ∧ (s.appendCue r).ports = s.ports ∧ (s.appendCue r).assemblies = s.assemblies
      ∧ (s.appendCue r).restartBy = s.restartBy ∧ (s.appendCue r).profiles = s.profiles
      ∧ (s.appendCue r).bankA = s.bankA ∧ (s.appendCue r).bankB = s.bankB ∧ (s.appendCue r).live = s.live
      ∧ (s.appendCue r).swapPending = s.swapPending ∧ (s.appendCue r).counters = s.counters
      ∧ (s.appendCue r).pins = s.pins ∧ (s.appendCue r).occupied = s.occupied ∧ (s.appendCue r).channels = s.channels
      ∧ (s.appendCue r).router = s.router ∧ (s.appendCue r).talk = s.talk ∧ (s.appendCue r).denied = s.denied
      ∧ (s.appendCue r).calls = s.calls ∧ (s.appendCue r).samples = s.samples ∧ (s.appendCue r).shown = s.shown
      ∧ (s.appendCue r).line = s.line ∧ (s.appendCue r).noticeControl = s.noticeControl
      ∧ (s.appendCue r).loader = s.loader ∧ (s.appendCue r).save = s.save ∧ (s.appendCue r).store = s.store :=
  fields_of_sansCues (appendCue_sansCues s r)

theorem refuseCue_sansCues (s : State) (slot : CueSlot) (st : Status) (o : RefusedOrigin) :
    (s.refuseCue slot st o).sansCues = s.sansCues := sansCues_of_sansMsgs (refuseCue_sansMsgs _ _ _ _)

theorem enterGoing_sansCues (s : State) (r : ActiveCue) :
    (s.enterGoing r).sansCues = s.sansCues := changeCue_sansCues s _

/-- What enterGoing keeps. -/
@[simp] theorem enterGoing_fields (s : State) (r : ActiveCue) :
    (s.enterGoing r).pending = s.pending ∧ (s.enterGoing r).powered = s.powered ∧ (s.enterGoing r).clock = s.clock
      ∧ (s.enterGoing r).fresh = s.fresh ∧ (s.enterGoing r).ports = s.ports
      ∧ (s.enterGoing r).assemblies = s.assemblies ∧ (s.enterGoing r).restartBy = s.restartBy
      ∧ (s.enterGoing r).profiles = s.profiles ∧ (s.enterGoing r).bankA = s.bankA ∧ (s.enterGoing r).bankB = s.bankB
      ∧ (s.enterGoing r).live = s.live ∧ (s.enterGoing r).swapPending = s.swapPending
      ∧ (s.enterGoing r).counters = s.counters ∧ (s.enterGoing r).pins = s.pins
      ∧ (s.enterGoing r).occupied = s.occupied ∧ (s.enterGoing r).channels = s.channels
      ∧ (s.enterGoing r).router = s.router ∧ (s.enterGoing r).talk = s.talk ∧ (s.enterGoing r).denied = s.denied
      ∧ (s.enterGoing r).calls = s.calls ∧ (s.enterGoing r).samples = s.samples ∧ (s.enterGoing r).shown = s.shown
      ∧ (s.enterGoing r).line = s.line ∧ (s.enterGoing r).noticeControl = s.noticeControl
      ∧ (s.enterGoing r).loader = s.loader ∧ (s.enterGoing r).save = s.save ∧ (s.enterGoing r).store = s.store :=
  fields_of_sansCues (enterGoing_sansCues s r)

theorem linkStanding_sansCues (s : State) (r : ActiveCue) (q : CueSlot) (d : Nat) :
    (s.linkStanding r q d).sansCues = s.sansCues := by
  unfold State.linkStanding
  split
  · rfl
  · rfl
  · rfl
  · exact refuseCue_sansCues _ _ _ _

/-- What linkStanding keeps. -/
@[simp] theorem linkStanding_fields (s : State) (r : ActiveCue) (q : CueSlot) (d : Nat) :
    (s.linkStanding r q d).pending = s.pending ∧ (s.linkStanding r q d).powered = s.powered
      ∧ (s.linkStanding r q d).clock = s.clock ∧ (s.linkStanding r q d).fresh = s.fresh
      ∧ (s.linkStanding r q d).ports = s.ports ∧ (s.linkStanding r q d).assemblies = s.assemblies
      ∧ (s.linkStanding r q d).restartBy = s.restartBy ∧ (s.linkStanding r q d).profiles = s.profiles
      ∧ (s.linkStanding r q d).bankA = s.bankA ∧ (s.linkStanding r q d).bankB = s.bankB
      ∧ (s.linkStanding r q d).live = s.live ∧ (s.linkStanding r q d).swapPending = s.swapPending
      ∧ (s.linkStanding r q d).counters = s.counters ∧ (s.linkStanding r q d).pins = s.pins
      ∧ (s.linkStanding r q d).occupied = s.occupied ∧ (s.linkStanding r q d).channels = s.channels
      ∧ (s.linkStanding r q d).router = s.router ∧ (s.linkStanding r q d).talk = s.talk
      ∧ (s.linkStanding r q d).denied = s.denied ∧ (s.linkStanding r q d).calls = s.calls
      ∧ (s.linkStanding r q d).samples = s.samples ∧ (s.linkStanding r q d).shown = s.shown
      ∧ (s.linkStanding r q d).line = s.line ∧ (s.linkStanding r q d).noticeControl = s.noticeControl
      ∧ (s.linkStanding r q d).loader = s.loader ∧ (s.linkStanding r q d).save = s.save
      ∧ (s.linkStanding r q d).store = s.store :=
  fields_of_sansCues (linkStanding_sansCues s r q d)

theorem applyLink_sansCues (n : Nat) : ∀ (r : ActiveCue) (s : State), (State.applyLink n r s).sansCues = s.sansCues := by
  induction n with
  | zero => exact fun _ _ => rfl
  | succ n ih =>
    intro r s
    unfold State.applyLink
    dsimp only
    split
    · rfl
    · split
      · exact refuseCue_sansCues _ _ _ _
      · exact appendCue_sansCues _ _
    · split
      · split
        · exact refuseCue_sansCues _ _ _ _
        · split
          · split
            · rw [refuseCue_sansCues, appendCue_sansCues]
            · rw [ih, sansCues_of_sansMsgs (noticeAbsent_sansMsgs _ _), enterGoing_sansCues, joinList_sansCues]
          · exact appendCue_sansCues _ _
      · split
        · split
          · exact refuseCue_sansCues _ _ _ _
          · rw [ih, enterGoing_sansCues]
        · exact linkStanding_sansCues _ _ _ _

theorem takeGo_sansCues (s : State) (r : ActiveCue) :
    (s.takeGo r).sansCues = s.sansCues :=
  (applyLink_sansCues _ _ _).trans (enterGoing_sansCues s r)

/-- What takeGo keeps. -/
@[simp] theorem takeGo_fields (s : State) (r : ActiveCue) :
    (s.takeGo r).pending = s.pending ∧ (s.takeGo r).powered = s.powered ∧ (s.takeGo r).clock = s.clock
      ∧ (s.takeGo r).fresh = s.fresh ∧ (s.takeGo r).ports = s.ports ∧ (s.takeGo r).assemblies = s.assemblies
      ∧ (s.takeGo r).restartBy = s.restartBy ∧ (s.takeGo r).profiles = s.profiles ∧ (s.takeGo r).bankA = s.bankA
      ∧ (s.takeGo r).bankB = s.bankB ∧ (s.takeGo r).live = s.live ∧ (s.takeGo r).swapPending = s.swapPending
      ∧ (s.takeGo r).counters = s.counters ∧ (s.takeGo r).pins = s.pins ∧ (s.takeGo r).occupied = s.occupied
      ∧ (s.takeGo r).channels = s.channels ∧ (s.takeGo r).router = s.router ∧ (s.takeGo r).talk = s.talk
      ∧ (s.takeGo r).denied = s.denied ∧ (s.takeGo r).calls = s.calls ∧ (s.takeGo r).samples = s.samples
      ∧ (s.takeGo r).shown = s.shown ∧ (s.takeGo r).line = s.line ∧ (s.takeGo r).noticeControl = s.noticeControl
      ∧ (s.takeGo r).loader = s.loader ∧ (s.takeGo r).save = s.save ∧ (s.takeGo r).store = s.store :=
  fields_of_sansCues (takeGo_sansCues s r)

theorem standbyByPosition_sansCues (s : State) (c : CounterId) (slot : CueSlot) :
    (s.standbyByPosition c slot).sansCues = s.sansCues := by
  unfold State.standbyByPosition
  split
  · exact refuseCue_sansCues _ _ _ _
  · exact appendCue_sansCues _ _

/-- What standbyByPosition keeps. -/
@[simp] theorem standbyByPosition_fields (s : State) (c : CounterId) (slot : CueSlot) :
    (s.standbyByPosition c slot).pending = s.pending ∧ (s.standbyByPosition c slot).powered = s.powered
      ∧ (s.standbyByPosition c slot).clock = s.clock ∧ (s.standbyByPosition c slot).fresh = s.fresh
      ∧ (s.standbyByPosition c slot).ports = s.ports ∧ (s.standbyByPosition c slot).assemblies = s.assemblies
      ∧ (s.standbyByPosition c slot).restartBy = s.restartBy ∧ (s.standbyByPosition c slot).profiles = s.profiles
      ∧ (s.standbyByPosition c slot).bankA = s.bankA ∧ (s.standbyByPosition c slot).bankB = s.bankB
      ∧ (s.standbyByPosition c slot).live = s.live ∧ (s.standbyByPosition c slot).swapPending = s.swapPending
      ∧ (s.standbyByPosition c slot).counters = s.counters ∧ (s.standbyByPosition c slot).pins = s.pins
      ∧ (s.standbyByPosition c slot).occupied = s.occupied ∧ (s.standbyByPosition c slot).channels = s.channels
      ∧ (s.standbyByPosition c slot).router = s.router ∧ (s.standbyByPosition c slot).talk = s.talk
      ∧ (s.standbyByPosition c slot).denied = s.denied ∧ (s.standbyByPosition c slot).calls = s.calls
      ∧ (s.standbyByPosition c slot).samples = s.samples ∧ (s.standbyByPosition c slot).shown = s.shown
      ∧ (s.standbyByPosition c slot).line = s.line ∧ (s.standbyByPosition c slot).noticeControl = s.noticeControl
      ∧ (s.standbyByPosition c slot).loader = s.loader ∧ (s.standbyByPosition c slot).save = s.save
      ∧ (s.standbyByPosition c slot).store = s.store :=
  fields_of_sansCues (standbyByPosition_sansCues s c slot)

theorem goByPosition_sansCues (s : State) (c : CounterId) (slot : CueSlot) :
    (s.goByPosition c slot).sansCues = s.sansCues := by
  unfold State.goByPosition
  split
  · exact refuseCue_sansCues _ _ _ _
  · exact takeGo_sansCues _ _

/-- What goByPosition keeps. -/
@[simp] theorem goByPosition_fields (s : State) (c : CounterId) (slot : CueSlot) :
    (s.goByPosition c slot).pending = s.pending ∧ (s.goByPosition c slot).powered = s.powered
      ∧ (s.goByPosition c slot).clock = s.clock ∧ (s.goByPosition c slot).fresh = s.fresh
      ∧ (s.goByPosition c slot).ports = s.ports ∧ (s.goByPosition c slot).assemblies = s.assemblies
      ∧ (s.goByPosition c slot).restartBy = s.restartBy ∧ (s.goByPosition c slot).profiles = s.profiles
      ∧ (s.goByPosition c slot).bankA = s.bankA ∧ (s.goByPosition c slot).bankB = s.bankB
      ∧ (s.goByPosition c slot).live = s.live ∧ (s.goByPosition c slot).swapPending = s.swapPending
      ∧ (s.goByPosition c slot).counters = s.counters ∧ (s.goByPosition c slot).pins = s.pins
      ∧ (s.goByPosition c slot).occupied = s.occupied ∧ (s.goByPosition c slot).channels = s.channels
      ∧ (s.goByPosition c slot).router = s.router ∧ (s.goByPosition c slot).talk = s.talk
      ∧ (s.goByPosition c slot).denied = s.denied ∧ (s.goByPosition c slot).calls = s.calls
      ∧ (s.goByPosition c slot).samples = s.samples ∧ (s.goByPosition c slot).shown = s.shown
      ∧ (s.goByPosition c slot).line = s.line ∧ (s.goByPosition c slot).noticeControl = s.noticeControl
      ∧ (s.goByPosition c slot).loader = s.loader ∧ (s.goByPosition c slot).save = s.save
      ∧ (s.goByPosition c slot).store = s.store :=
  fields_of_sansCues (goByPosition_sansCues s c slot)

theorem sendPosition_sansCues (s : State) (c : CounterId) (e : PositionEntry) :
    (s.sendPosition c e).sansCues = s.sansCues := by
  unfold State.sendPosition
  split
  · exact standbyByPosition_sansCues _ _ _
  · exact goByPosition_sansCues _ _ _

/-- What sendPosition keeps. -/
@[simp] theorem sendPosition_fields (s : State) (c : CounterId) (e : PositionEntry) :
    (s.sendPosition c e).pending = s.pending ∧ (s.sendPosition c e).powered = s.powered
      ∧ (s.sendPosition c e).clock = s.clock ∧ (s.sendPosition c e).fresh = s.fresh
      ∧ (s.sendPosition c e).ports = s.ports ∧ (s.sendPosition c e).assemblies = s.assemblies
      ∧ (s.sendPosition c e).restartBy = s.restartBy ∧ (s.sendPosition c e).profiles = s.profiles
      ∧ (s.sendPosition c e).bankA = s.bankA ∧ (s.sendPosition c e).bankB = s.bankB
      ∧ (s.sendPosition c e).live = s.live ∧ (s.sendPosition c e).swapPending = s.swapPending
      ∧ (s.sendPosition c e).counters = s.counters ∧ (s.sendPosition c e).pins = s.pins
      ∧ (s.sendPosition c e).occupied = s.occupied ∧ (s.sendPosition c e).channels = s.channels
      ∧ (s.sendPosition c e).router = s.router ∧ (s.sendPosition c e).talk = s.talk
      ∧ (s.sendPosition c e).denied = s.denied ∧ (s.sendPosition c e).calls = s.calls
      ∧ (s.sendPosition c e).samples = s.samples ∧ (s.sendPosition c e).shown = s.shown
      ∧ (s.sendPosition c e).line = s.line ∧ (s.sendPosition c e).noticeControl = s.noticeControl
      ∧ (s.sendPosition c e).loader = s.loader ∧ (s.sendPosition c e).save = s.save
      ∧ (s.sendPosition c e).store = s.store :=
  fields_of_sansCues (sendPosition_sansCues s c e)

theorem ackExpired_sansCues (s : State) (r : ActiveCue) :
    (s.ackExpired r).sansCues = s.sansCues := by
  unfold State.ackExpired
  split
  · rw [sansCues_of_sansMsgs (raise_sansMsgs _ _), changeCue_sansCues]
  · rfl

/-- What ackExpired keeps. -/
@[simp] theorem ackExpired_fields (s : State) (r : ActiveCue) :
    (s.ackExpired r).pending = s.pending ∧ (s.ackExpired r).powered = s.powered ∧ (s.ackExpired r).clock = s.clock
      ∧ (s.ackExpired r).fresh = s.fresh ∧ (s.ackExpired r).ports = s.ports
      ∧ (s.ackExpired r).assemblies = s.assemblies ∧ (s.ackExpired r).restartBy = s.restartBy
      ∧ (s.ackExpired r).profiles = s.profiles ∧ (s.ackExpired r).bankA = s.bankA ∧ (s.ackExpired r).bankB = s.bankB
      ∧ (s.ackExpired r).live = s.live ∧ (s.ackExpired r).swapPending = s.swapPending
      ∧ (s.ackExpired r).counters = s.counters ∧ (s.ackExpired r).pins = s.pins
      ∧ (s.ackExpired r).occupied = s.occupied ∧ (s.ackExpired r).channels = s.channels
      ∧ (s.ackExpired r).router = s.router ∧ (s.ackExpired r).talk = s.talk ∧ (s.ackExpired r).denied = s.denied
      ∧ (s.ackExpired r).calls = s.calls ∧ (s.ackExpired r).samples = s.samples ∧ (s.ackExpired r).shown = s.shown
      ∧ (s.ackExpired r).line = s.line ∧ (s.ackExpired r).noticeControl = s.noticeControl
      ∧ (s.ackExpired r).loader = s.loader ∧ (s.ackExpired r).save = s.save ∧ (s.ackExpired r).store = s.store :=
  fields_of_sansCues (ackExpired_sansCues s r)

theorem ackExpiry_sansCues (s : State) (slot : CueSlot) :
    (s.ackExpiry slot).sansCues = s.sansCues := by
  unfold State.ackExpiry
  split
  · rfl
  · split
    · exact ackExpired_sansCues _ _
    · rfl

/-- What ackExpiry keeps. -/
@[simp] theorem ackExpiry_fields (s : State) (slot : CueSlot) :
    (s.ackExpiry slot).pending = s.pending ∧ (s.ackExpiry slot).powered = s.powered
      ∧ (s.ackExpiry slot).clock = s.clock ∧ (s.ackExpiry slot).fresh = s.fresh ∧ (s.ackExpiry slot).ports = s.ports
      ∧ (s.ackExpiry slot).assemblies = s.assemblies ∧ (s.ackExpiry slot).restartBy = s.restartBy
      ∧ (s.ackExpiry slot).profiles = s.profiles ∧ (s.ackExpiry slot).bankA = s.bankA
      ∧ (s.ackExpiry slot).bankB = s.bankB ∧ (s.ackExpiry slot).live = s.live
      ∧ (s.ackExpiry slot).swapPending = s.swapPending ∧ (s.ackExpiry slot).counters = s.counters
      ∧ (s.ackExpiry slot).pins = s.pins ∧ (s.ackExpiry slot).occupied = s.occupied
      ∧ (s.ackExpiry slot).channels = s.channels ∧ (s.ackExpiry slot).router = s.router
      ∧ (s.ackExpiry slot).talk = s.talk ∧ (s.ackExpiry slot).denied = s.denied ∧ (s.ackExpiry slot).calls = s.calls
      ∧ (s.ackExpiry slot).samples = s.samples ∧ (s.ackExpiry slot).shown = s.shown ∧ (s.ackExpiry slot).line = s.line
      ∧ (s.ackExpiry slot).noticeControl = s.noticeControl ∧ (s.ackExpiry slot).loader = s.loader
      ∧ (s.ackExpiry slot).save = s.save ∧ (s.ackExpiry slot).store = s.store :=
  fields_of_sansCues (ackExpiry_sansCues s slot)

theorem followExpired_sansCues (s : State) (r : ActiveCue) :
    (s.followExpired r).sansCues = s.sansCues := by
  unfold State.followExpired
  dsimp only
  split
  · rw [refuseCue_sansCues, putCue_sansCues]
  · rw [takeGo_sansCues, putCue_sansCues]

/-- What followExpired keeps. -/
@[simp] theorem followExpired_fields (s : State) (r : ActiveCue) :
    (s.followExpired r).pending = s.pending ∧ (s.followExpired r).powered = s.powered
      ∧ (s.followExpired r).clock = s.clock ∧ (s.followExpired r).fresh = s.fresh
      ∧ (s.followExpired r).ports = s.ports ∧ (s.followExpired r).assemblies = s.assemblies
      ∧ (s.followExpired r).restartBy = s.restartBy ∧ (s.followExpired r).profiles = s.profiles
      ∧ (s.followExpired r).bankA = s.bankA ∧ (s.followExpired r).bankB = s.bankB ∧ (s.followExpired r).live = s.live
      ∧ (s.followExpired r).swapPending = s.swapPending ∧ (s.followExpired r).counters = s.counters
      ∧ (s.followExpired r).pins = s.pins ∧ (s.followExpired r).occupied = s.occupied
      ∧ (s.followExpired r).channels = s.channels ∧ (s.followExpired r).router = s.router
      ∧ (s.followExpired r).talk = s.talk ∧ (s.followExpired r).denied = s.denied
      ∧ (s.followExpired r).calls = s.calls ∧ (s.followExpired r).samples = s.samples
      ∧ (s.followExpired r).shown = s.shown ∧ (s.followExpired r).line = s.line
      ∧ (s.followExpired r).noticeControl = s.noticeControl ∧ (s.followExpired r).loader = s.loader
      ∧ (s.followExpired r).save = s.save ∧ (s.followExpired r).store = s.store :=
  fields_of_sansCues (followExpired_sansCues s r)

theorem followExpiry_sansCues (s : State) (slot : CueSlot) :
    (s.followExpiry slot).sansCues = s.sansCues := by
  unfold State.followExpiry
  split
  · rfl
  · split
    · exact followExpired_sansCues _ _
    · rfl

/-- What followExpiry keeps. -/
@[simp] theorem followExpiry_fields (s : State) (slot : CueSlot) :
    (s.followExpiry slot).pending = s.pending ∧ (s.followExpiry slot).powered = s.powered
      ∧ (s.followExpiry slot).clock = s.clock ∧ (s.followExpiry slot).fresh = s.fresh
      ∧ (s.followExpiry slot).ports = s.ports ∧ (s.followExpiry slot).assemblies = s.assemblies
      ∧ (s.followExpiry slot).restartBy = s.restartBy ∧ (s.followExpiry slot).profiles = s.profiles
      ∧ (s.followExpiry slot).bankA = s.bankA ∧ (s.followExpiry slot).bankB = s.bankB
      ∧ (s.followExpiry slot).live = s.live ∧ (s.followExpiry slot).swapPending = s.swapPending
      ∧ (s.followExpiry slot).counters = s.counters ∧ (s.followExpiry slot).pins = s.pins
      ∧ (s.followExpiry slot).occupied = s.occupied ∧ (s.followExpiry slot).channels = s.channels
      ∧ (s.followExpiry slot).router = s.router ∧ (s.followExpiry slot).talk = s.talk
      ∧ (s.followExpiry slot).denied = s.denied ∧ (s.followExpiry slot).calls = s.calls
      ∧ (s.followExpiry slot).samples = s.samples ∧ (s.followExpiry slot).shown = s.shown
      ∧ (s.followExpiry slot).line = s.line ∧ (s.followExpiry slot).noticeControl = s.noticeControl
      ∧ (s.followExpiry slot).loader = s.loader ∧ (s.followExpiry slot).save = s.save
      ∧ (s.followExpiry slot).store = s.store :=
  fields_of_sansCues (followExpiry_sansCues s slot)

theorem cuePress_sansCues (s : State) (p : Port) :
    (s.cuePress p).sansCues = s.sansCues := foldl_sansCues _ (fun t _ => changeCue_sansCues t _) _ _

/-- What cuePress keeps. -/
@[simp] theorem cuePress_fields (s : State) (p : Port) :
    (s.cuePress p).pending = s.pending ∧ (s.cuePress p).powered = s.powered ∧ (s.cuePress p).clock = s.clock
      ∧ (s.cuePress p).fresh = s.fresh ∧ (s.cuePress p).ports = s.ports ∧ (s.cuePress p).assemblies = s.assemblies
      ∧ (s.cuePress p).restartBy = s.restartBy ∧ (s.cuePress p).profiles = s.profiles ∧ (s.cuePress p).bankA = s.bankA
      ∧ (s.cuePress p).bankB = s.bankB ∧ (s.cuePress p).live = s.live ∧ (s.cuePress p).swapPending = s.swapPending
      ∧ (s.cuePress p).counters = s.counters ∧ (s.cuePress p).pins = s.pins ∧ (s.cuePress p).occupied = s.occupied
      ∧ (s.cuePress p).channels = s.channels ∧ (s.cuePress p).router = s.router ∧ (s.cuePress p).talk = s.talk
      ∧ (s.cuePress p).denied = s.denied ∧ (s.cuePress p).calls = s.calls ∧ (s.cuePress p).samples = s.samples
      ∧ (s.cuePress p).shown = s.shown ∧ (s.cuePress p).line = s.line ∧ (s.cuePress p).noticeControl = s.noticeControl
      ∧ (s.cuePress p).loader = s.loader ∧ (s.cuePress p).save = s.save ∧ (s.cuePress p).store = s.store :=
  fields_of_sansCues (cuePress_sansCues s p)

theorem portLost_sansCues (s : State) (p : Port) :
    (s.portLost p).sansCues = s.sansCues := foldl_sansCues _ (fun t _ => changeCue_sansCues t _) _ _

/-- What portLost keeps. -/
@[simp] theorem portLost_fields (s : State) (p : Port) :
    (s.portLost p).pending = s.pending ∧ (s.portLost p).powered = s.powered ∧ (s.portLost p).clock = s.clock
      ∧ (s.portLost p).fresh = s.fresh ∧ (s.portLost p).ports = s.ports ∧ (s.portLost p).assemblies = s.assemblies
      ∧ (s.portLost p).restartBy = s.restartBy ∧ (s.portLost p).profiles = s.profiles ∧ (s.portLost p).bankA = s.bankA
      ∧ (s.portLost p).bankB = s.bankB ∧ (s.portLost p).live = s.live ∧ (s.portLost p).swapPending = s.swapPending
      ∧ (s.portLost p).counters = s.counters ∧ (s.portLost p).pins = s.pins ∧ (s.portLost p).occupied = s.occupied
      ∧ (s.portLost p).channels = s.channels ∧ (s.portLost p).router = s.router ∧ (s.portLost p).talk = s.talk
      ∧ (s.portLost p).denied = s.denied ∧ (s.portLost p).calls = s.calls ∧ (s.portLost p).samples = s.samples
      ∧ (s.portLost p).shown = s.shown ∧ (s.portLost p).line = s.line ∧ (s.portLost p).noticeControl = s.noticeControl
      ∧ (s.portLost p).loader = s.loader ∧ (s.portLost p).save = s.save ∧ (s.portLost p).store = s.store :=
  fields_of_sansCues (portLost_sansCues s p)

theorem portReturned_sansCues (s : State) (p : Port) :
    (s.portReturned p).sansCues = s.sansCues := foldl_sansCues _ (fun t _ => changeCue_sansCues t _) _ _

/-- What portReturned keeps. -/
@[simp] theorem portReturned_fields (s : State) (p : Port) :
    (s.portReturned p).pending = s.pending ∧ (s.portReturned p).powered = s.powered
      ∧ (s.portReturned p).clock = s.clock ∧ (s.portReturned p).fresh = s.fresh ∧ (s.portReturned p).ports = s.ports
      ∧ (s.portReturned p).assemblies = s.assemblies ∧ (s.portReturned p).restartBy = s.restartBy
      ∧ (s.portReturned p).profiles = s.profiles ∧ (s.portReturned p).bankA = s.bankA
      ∧ (s.portReturned p).bankB = s.bankB ∧ (s.portReturned p).live = s.live
      ∧ (s.portReturned p).swapPending = s.swapPending ∧ (s.portReturned p).counters = s.counters
      ∧ (s.portReturned p).pins = s.pins ∧ (s.portReturned p).occupied = s.occupied
      ∧ (s.portReturned p).channels = s.channels ∧ (s.portReturned p).router = s.router
      ∧ (s.portReturned p).talk = s.talk ∧ (s.portReturned p).denied = s.denied ∧ (s.portReturned p).calls = s.calls
      ∧ (s.portReturned p).samples = s.samples ∧ (s.portReturned p).shown = s.shown ∧ (s.portReturned p).line = s.line
      ∧ (s.portReturned p).noticeControl = s.noticeControl ∧ (s.portReturned p).loader = s.loader
      ∧ (s.portReturned p).save = s.save ∧ (s.portReturned p).store = s.store :=
  fields_of_sansCues (portReturned_sansCues s p)

end Sys2Proof.Machine
end

