-- ==== Sys2Proof/Laws/Zones.lean ====
section
/-! SUPPORT. The evaluation of zones touches the occupancy and the messages and nothing else. -/

namespace Sys2Proof.Machine

/-- The state without its messages and its zone occupancy. -/
def State.sansZones (s : State) : State :=
  { s with
    occupied := Vector.replicate 6 false
    queues := Vector.replicate 32 []
    gaps := Vector.replicate 32 false
    notices := Vector.replicate 18 NoticeRecord.empty }

/-- States equal apart from what `sansZones` erases agree in every other field. -/
theorem fields_of_sansZones {a b : State} (h : a.sansZones = b.sansZones) :
    a.pending = b.pending ∧ a.powered = b.powered ∧ a.clock = b.clock ∧ a.fresh = b.fresh ∧ a.ports = b.ports
      ∧ a.assemblies = b.assemblies ∧ a.restartBy = b.restartBy ∧ a.profiles = b.profiles ∧ a.bankA = b.bankA
      ∧ a.bankB = b.bankB ∧ a.live = b.live ∧ a.swapPending = b.swapPending ∧ a.active = b.active
      ∧ a.counters = b.counters ∧ a.pins = b.pins ∧ a.channels = b.channels ∧ a.router = b.router ∧ a.talk = b.talk
      ∧ a.denied = b.denied ∧ a.calls = b.calls ∧ a.samples = b.samples ∧ a.shown = b.shown ∧ a.line = b.line
      ∧ a.noticeControl = b.noticeControl ∧ a.loader = b.loader ∧ a.save = b.save ∧ a.store = b.store := by
  exact ⟨(congrArg State.pending h :), (congrArg State.powered h :), (congrArg State.clock h :),
    (congrArg State.fresh h :), (congrArg State.ports h :), (congrArg State.assemblies h :),
    (congrArg State.restartBy h :), (congrArg State.profiles h :), (congrArg State.bankA h :),
    (congrArg State.bankB h :), (congrArg State.live h :), (congrArg State.swapPending h :),
    (congrArg State.active h :), (congrArg State.counters h :), (congrArg State.pins h :),
    (congrArg State.channels h :), (congrArg State.router h :), (congrArg State.talk h :),
    (congrArg State.denied h :), (congrArg State.calls h :), (congrArg State.samples h :),
    (congrArg State.shown h :), (congrArg State.line h :), (congrArg State.noticeControl h :),
    (congrArg State.loader h :), (congrArg State.save h :), (congrArg State.store h :)⟩

/-- A fold of operations that each keep the rest keeps the rest. -/
theorem foldl_sansZones {β : Type} (f : State → β → State) (h : ∀ t x, (f t x).sansZones = t.sansZones) :
    ∀ (l : List β) (s : State), (l.foldl f s).sansZones = s.sansZones
  | [], _ => rfl
  | x :: l, s => by rw [List.foldl_cons, foldl_sansZones f h l (f s x), h s x]

/-- What changes only messages changes nothing that `sansZones` keeps. -/
theorem sansZones_of_sansMsgs {a b : State} (h : a.sansMsgs = b.sansMsgs) : a.sansZones = b.sansZones :=
  (congrArg State.sansZones h :)

theorem setOccupied_sansZones (s : State) (z : ZoneNo) (o : Bool) :
    (s.setOccupied z o).sansZones = s.sansZones := rfl

theorem evalZone_sansZones (s : State) (z : ZoneNo) :
    (s.evalZone z).sansZones = s.sansZones := by
  unfold State.evalZone
  split
  · rfl
  · rw [sansZones_of_sansMsgs (raise_sansMsgs _ _), setOccupied_sansZones]

/-- What evalZone keeps. -/
@[simp] theorem evalZone_fields (s : State) (z : ZoneNo) :
    (s.evalZone z).pending = s.pending ∧ (s.evalZone z).powered = s.powered ∧ (s.evalZone z).clock = s.clock
      ∧ (s.evalZone z).fresh = s.fresh ∧ (s.evalZone z).ports = s.ports ∧ (s.evalZone z).assemblies = s.assemblies
      ∧ (s.evalZone z).restartBy = s.restartBy ∧ (s.evalZone z).profiles = s.profiles ∧ (s.evalZone z).bankA = s.bankA
      ∧ (s.evalZone z).bankB = s.bankB ∧ (s.evalZone z).live = s.live ∧ (s.evalZone z).swapPending = s.swapPending
      ∧ (s.evalZone z).active = s.active ∧ (s.evalZone z).counters = s.counters ∧ (s.evalZone z).pins = s.pins
      ∧ (s.evalZone z).channels = s.channels ∧ (s.evalZone z).router = s.router ∧ (s.evalZone z).talk = s.talk
      ∧ (s.evalZone z).denied = s.denied ∧ (s.evalZone z).calls = s.calls ∧ (s.evalZone z).samples = s.samples
      ∧ (s.evalZone z).shown = s.shown ∧ (s.evalZone z).line = s.line ∧ (s.evalZone z).noticeControl = s.noticeControl
      ∧ (s.evalZone z).loader = s.loader ∧ (s.evalZone z).save = s.save ∧ (s.evalZone z).store = s.store :=
  fields_of_sansZones (evalZone_sansZones s z)

theorem evalZones_sansZones (s : State) (l : List ZoneNo) :
    (s.evalZones l).sansZones = s.sansZones := foldl_sansZones _ evalZone_sansZones l s

/-- What evalZones keeps. -/
@[simp] theorem evalZones_fields (s : State) (l : List ZoneNo) :
    (s.evalZones l).pending = s.pending ∧ (s.evalZones l).powered = s.powered ∧ (s.evalZones l).clock = s.clock
      ∧ (s.evalZones l).fresh = s.fresh ∧ (s.evalZones l).ports = s.ports ∧ (s.evalZones l).assemblies = s.assemblies
      ∧ (s.evalZones l).restartBy = s.restartBy ∧ (s.evalZones l).profiles = s.profiles
      ∧ (s.evalZones l).bankA = s.bankA ∧ (s.evalZones l).bankB = s.bankB ∧ (s.evalZones l).live = s.live
      ∧ (s.evalZones l).swapPending = s.swapPending ∧ (s.evalZones l).active = s.active
      ∧ (s.evalZones l).counters = s.counters ∧ (s.evalZones l).pins = s.pins ∧ (s.evalZones l).channels = s.channels
      ∧ (s.evalZones l).router = s.router ∧ (s.evalZones l).talk = s.talk ∧ (s.evalZones l).denied = s.denied
      ∧ (s.evalZones l).calls = s.calls ∧ (s.evalZones l).samples = s.samples ∧ (s.evalZones l).shown = s.shown
      ∧ (s.evalZones l).line = s.line ∧ (s.evalZones l).noticeControl = s.noticeControl
      ∧ (s.evalZones l).loader = s.loader ∧ (s.evalZones l).save = s.save ∧ (s.evalZones l).store = s.store :=
  fields_of_sansZones (evalZones_sansZones s l)

theorem evalCounterZones_sansZones (s : State) (c : CounterId) :
    (s.evalCounterZones c).sansZones = s.sansZones := evalZones_sansZones s _

/-- What evalCounterZones keeps. -/
@[simp] theorem evalCounterZones_fields (s : State) (c : CounterId) :
    (s.evalCounterZones c).pending = s.pending ∧ (s.evalCounterZones c).powered = s.powered
      ∧ (s.evalCounterZones c).clock = s.clock ∧ (s.evalCounterZones c).fresh = s.fresh
      ∧ (s.evalCounterZones c).ports = s.ports ∧ (s.evalCounterZones c).assemblies = s.assemblies
      ∧ (s.evalCounterZones c).restartBy = s.restartBy ∧ (s.evalCounterZones c).profiles = s.profiles
      ∧ (s.evalCounterZones c).bankA = s.bankA ∧ (s.evalCounterZones c).bankB = s.bankB
      ∧ (s.evalCounterZones c).live = s.live ∧ (s.evalCounterZones c).swapPending = s.swapPending
      ∧ (s.evalCounterZones c).active = s.active ∧ (s.evalCounterZones c).counters = s.counters
      ∧ (s.evalCounterZones c).pins = s.pins ∧ (s.evalCounterZones c).channels = s.channels
      ∧ (s.evalCounterZones c).router = s.router ∧ (s.evalCounterZones c).talk = s.talk
      ∧ (s.evalCounterZones c).denied = s.denied ∧ (s.evalCounterZones c).calls = s.calls
      ∧ (s.evalCounterZones c).samples = s.samples ∧ (s.evalCounterZones c).shown = s.shown
      ∧ (s.evalCounterZones c).line = s.line ∧ (s.evalCounterZones c).noticeControl = s.noticeControl
      ∧ (s.evalCounterZones c).loader = s.loader ∧ (s.evalCounterZones c).save = s.save
      ∧ (s.evalCounterZones c).store = s.store :=
  fields_of_sansZones (evalCounterZones_sansZones s c)

/-- The live tables and the counters do not depend on the occupancy. -/
theorem liveTables_of_sansZones {s t : State} (h : t.sansZones = s.sansZones) : t.liveTables = s.liveTables := by
  obtain ⟨-, -, -, -, -, -, -, -, ha, hb, hl, -⟩ := fields_of_sansZones h
  simp only [State.liveTables, hl]
  cases s.live <;> simp only [State.bank, ha, hb]

theorem zoneNow_of_sansZones {s t : State} (h : t.sansZones = s.sansZones) (z : ZoneNo) : t.zoneNow z = s.zoneNow z := by
  have hc : t.counters = s.counters := (congrArg State.counters h :)
  simp only [State.zoneNow, liveTables_of_sansZones h, State.counter, hc]

/-- R92: an evaluation leaves a zone as its counter has it now. -/
theorem evalZone_occupied (s : State) (z y : ZoneNo) :
    (s.evalZone z).occupied[y] = if y = z then s.zoneNow z else s.occupied[y] := by
  unfold State.evalZone
  split
  · rename_i h
    split
    · rename_i hy
      subst hy
      exact h.symm
    · rfl
  · simp only [raise_fields, setOccupied_fields, get_put]

/-- R92: an evaluation of some zones leaves each of them as its counter has it now. -/
theorem evalZones_occupied (s : State) (y : ZoneNo) (l : List ZoneNo) :
    (s.evalZones l).occupied[y] = if y ∈ l then s.zoneNow y else s.occupied[y] := by
  have key : ∀ (l : List ZoneNo) (t : State), t.sansZones = s.sansZones →
      (t.evalZones l).occupied[y] = if y ∈ l then s.zoneNow y else t.occupied[y] := by
    intro l
    induction l with
    | nil => exact fun _ _ => rfl
    | cons z l ih =>
      intro t ht
      have h := ih (t.evalZone z) ((evalZone_sansZones t z).trans ht)
      rw [evalZone_occupied, zoneNow_of_sansZones ht] at h
      refine Eq.trans h ?_
      by_cases hy : y = z
      · subst hy
        simp
      · simp [hy]
  exact key l s rfl

/-- R78, R79, R82: an evaluation of a counter's zones. -/
theorem evalCounterZones_occupied (s : State) (c : CounterId) (y : ZoneNo) :
    (s.evalCounterZones c).occupied[y] =
      if s.liveTables.zones[y].valid = true ∧ s.liveTables.zones[y].counter = c then s.zoneNow y else s.occupied[y] := by
  have h : y ∈ allZones.filter (s.zoneNames c) ↔
      s.liveTables.zones[y].valid = true ∧ s.liveTables.zones[y].counter = c := by
    simp [allZones, State.zoneNames]
  simp only [State.evalCounterZones, evalZones_occupied, h]

end Sys2Proof.Machine
end

