-- ==== Sys2Proof/Laws/Removal.lean ====
section
/-! SUPPORT. The removal of a record, with the swap it may complete, touches the list, the selector, the counters, the occupancy
and the messages and nothing else. -/

namespace Sys2Proof.Machine

/-- The state without its messages, the Active Cue List, the selector with its flag, the counters and the occupancy. -/
def State.sansSwap (s : State) : State :=
  { s with
    active := []
    live := Bank.a
    swapPending := false
    counters := Vector.replicate 2 Counter.powerOn
    occupied := Vector.replicate 6 false
    queues := Vector.replicate 32 []
    gaps := Vector.replicate 32 false
    notices := Vector.replicate 18 NoticeRecord.empty }

/-- States equal apart from what `sansSwap` erases agree in every other field. -/
theorem fields_of_sansSwap {a b : State} (h : a.sansSwap = b.sansSwap) :
    a.pending = b.pending ∧ a.powered = b.powered ∧ a.clock = b.clock ∧ a.fresh = b.fresh ∧ a.ports = b.ports
      ∧ a.assemblies = b.assemblies ∧ a.restartBy = b.restartBy ∧ a.profiles = b.profiles ∧ a.bankA = b.bankA
      ∧ a.bankB = b.bankB ∧ a.pins = b.pins ∧ a.channels = b.channels ∧ a.router = b.router ∧ a.talk = b.talk
      ∧ a.denied = b.denied ∧ a.calls = b.calls ∧ a.samples = b.samples ∧ a.shown = b.shown ∧ a.line = b.line
      ∧ a.noticeControl = b.noticeControl ∧ a.loader = b.loader ∧ a.save = b.save ∧ a.store = b.store := by
  exact ⟨(congrArg State.pending h :), (congrArg State.powered h :), (congrArg State.clock h :),
    (congrArg State.fresh h :), (congrArg State.ports h :), (congrArg State.assemblies h :),
    (congrArg State.restartBy h :), (congrArg State.profiles h :), (congrArg State.bankA h :),
    (congrArg State.bankB h :), (congrArg State.pins h :), (congrArg State.channels h :),
    (congrArg State.router h :), (congrArg State.talk h :), (congrArg State.denied h :),
    (congrArg State.calls h :), (congrArg State.samples h :), (congrArg State.shown h :),
    (congrArg State.line h :), (congrArg State.noticeControl h :), (congrArg State.loader h :),
    (congrArg State.save h :), (congrArg State.store h :)⟩

/-- A fold of operations that each keep the rest keeps the rest. -/
theorem foldl_sansSwap {β : Type} (f : State → β → State) (h : ∀ t x, (f t x).sansSwap = t.sansSwap) :
    ∀ (l : List β) (s : State), (l.foldl f s).sansSwap = s.sansSwap
  | [], _ => rfl
  | x :: l, s => by rw [List.foldl_cons, foldl_sansSwap f h l (f s x), h s x]

/-- What changes only messages changes nothing that `sansSwap` keeps. -/
theorem sansSwap_of_sansMsgs {a b : State} (h : a.sansMsgs = b.sansMsgs) : a.sansSwap = b.sansSwap :=
  (congrArg State.sansSwap h :)

/-- What changes only the occupancy and messages changes nothing that `sansSwap` keeps. -/
theorem sansSwap_of_sansZones {a b : State} (h : a.sansZones = b.sansZones) : a.sansSwap = b.sansSwap :=
  (congrArg State.sansSwap h :)

theorem completeSwap_sansSwap (s : State) (x : SwapCause) :
    (s.completeSwap x).sansSwap = s.sansSwap := by
  rw [State.completeSwap, sansSwap_of_sansMsgs (deskStatus_sansMsgs _ _), sansSwap_of_sansMsgs (raise_sansMsgs _ _),
    sansSwap_of_sansZones (evalZones_sansZones _ _)]
  rfl

/-- What completeSwap keeps. -/
@[simp] theorem completeSwap_fields (s : State) (x : SwapCause) :
    (s.completeSwap x).pending = s.pending ∧ (s.completeSwap x).powered = s.powered
      ∧ (s.completeSwap x).clock = s.clock ∧ (s.completeSwap x).fresh = s.fresh ∧ (s.completeSwap x).ports = s.ports
      ∧ (s.completeSwap x).assemblies = s.assemblies ∧ (s.completeSwap x).restartBy = s.restartBy
      ∧ (s.completeSwap x).profiles = s.profiles ∧ (s.completeSwap x).bankA = s.bankA
      ∧ (s.completeSwap x).bankB = s.bankB ∧ (s.completeSwap x).pins = s.pins
      ∧ (s.completeSwap x).channels = s.channels ∧ (s.completeSwap x).router = s.router
      ∧ (s.completeSwap x).talk = s.talk ∧ (s.completeSwap x).denied = s.denied ∧ (s.completeSwap x).calls = s.calls
      ∧ (s.completeSwap x).samples = s.samples ∧ (s.completeSwap x).shown = s.shown ∧ (s.completeSwap x).line = s.line
      ∧ (s.completeSwap x).noticeControl = s.noticeControl ∧ (s.completeSwap x).loader = s.loader
      ∧ (s.completeSwap x).save = s.save ∧ (s.completeSwap x).store = s.store :=
  fields_of_sansSwap (completeSwap_sansSwap s x)

theorem listEmptied_sansSwap (s : State) :
    (s.listEmptied).sansSwap = s.sansSwap := by
  unfold State.listEmptied
  split
  · exact completeSwap_sansSwap s _
  · rfl

/-- What listEmptied keeps. -/
@[simp] theorem listEmptied_fields (s : State) :
    (s.listEmptied).pending = s.pending ∧ (s.listEmptied).powered = s.powered ∧ (s.listEmptied).clock = s.clock
      ∧ (s.listEmptied).fresh = s.fresh ∧ (s.listEmptied).ports = s.ports ∧ (s.listEmptied).assemblies = s.assemblies
      ∧ (s.listEmptied).restartBy = s.restartBy ∧ (s.listEmptied).profiles = s.profiles
      ∧ (s.listEmptied).bankA = s.bankA ∧ (s.listEmptied).bankB = s.bankB ∧ (s.listEmptied).pins = s.pins
      ∧ (s.listEmptied).channels = s.channels ∧ (s.listEmptied).router = s.router ∧ (s.listEmptied).talk = s.talk
      ∧ (s.listEmptied).denied = s.denied ∧ (s.listEmptied).calls = s.calls ∧ (s.listEmptied).samples = s.samples
      ∧ (s.listEmptied).shown = s.shown ∧ (s.listEmptied).line = s.line
      ∧ (s.listEmptied).noticeControl = s.noticeControl ∧ (s.listEmptied).loader = s.loader
      ∧ (s.listEmptied).save = s.save ∧ (s.listEmptied).store = s.store :=
  fields_of_sansSwap (listEmptied_sansSwap s)

theorem removeCue_sansSwap (s : State) (r : ActiveCue) (x : DeskState) :
    (s.removeCue r x).sansSwap = s.sansSwap := by
  rw [State.removeCue, listEmptied_sansSwap, sansSwap_of_sansMsgs (deskStatus_sansMsgs _ _)]
  rfl

/-- What removeCue keeps. -/
@[simp] theorem removeCue_fields (s : State) (r : ActiveCue) (x : DeskState) :
    (s.removeCue r x).pending = s.pending ∧ (s.removeCue r x).powered = s.powered
      ∧ (s.removeCue r x).clock = s.clock ∧ (s.removeCue r x).fresh = s.fresh ∧ (s.removeCue r x).ports = s.ports
      ∧ (s.removeCue r x).assemblies = s.assemblies ∧ (s.removeCue r x).restartBy = s.restartBy
      ∧ (s.removeCue r x).profiles = s.profiles ∧ (s.removeCue r x).bankA = s.bankA
      ∧ (s.removeCue r x).bankB = s.bankB ∧ (s.removeCue r x).pins = s.pins ∧ (s.removeCue r x).channels = s.channels
      ∧ (s.removeCue r x).router = s.router ∧ (s.removeCue r x).talk = s.talk ∧ (s.removeCue r x).denied = s.denied
      ∧ (s.removeCue r x).calls = s.calls ∧ (s.removeCue r x).samples = s.samples ∧ (s.removeCue r x).shown = s.shown
      ∧ (s.removeCue r x).line = s.line ∧ (s.removeCue r x).noticeControl = s.noticeControl
      ∧ (s.removeCue r x).loader = s.loader ∧ (s.removeCue r x).save = s.save ∧ (s.removeCue r x).store = s.store :=
  fields_of_sansSwap (removeCue_sansSwap s r x)

theorem goDisplayExpiry_sansSwap (s : State) (slot : CueSlot) :
    (s.goDisplayExpiry slot).sansSwap = s.sansSwap := by
  unfold State.goDisplayExpiry
  split
  · rfl
  · split
    · exact removeCue_sansSwap _ _ _
    · rfl

/-- What goDisplayExpiry keeps. -/
@[simp] theorem goDisplayExpiry_fields (s : State) (slot : CueSlot) :
    (s.goDisplayExpiry slot).pending = s.pending ∧ (s.goDisplayExpiry slot).powered = s.powered
      ∧ (s.goDisplayExpiry slot).clock = s.clock ∧ (s.goDisplayExpiry slot).fresh = s.fresh
      ∧ (s.goDisplayExpiry slot).ports = s.ports ∧ (s.goDisplayExpiry slot).assemblies = s.assemblies
      ∧ (s.goDisplayExpiry slot).restartBy = s.restartBy ∧ (s.goDisplayExpiry slot).profiles = s.profiles
      ∧ (s.goDisplayExpiry slot).bankA = s.bankA ∧ (s.goDisplayExpiry slot).bankB = s.bankB
      ∧ (s.goDisplayExpiry slot).pins = s.pins ∧ (s.goDisplayExpiry slot).channels = s.channels
      ∧ (s.goDisplayExpiry slot).router = s.router ∧ (s.goDisplayExpiry slot).talk = s.talk
      ∧ (s.goDisplayExpiry slot).denied = s.denied ∧ (s.goDisplayExpiry slot).calls = s.calls
      ∧ (s.goDisplayExpiry slot).samples = s.samples ∧ (s.goDisplayExpiry slot).shown = s.shown
      ∧ (s.goDisplayExpiry slot).line = s.line ∧ (s.goDisplayExpiry slot).noticeControl = s.noticeControl
      ∧ (s.goDisplayExpiry slot).loader = s.loader ∧ (s.goDisplayExpiry slot).save = s.save
      ∧ (s.goDisplayExpiry slot).store = s.store :=
  fields_of_sansSwap (goDisplayExpiry_sansSwap s slot)

end Sys2Proof.Machine
end

