-- ==== Sys2Proof/Laws/Requests.lean ====
section
/-! SUPPORT. What the acceptance of a request does (R177, R179): once for every request, in terms of what its owner
answers; and of a complete message, step by step (R176–R178). -/

namespace Sys2Proof.Machine

theorem fillFirst_reserved (e : TxEntry) (q : List TxEntry) :
    fillFirst e (TxEntry.fresh .reserved :: q) = e :: q := by
  simp only [fillFirst, TxEntry.fresh, if_true]

/-- A reply goes into the entry reserved last. -/
@[simp] theorem fillReserved_reserved (e : TxEntry) (q : List TxEntry) :
    fillReserved e (q ++ [TxEntry.fresh .reserved]) = q ++ [e] := by
  simp only [fillReserved, List.reverse_append, List.reverse_cons, List.reverse_nil, List.nil_append,
    List.singleton_append, fillFirst_reserved, List.reverse_reverse]

/-- Filling an entry keeps the number of entries. -/
@[simp] theorem fillFirst_length (e : TxEntry) : ∀ q : List TxEntry, (fillFirst e q).length = q.length
  | [] => rfl
  | x :: q => by
    unfold fillFirst
    split
    · rfl
    · simp only [List.length_cons, fillFirst_length e q]

@[simp] theorem fillReserved_length (e : TxEntry) (q : List TxEntry) : (fillReserved e q).length = q.length := by
  simp only [fillReserved, List.length_reverse, fillFirst_length]

@[simp] theorem clearDeferredWaits_length (q : List TxEntry) : (clearDeferredWaits q).length = q.length := by
  simp only [clearDeferredWaits, List.length_map]

/-- A queue without a deferred wait is what it was. -/
theorem clearDeferredWaits_eq (q : List TxEntry) (h : ∀ e ∈ q, e.waits ≠ .deferred) : clearDeferredWaits q = q := by
  unfold clearDeferredWaits
  conv_rhs => rw [← List.map_id q]
  exact List.map_congr_left fun e he => if_neg (h e he)

/-- The reply of an answer that no deferred action waits for, in a state whose queue still ends with the reservation. -/
theorem reserve_answer (u : State) (p : Port) (kind tag : Octet) (a : Answer) (h : a.waits ≠ .deferred) :
    (u.reserve p).answer p kind tag a =
      u.replied p { content := .reply kind tag a.status a.data, sent := 0, waits := a.waits } := by
  simp [State.answer, State.reserve, State.replied, State.setQueue, if_neg h]

/-- The reply that a deferred action waits for, when no earlier reply does. -/
theorem reserve_answer_deferred (u : State) (p : Port) (kind tag : Octet) (a : Answer) (h : a.waits = .deferred)
    (hq : ∀ e ∈ u.queues[p], e.waits ≠ .deferred) :
    (u.reserve p).answer p kind tag a =
      u.replied p { content := .reply kind tag a.status a.data, sent := 0, waits := .deferred } := by
  have hc : clearDeferredWaits (u.queues[p] ++ [TxEntry.fresh .reserved]) = u.queues[p] ++ [TxEntry.fresh .reserved] := by
    apply clearDeferredWaits_eq
    intro e he
    rcases List.mem_append.1 he with he | he
    · exact hq e he
    · rw [List.mem_singleton.1 he]
      decide
  simp only [Fin.getElem_fin] at hc
  simp [State.answer, State.reserve, State.replied, State.setQueue, h, hc]

/-- R177: a request that finds its port present, room and the right is answered by its owner. -/
theorem request_taken {s : State} {p : Port} (tag : Octet) {r : Request} (h : MaySend s p (requestRight r)) :
    s.request p tag r =
      (owner p r (s.reserve p)).1.answer p (replyKind (requestKind r)) tag (owner p r (s.reserve p)).2 := by
  obtain ⟨hp, hq, hr⟩ := h
  simp only [State.request, State.accept, hp, State.hasRoom, hq, hr, decide_true, if_true]

/-- R177, R180: a request whose owner changes no state but what `u` says is answered by one reply at the tail. -/
theorem request_answered {s : State} {p : Port} (tag : Octet) {r : Request} (u : State) (a : Answer)
    (h : MaySend s p (requestRight r)) (ho : owner p r (s.reserve p) = (u.reserve p, a)) (hw : a.waits ≠ .deferred) :
    s.request p tag r =
      u.replied p { content := .reply (replyKind (requestKind r)) tag a.status a.data, sent := 0, waits := a.waits } := by
  rw [request_taken tag h, ho]
  exact reserve_answer u p _ tag a hw

/-- As `request_answered`, for a reply that nothing waits for. -/
theorem request_replied {s : State} {p : Port} (tag : Octet) {r : Request} (u : State) (st : Status) (d : ReplyData)
    (h : MaySend s p (requestRight r)) (ho : owner p r (s.reserve p) = (u.reserve p, Answer.with st d)) :
    s.request p tag r = u.replied p (replyOf (replyKind (requestKind r)) tag st d) :=
  request_answered tag u _ h ho (by simp [Answer.with])

/-- R177, R180: a request whose owner only answers leaves the state and queues its reply. -/
theorem request_refused {s : State} {p : Port} (tag : Octet) {r : Request} (st : Status) (d : ReplyData)
    (h : MaySend s p (requestRight r)) (ho : owner p r (s.reserve p) = (s.reserve p, Answer.with st d)) :
    s.request p tag r = s.replied p (replyOf (replyKind (requestKind r)) tag st d) :=
  request_replied tag s st d h ho

/-- R178: without room a request is dropped and REQUEST_DROPPED raised. -/
theorem request_dropped {s : State} {p : Port} (tag : Octet) (r : Request) (hp : s.present p = true)
    (hq : 8 ≤ s.queues[p].length) : s.request p tag r = s.raise (.requestDropped p (requestKind r) tag) := by
  simp only [State.request, State.accept, hp, State.hasRoom, if_true, decide_eq_false (Nat.not_lt.2 hq)]
  rfl

/-- R177: without the right a request is answered DENIED. -/
theorem request_denied {s : State} {p : Port} (tag : Octet) (r : Request) (hp : s.present p = true)
    (hq : s.queues[p].length < 8) (hr : hasRight s.profiles[p].rights (requestRight r) = false) :
    s.request p tag r = s.replied p (replyOf (replyKind (requestKind r)) tag .denied .nothing) := by
  simp only [State.request, State.accept, hp, State.hasRoom, hq, hr, decide_true, if_true]
  exact reserve_answer s p _ tag _ (by decide)

/-- R177: a request from a port that is not present changes nothing. -/
theorem request_absent {s : State} {p : Port} (tag : Octet) (r : Request) (hp : s.present p = false) :
    s.request p tag r = s := by
  simp only [State.request, State.accept, hp]
  rfl

/-! ### A complete message -/

/-- R178: every request has a request kind, whose right it asks for. -/
theorem kindRight_requestKind (r : Request) : kindRight (requestKind r) = some (requestRight r) := by
  cases r with
  | badTable isWrite => cases isWrite <;> rfl
  | unnamed what => cases what <;> rfl
  | _ => rfl

/-- R178, R183: whatever the fields of a READ_ENTRY, its kind is that of READ_ENTRY. -/
theorem requestKind_readRequest (table : Nat) (bank : Named BankSel) (index : Nat) :
    requestKind (readRequest table bank index) = 0x20 := by
  unfold readRequest
  split
  · rfl
  · rename_i t _
    cases t <;> rfl

/-- R178, R183: whatever the fields of a WRITE_ENTRY, its kind is that of WRITE_ENTRY. -/
theorem requestKind_writeRequest (table index : Nat) (entry : List Octet) :
    requestKind (writeRequest table index entry) = 0x21 := by
  have either : ∀ {α : Type} (o : Option α) (f : α → Request) (d : Request), (∀ a, requestKind (f a) = 0x21) →
      requestKind d = 0x21 → requestKind ((o.map f).getD d) = 0x21 := by
    intro α o f d hf hd
    cases o with
    | none => exact hd
    | some a => exact hf a
  unfold writeRequest
  split
  · rfl
  · rename_i t _
    cases t <;> exact either _ _ _ (fun _ => rfl) rfl

/-- R178: a command that is a request is that request, of its port, and of the kind that `requestOf` names. -/
theorem exec_requestOf {s : State} {p : Port} {tag kind : Octet} {cmd : Instr} {r : Request}
    (h : requestOf cmd = some (p, tag, kind, r)) : requestKind r = kind ∧ exec cmd s = .next (s.request p tag r) := by
  cases cmd <;> simp only [requestOf] at h <;> try (first | (cases h; done) | (cases h; exact ⟨rfl, rfl⟩))
  case badTable isWrite table =>
    split at h
    · cases h
    · rename_i hn
      simp only [Option.some.injEq, Prod.mk.injEq] at h
      obtain ⟨rfl, rfl, rfl, rfl⟩ := h
      exact ⟨rfl, by simp only [exec, execBadTable, State.badTableRequest, if_neg hn]⟩
  case unnamedSubjectOrCommand what => cases what <;> simp only at h <;> (cases h; exact ⟨rfl, rfl⟩)

/-- R176: a complete message from a present port goes to acceptance, unless it is an IDENT reply. -/
theorem completeMessage_present {s : State} {p : Port} {kind : Octet} (tag : Octet) (payload : List Octet) (keys : Keys)
    (hp : s.present p = true) (hk : kind ≠ identReplyKind) :
    s.completeMessage p kind tag payload keys = s.acceptMessage p kind tag payload := by
  unfold State.present at hp
  cases hs : s.ports[p].state <;> rw [hs] at hp
  case up | quiet => simp only [State.completeMessage, hs, if_neg hk]
  all_goals cases hp

/-- R177 step 2: a kind that is no request kind. -/
theorem acceptMessage_unknown {s : State} {p : Port} {kind : Octet} (tag : Octet) (payload : List Octet)
    (hp : s.present p = true) (hk : kindRight kind = none) :
    s.acceptMessage p kind tag payload =
      if 8 ≤ s.queues[p].length then s.raise (.requestDropped p kind tag)
      else s.replied p (replyOf 0xFE tag .unknown (.unknownKind kind)) := by
  simp only [State.acceptMessage, hk, State.acceptUnknown, hp, if_true, State.hasRoom, decide_eq_true_eq]
  by_cases hq : 8 ≤ s.queues[p].length
  · rw [if_neg (Nat.not_lt.2 hq), if_pos hq]
  · rw [if_pos (Nat.not_le.1 hq), if_neg hq]
    exact reserve_answer s p _ tag _ (by simp [Answer.with])

/-- R177 step 1: a message that finds no room. -/
theorem acceptMessage_dropped {s : State} {p : Port} (kind tag : Octet) (payload : List Octet)
    (hp : s.present p = true) (hq : 8 ≤ s.queues[p].length) :
    s.acceptMessage p kind tag payload = s.raise (.requestDropped p kind tag) := by
  cases hk : kindRight kind with
  | none => rw [acceptMessage_unknown tag payload hp hk, if_pos hq]
  | some right =>
    simp only [State.acceptMessage, hk, State.accept, hp, State.hasRoom, if_true, decide_eq_false (Nat.not_lt.2 hq)]
    rfl

/-- R177 step 3: a message whose right the profile lacks. -/
theorem acceptMessage_denied {s : State} {p : Port} {kind : Octet} {right : Right} (tag : Octet) (payload : List Octet)
    (hp : s.present p = true) (hq : s.queues[p].length < 8) (hk : kindRight kind = some right)
    (hr : hasRight s.profiles[p].rights right = false) :
    s.acceptMessage p kind tag payload = s.replied p (replyOf (replyKind kind) tag .denied .nothing) := by
  simp only [State.acceptMessage, hk, State.accept, hp, State.hasRoom, hq, hr, decide_true, if_true]
  exact reserve_answer s p _ tag _ (by decide)

/-- R177 step 4: a message whose payload fails its form. -/
theorem acceptMessage_badForm {s : State} {p : Port} {kind : Octet} {right : Right} (tag : Octet) {payload : List Octet}
    (h : MaySend s p right) (hk : kindRight kind = some right) (hf : readPayload kind payload = none) :
    s.acceptMessage p kind tag payload = s.replied p (replyOf (replyKind kind) tag .badValue .nothing) := by
  obtain ⟨hp, hq, hr⟩ := h
  simp only [State.acceptMessage, hk, State.accept, hp, State.hasRoom, hq, hr, decide_true, if_true, payloadOwner, hf]
  exact reserve_answer s p _ tag _ (by decide)

/-- R177 step 5: a message whose payload is a request of its kind. -/
theorem acceptMessage_request {s : State} {p : Port} {kind : Octet} (tag : Octet) {payload : List Octet} {r : Request}
    (hr : requestKind r = kind) (hf : readPayload kind payload = some r) :
    s.acceptMessage p kind tag payload = s.request p tag r := by
  have ho : payloadOwner p kind payload = owner p r := by
    funext u
    simp only [payloadOwner, hf]
  subst hr
  simp only [State.acceptMessage, kindRight_requestKind, ho, State.request]

/-- What a reply at the tail leaves in each field. -/
@[simp] theorem replied_sansMsgs (s : State) (p : Port) (e : TxEntry) : (s.replied p e).sansMsgs = s.sansMsgs := rfl

/-- Reading a counter after one has been replaced. -/
@[simp] theorem counter_setCounter (s : State) (c d : CounterId) (x : Counter) :
    (s.setCounter c x).counter d = if d = c then x else s.counter d := by
  cases c <;> cases d <;> simp [State.setCounter, State.counter, State.counterIdx]

/-- Replacing a counter by itself changes nothing. -/
@[simp] theorem setCounter_counter (s : State) (c : CounterId) : s.setCounter c (s.counter c) = s := by
  simp only [State.setCounter, State.counter, put_get]

/-- A reservation leaves every counter. -/
@[simp] theorem counter_reserve (s : State) (p : Port) (c : CounterId) : (s.reserve p).counter c = s.counter c := rfl

end Sys2Proof.Machine
end

