-- ==== Sys2Proof/Laws/Talk.lean ====
section
/-! SUPPORT. The operations of the Talk Arbiter touch the talk lists, the DENIED periods and the messages and nothing
else. -/

namespace Sys2Proof.Machine

/-- The state without its messages, its talk lists and its DENIED periods. -/
def State.sansTalk (s : State) : State :=
  { s with
    talk := Vector.replicate 16 ChannelTalk.powerOn
    denied := Vector.replicate 32 (Vector.replicate 4 none)
    queues := Vector.replicate 32 []
    gaps := Vector.replicate 32 false
    notices := Vector.replicate 18 NoticeRecord.empty }

/-- States equal apart from what `sansTalk` erases agree in every other field. -/
theorem fields_of_sansTalk {a b : State} (h : a.sansTalk = b.sansTalk) :
    a.pending = b.pending ∧ a.powered = b.powered ∧ a.clock = b.clock ∧ a.fresh = b.fresh ∧ a.ports = b.ports
      ∧ a.assemblies = b.assemblies ∧ a.restartBy = b.restartBy ∧ a.profiles = b.profiles ∧ a.bankA = b.bankA
      ∧ a.bankB = b.bankB ∧ a.live = b.live ∧ a.swapPending = b.swapPending ∧ a.active = b.active
      ∧ a.counters = b.counters ∧ a.pins = b.pins ∧ a.occupied = b.occupied ∧ a.channels = b.channels
      ∧ a.router = b.router ∧ a.calls = b.calls ∧ a.samples = b.samples ∧ a.shown = b.shown ∧ a.line = b.line
      ∧ a.noticeControl = b.noticeControl ∧ a.loader = b.loader ∧ a.save = b.save ∧ a.store = b.store := by
  exact ⟨(congrArg State.pending h :), (congrArg State.powered h :), (congrArg State.clock h :),
    (congrArg State.fresh h :), (congrArg State.ports h :), (congrArg State.assemblies h :),
    (congrArg State.restartBy h :), (congrArg State.profiles h :), (congrArg State.bankA h :),
    (congrArg State.bankB h :), (congrArg State.live h :), (congrArg State.swapPending h :),
    (congrArg State.active h :), (congrArg State.counters h :), (congrArg State.pins h :),
    (congrArg State.occupied h :), (congrArg State.channels h :), (congrArg State.router h :),
    (congrArg State.calls h :), (congrArg State.samples h :), (congrArg State.shown h :),
    (congrArg State.line h :), (congrArg State.noticeControl h :), (congrArg State.loader h :),
    (congrArg State.save h :), (congrArg State.store h :)⟩

/-- A fold of operations that each keep the rest keeps the rest. -/
theorem foldl_sansTalk {β : Type} (f : State → β → State) (h : ∀ t x, (f t x).sansTalk = t.sansTalk) :
    ∀ (l : List β) (s : State), (l.foldl f s).sansTalk = s.sansTalk
  | [], _ => rfl
  | x :: l, s => by rw [List.foldl_cons, foldl_sansTalk f h l (f s x), h s x]

/-- What changes only messages changes nothing that `sansTalk` keeps. -/
theorem sansTalk_of_sansMsgs {a b : State} (h : a.sansMsgs = b.sansMsgs) : a.sansTalk = b.sansTalk :=
  (congrArg State.sansTalk h :)

theorem setTalk_sansTalk (s : State) (c : Chan) (t : ChannelTalk) :
    (s.setTalk c t).sansTalk = s.sansTalk := rfl

theorem setDenied_sansTalk (s : State) (p : Port) (k : KeySlot) (d : Option Time) :
    (s.setDenied p k d).sansTalk = s.sansTalk := rfl

theorem raise_sansTalk (s : State) (d : NoticeDetail) :
    (s.raise d).sansTalk = s.sansTalk := sansTalk_of_sansMsgs (raise_sansMsgs s d)

theorem reloadIdle_sansTalk (s : State) (c : Chan) :
    (s.reloadIdle c).sansTalk = s.sansTalk := rfl

/-- What reloadIdle keeps. -/
@[simp] theorem reloadIdle_fields (s : State) (c : Chan) :
    (s.reloadIdle c).pending = s.pending ∧ (s.reloadIdle c).powered = s.powered ∧ (s.reloadIdle c).clock = s.clock
      ∧ (s.reloadIdle c).fresh = s.fresh ∧ (s.reloadIdle c).ports = s.ports
      ∧ (s.reloadIdle c).assemblies = s.assemblies ∧ (s.reloadIdle c).restartBy = s.restartBy
      ∧ (s.reloadIdle c).profiles = s.profiles ∧ (s.reloadIdle c).bankA = s.bankA ∧ (s.reloadIdle c).bankB = s.bankB
      ∧ (s.reloadIdle c).live = s.live ∧ (s.reloadIdle c).swapPending = s.swapPending
      ∧ (s.reloadIdle c).active = s.active ∧ (s.reloadIdle c).counters = s.counters ∧ (s.reloadIdle c).pins = s.pins
      ∧ (s.reloadIdle c).occupied = s.occupied ∧ (s.reloadIdle c).channels = s.channels
      ∧ (s.reloadIdle c).router = s.router ∧ (s.reloadIdle c).calls = s.calls ∧ (s.reloadIdle c).samples = s.samples
      ∧ (s.reloadIdle c).shown = s.shown ∧ (s.reloadIdle c).line = s.line
      ∧ (s.reloadIdle c).noticeControl = s.noticeControl ∧ (s.reloadIdle c).loader = s.loader
      ∧ (s.reloadIdle c).save = s.save ∧ (s.reloadIdle c).store = s.store :=
  fields_of_sansTalk (reloadIdle_sansTalk s c)

theorem startDenied_sansTalk (s : State) (p : Port) (k : KeySlot) :
    (s.startDenied p k).sansTalk = s.sansTalk := rfl

/-- What startDenied keeps. -/
@[simp] theorem startDenied_fields (s : State) (p : Port) (k : KeySlot) :
    (s.startDenied p k).pending = s.pending ∧ (s.startDenied p k).powered = s.powered
      ∧ (s.startDenied p k).clock = s.clock ∧ (s.startDenied p k).fresh = s.fresh
      ∧ (s.startDenied p k).ports = s.ports ∧ (s.startDenied p k).assemblies = s.assemblies
      ∧ (s.startDenied p k).restartBy = s.restartBy ∧ (s.startDenied p k).profiles = s.profiles
      ∧ (s.startDenied p k).bankA = s.bankA ∧ (s.startDenied p k).bankB = s.bankB ∧ (s.startDenied p k).live = s.live
      ∧ (s.startDenied p k).swapPending = s.swapPending ∧ (s.startDenied p k).active = s.active
      ∧ (s.startDenied p k).counters = s.counters ∧ (s.startDenied p k).pins = s.pins
      ∧ (s.startDenied p k).occupied = s.occupied ∧ (s.startDenied p k).channels = s.channels
      ∧ (s.startDenied p k).router = s.router ∧ (s.startDenied p k).calls = s.calls
      ∧ (s.startDenied p k).samples = s.samples ∧ (s.startDenied p k).shown = s.shown
      ∧ (s.startDenied p k).line = s.line ∧ (s.startDenied p k).noticeControl = s.noticeControl
      ∧ (s.startDenied p k).loader = s.loader ∧ (s.startDenied p k).save = s.save
      ∧ (s.startDenied p k).store = s.store :=
  fields_of_sansTalk (startDenied_sansTalk s p k)

theorem grantHeads_sansTalk (s : State) (c : Chan) (b : Bool) :
    (s.grantHeads c b).sansTalk = s.sansTalk := by
  unfold State.grantHeads
  dsimp only
  split
  · rw [reloadIdle_sansTalk, setTalk_sansTalk]
  · rw [setTalk_sansTalk]

/-- What grantHeads keeps. -/
@[simp] theorem grantHeads_fields (s : State) (c : Chan) (b : Bool) :
    (s.grantHeads c b).pending = s.pending ∧ (s.grantHeads c b).powered = s.powered
      ∧ (s.grantHeads c b).clock = s.clock ∧ (s.grantHeads c b).fresh = s.fresh ∧ (s.grantHeads c b).ports = s.ports
      ∧ (s.grantHeads c b).assemblies = s.assemblies ∧ (s.grantHeads c b).restartBy = s.restartBy
      ∧ (s.grantHeads c b).profiles = s.profiles ∧ (s.grantHeads c b).bankA = s.bankA
      ∧ (s.grantHeads c b).bankB = s.bankB ∧ (s.grantHeads c b).live = s.live
      ∧ (s.grantHeads c b).swapPending = s.swapPending ∧ (s.grantHeads c b).active = s.active
      ∧ (s.grantHeads c b).counters = s.counters ∧ (s.grantHeads c b).pins = s.pins
      ∧ (s.grantHeads c b).occupied = s.occupied ∧ (s.grantHeads c b).channels = s.channels
      ∧ (s.grantHeads c b).router = s.router ∧ (s.grantHeads c b).calls = s.calls
      ∧ (s.grantHeads c b).samples = s.samples ∧ (s.grantHeads c b).shown = s.shown ∧ (s.grantHeads c b).line = s.line
      ∧ (s.grantHeads c b).noticeControl = s.noticeControl ∧ (s.grantHeads c b).loader = s.loader
      ∧ (s.grantHeads c b).save = s.save ∧ (s.grantHeads c b).store = s.store :=
  fields_of_sansTalk (grantHeads_sansTalk s c b)

theorem removeTalk_sansTalk (s : State) (c : Chan) (p : Port) :
    (s.removeTalk c p).sansTalk = s.sansTalk := by
  unfold State.removeTalk
  dsimp only
  split
  · rw [grantHeads_sansTalk, setTalk_sansTalk]
  · rw [setTalk_sansTalk]

/-- What removeTalk keeps. -/
@[simp] theorem removeTalk_fields (s : State) (c : Chan) (p : Port) :
    (s.removeTalk c p).pending = s.pending ∧ (s.removeTalk c p).powered = s.powered
      ∧ (s.removeTalk c p).clock = s.clock ∧ (s.removeTalk c p).fresh = s.fresh ∧ (s.removeTalk c p).ports = s.ports
      ∧ (s.removeTalk c p).assemblies = s.assemblies ∧ (s.removeTalk c p).restartBy = s.restartBy
      ∧ (s.removeTalk c p).profiles = s.profiles ∧ (s.removeTalk c p).bankA = s.bankA
      ∧ (s.removeTalk c p).bankB = s.bankB ∧ (s.removeTalk c p).live = s.live
      ∧ (s.removeTalk c p).swapPending = s.swapPending ∧ (s.removeTalk c p).active = s.active
      ∧ (s.removeTalk c p).counters = s.counters ∧ (s.removeTalk c p).pins = s.pins
      ∧ (s.removeTalk c p).occupied = s.occupied ∧ (s.removeTalk c p).channels = s.channels
      ∧ (s.removeTalk c p).router = s.router ∧ (s.removeTalk c p).calls = s.calls
      ∧ (s.removeTalk c p).samples = s.samples ∧ (s.removeTalk c p).shown = s.shown ∧ (s.removeTalk c p).line = s.line
      ∧ (s.removeTalk c p).noticeControl = s.noticeControl ∧ (s.removeTalk c p).loader = s.loader
      ∧ (s.removeTalk c p).save = s.save ∧ (s.removeTalk c p).store = s.store :=
  fields_of_sansTalk (removeTalk_sansTalk s c p)

theorem releaseTalk_sansTalk (s : State) (c : Chan) (p : Port) :
    (s.releaseTalk c p).sansTalk = s.sansTalk := by
  rw [State.releaseTalk, reloadIdle_sansTalk, removeTalk_sansTalk]

/-- What releaseTalk keeps. -/
@[simp] theorem releaseTalk_fields (s : State) (c : Chan) (p : Port) :
    (s.releaseTalk c p).pending = s.pending ∧ (s.releaseTalk c p).powered = s.powered
      ∧ (s.releaseTalk c p).clock = s.clock ∧ (s.releaseTalk c p).fresh = s.fresh
      ∧ (s.releaseTalk c p).ports = s.ports ∧ (s.releaseTalk c p).assemblies = s.assemblies
      ∧ (s.releaseTalk c p).restartBy = s.restartBy ∧ (s.releaseTalk c p).profiles = s.profiles
      ∧ (s.releaseTalk c p).bankA = s.bankA ∧ (s.releaseTalk c p).bankB = s.bankB ∧ (s.releaseTalk c p).live = s.live
      ∧ (s.releaseTalk c p).swapPending = s.swapPending ∧ (s.releaseTalk c p).active = s.active
      ∧ (s.releaseTalk c p).counters = s.counters ∧ (s.releaseTalk c p).pins = s.pins
      ∧ (s.releaseTalk c p).occupied = s.occupied ∧ (s.releaseTalk c p).channels = s.channels
      ∧ (s.releaseTalk c p).router = s.router ∧ (s.releaseTalk c p).calls = s.calls
      ∧ (s.releaseTalk c p).samples = s.samples ∧ (s.releaseTalk c p).shown = s.shown
      ∧ (s.releaseTalk c p).line = s.line ∧ (s.releaseTalk c p).noticeControl = s.noticeControl
      ∧ (s.releaseTalk c p).loader = s.loader ∧ (s.releaseTalk c p).save = s.save
      ∧ (s.releaseTalk c p).store = s.store :=
  fields_of_sansTalk (releaseTalk_sansTalk s c p)

theorem displace_sansTalk (s : State) (c : Chan) (l : List Port) (x : PreemptCause) (e : TalkEntry) :
    (s.displace c l x e).sansTalk = s.sansTalk := by
  unfold State.displace
  split
  · rw [raise_sansTalk, setTalk_sansTalk]
  · rw [raise_sansTalk, startDenied_sansTalk]

/-- What displace keeps. -/
@[simp] theorem displace_fields (s : State) (c : Chan) (l : List Port) (x : PreemptCause) (e : TalkEntry) :
    (s.displace c l x e).pending = s.pending ∧ (s.displace c l x e).powered = s.powered
      ∧ (s.displace c l x e).clock = s.clock ∧ (s.displace c l x e).fresh = s.fresh
      ∧ (s.displace c l x e).ports = s.ports ∧ (s.displace c l x e).assemblies = s.assemblies
      ∧ (s.displace c l x e).restartBy = s.restartBy ∧ (s.displace c l x e).profiles = s.profiles
      ∧ (s.displace c l x e).bankA = s.bankA ∧ (s.displace c l x e).bankB = s.bankB
      ∧ (s.displace c l x e).live = s.live ∧ (s.displace c l x e).swapPending = s.swapPending
      ∧ (s.displace c l x e).active = s.active ∧ (s.displace c l x e).counters = s.counters
      ∧ (s.displace c l x e).pins = s.pins ∧ (s.displace c l x e).occupied = s.occupied
      ∧ (s.displace c l x e).channels = s.channels ∧ (s.displace c l x e).router = s.router
      ∧ (s.displace c l x e).calls = s.calls ∧ (s.displace c l x e).samples = s.samples
      ∧ (s.displace c l x e).shown = s.shown ∧ (s.displace c l x e).line = s.line
      ∧ (s.displace c l x e).noticeControl = s.noticeControl ∧ (s.displace c l x e).loader = s.loader
      ∧ (s.displace c l x e).save = s.save ∧ (s.displace c l x e).store = s.store :=
  fields_of_sansTalk (displace_sansTalk s c l x e)

theorem requestSteps_sansTalk (s : State) (c : Chan) (e : TalkEntry) :
    (s.requestSteps c e).sansTalk = s.sansTalk := by
  unfold State.requestSteps
  split
  · rfl
  · split
    · rw [setDenied_sansTalk, State.appendTalker, setTalk_sansTalk, displace_sansTalk, State.dropTalker, setTalk_sansTalk]
    · split
      · rfl
      · rfl

/-- What requestSteps keeps. -/
@[simp] theorem requestSteps_fields (s : State) (c : Chan) (e : TalkEntry) :
    (s.requestSteps c e).pending = s.pending ∧ (s.requestSteps c e).powered = s.powered
      ∧ (s.requestSteps c e).clock = s.clock ∧ (s.requestSteps c e).fresh = s.fresh
      ∧ (s.requestSteps c e).ports = s.ports ∧ (s.requestSteps c e).assemblies = s.assemblies
      ∧ (s.requestSteps c e).restartBy = s.restartBy ∧ (s.requestSteps c e).profiles = s.profiles
      ∧ (s.requestSteps c e).bankA = s.bankA ∧ (s.requestSteps c e).bankB = s.bankB
      ∧ (s.requestSteps c e).live = s.live ∧ (s.requestSteps c e).swapPending = s.swapPending
      ∧ (s.requestSteps c e).active = s.active ∧ (s.requestSteps c e).counters = s.counters
      ∧ (s.requestSteps c e).pins = s.pins ∧ (s.requestSteps c e).occupied = s.occupied
      ∧ (s.requestSteps c e).channels = s.channels ∧ (s.requestSteps c e).router = s.router
      ∧ (s.requestSteps c e).calls = s.calls ∧ (s.requestSteps c e).samples = s.samples
      ∧ (s.requestSteps c e).shown = s.shown ∧ (s.requestSteps c e).line = s.line
      ∧ (s.requestSteps c e).noticeControl = s.noticeControl ∧ (s.requestSteps c e).loader = s.loader
      ∧ (s.requestSteps c e).save = s.save ∧ (s.requestSteps c e).store = s.store :=
  fields_of_sansTalk (requestSteps_sansTalk s c e)

theorem requestTalk_sansTalk (s : State) (c : Chan) (e : TalkEntry) :
    (s.requestTalk c e).sansTalk = s.sansTalk := by
  rw [State.requestTalk, reloadIdle_sansTalk, requestSteps_sansTalk]

/-- What requestTalk keeps. -/
@[simp] theorem requestTalk_fields (s : State) (c : Chan) (e : TalkEntry) :
    (s.requestTalk c e).pending = s.pending ∧ (s.requestTalk c e).powered = s.powered
      ∧ (s.requestTalk c e).clock = s.clock ∧ (s.requestTalk c e).fresh = s.fresh
      ∧ (s.requestTalk c e).ports = s.ports ∧ (s.requestTalk c e).assemblies = s.assemblies
      ∧ (s.requestTalk c e).restartBy = s.restartBy ∧ (s.requestTalk c e).profiles = s.profiles
      ∧ (s.requestTalk c e).bankA = s.bankA ∧ (s.requestTalk c e).bankB = s.bankB ∧ (s.requestTalk c e).live = s.live
      ∧ (s.requestTalk c e).swapPending = s.swapPending ∧ (s.requestTalk c e).active = s.active
      ∧ (s.requestTalk c e).counters = s.counters ∧ (s.requestTalk c e).pins = s.pins
      ∧ (s.requestTalk c e).occupied = s.occupied ∧ (s.requestTalk c e).channels = s.channels
      ∧ (s.requestTalk c e).router = s.router ∧ (s.requestTalk c e).calls = s.calls
      ∧ (s.requestTalk c e).samples = s.samples ∧ (s.requestTalk c e).shown = s.shown
      ∧ (s.requestTalk c e).line = s.line ∧ (s.requestTalk c e).noticeControl = s.noticeControl
      ∧ (s.requestTalk c e).loader = s.loader ∧ (s.requestTalk c e).save = s.save
      ∧ (s.requestTalk c e).store = s.store :=
  fields_of_sansTalk (requestTalk_sansTalk s c e)

theorem talkPress_sansTalk (s : State) (p : Port) (k : KeySlot) :
    (s.talkPress p k).sansTalk = s.sansTalk := by
  unfold State.talkPress
  split
  · rfl
  · split
    · rfl
    · exact requestTalk_sansTalk _ _ _
    · exact releaseTalk_sansTalk _ _ _
    · exact requestTalk_sansTalk _ _ _
    · exact releaseTalk_sansTalk _ _ _
    · exact requestTalk_sansTalk _ _ _

/-- What talkPress keeps. -/
@[simp] theorem talkPress_fields (s : State) (p : Port) (k : KeySlot) :
    (s.talkPress p k).pending = s.pending ∧ (s.talkPress p k).powered = s.powered
      ∧ (s.talkPress p k).clock = s.clock ∧ (s.talkPress p k).fresh = s.fresh ∧ (s.talkPress p k).ports = s.ports
      ∧ (s.talkPress p k).assemblies = s.assemblies ∧ (s.talkPress p k).restartBy = s.restartBy
      ∧ (s.talkPress p k).profiles = s.profiles ∧ (s.talkPress p k).bankA = s.bankA
      ∧ (s.talkPress p k).bankB = s.bankB ∧ (s.talkPress p k).live = s.live
      ∧ (s.talkPress p k).swapPending = s.swapPending ∧ (s.talkPress p k).active = s.active
      ∧ (s.talkPress p k).counters = s.counters ∧ (s.talkPress p k).pins = s.pins
      ∧ (s.talkPress p k).occupied = s.occupied ∧ (s.talkPress p k).channels = s.channels
      ∧ (s.talkPress p k).router = s.router ∧ (s.talkPress p k).calls = s.calls
      ∧ (s.talkPress p k).samples = s.samples ∧ (s.talkPress p k).shown = s.shown ∧ (s.talkPress p k).line = s.line
      ∧ (s.talkPress p k).noticeControl = s.noticeControl ∧ (s.talkPress p k).loader = s.loader
      ∧ (s.talkPress p k).save = s.save ∧ (s.talkPress p k).store = s.store :=
  fields_of_sansTalk (talkPress_sansTalk s p k)

theorem talkRelease_sansTalk (s : State) (p : Port) (k : KeySlot) :
    (s.talkRelease p k).sansTalk = s.sansTalk := by
  unfold State.talkRelease
  split
  · rfl
  · split
    · exact releaseTalk_sansTalk _ _ _
    · split
      · rfl
      · exact releaseTalk_sansTalk _ _ _
    · rfl

/-- What talkRelease keeps. -/
@[simp] theorem talkRelease_fields (s : State) (p : Port) (k : KeySlot) :
    (s.talkRelease p k).pending = s.pending ∧ (s.talkRelease p k).powered = s.powered
      ∧ (s.talkRelease p k).clock = s.clock ∧ (s.talkRelease p k).fresh = s.fresh
      ∧ (s.talkRelease p k).ports = s.ports ∧ (s.talkRelease p k).assemblies = s.assemblies
      ∧ (s.talkRelease p k).restartBy = s.restartBy ∧ (s.talkRelease p k).profiles = s.profiles
      ∧ (s.talkRelease p k).bankA = s.bankA ∧ (s.talkRelease p k).bankB = s.bankB ∧ (s.talkRelease p k).live = s.live
      ∧ (s.talkRelease p k).swapPending = s.swapPending ∧ (s.talkRelease p k).active = s.active
      ∧ (s.talkRelease p k).counters = s.counters ∧ (s.talkRelease p k).pins = s.pins
      ∧ (s.talkRelease p k).occupied = s.occupied ∧ (s.talkRelease p k).channels = s.channels
      ∧ (s.talkRelease p k).router = s.router ∧ (s.talkRelease p k).calls = s.calls
      ∧ (s.talkRelease p k).samples = s.samples ∧ (s.talkRelease p k).shown = s.shown
      ∧ (s.talkRelease p k).line = s.line ∧ (s.talkRelease p k).noticeControl = s.noticeControl
      ∧ (s.talkRelease p k).loader = s.loader ∧ (s.talkRelease p k).save = s.save
      ∧ (s.talkRelease p k).store = s.store :=
  fields_of_sansTalk (talkRelease_sansTalk s p k)

theorem idleExpired_sansTalk (s : State) (c : Chan) :
    (s.idleExpired c).sansTalk = s.sansTalk := by
  unfold State.idleExpired
  split
  · rfl
  · rw [raise_sansTalk, grantHeads_sansTalk, setTalk_sansTalk]

/-- What idleExpired keeps. -/
@[simp] theorem idleExpired_fields (s : State) (c : Chan) :
    (s.idleExpired c).pending = s.pending ∧ (s.idleExpired c).powered = s.powered
      ∧ (s.idleExpired c).clock = s.clock ∧ (s.idleExpired c).fresh = s.fresh ∧ (s.idleExpired c).ports = s.ports
      ∧ (s.idleExpired c).assemblies = s.assemblies ∧ (s.idleExpired c).restartBy = s.restartBy
      ∧ (s.idleExpired c).profiles = s.profiles ∧ (s.idleExpired c).bankA = s.bankA
      ∧ (s.idleExpired c).bankB = s.bankB ∧ (s.idleExpired c).live = s.live
      ∧ (s.idleExpired c).swapPending = s.swapPending ∧ (s.idleExpired c).active = s.active
      ∧ (s.idleExpired c).counters = s.counters ∧ (s.idleExpired c).pins = s.pins
      ∧ (s.idleExpired c).occupied = s.occupied ∧ (s.idleExpired c).channels = s.channels
      ∧ (s.idleExpired c).router = s.router ∧ (s.idleExpired c).calls = s.calls
      ∧ (s.idleExpired c).samples = s.samples ∧ (s.idleExpired c).shown = s.shown ∧ (s.idleExpired c).line = s.line
      ∧ (s.idleExpired c).noticeControl = s.noticeControl ∧ (s.idleExpired c).loader = s.loader
      ∧ (s.idleExpired c).save = s.save ∧ (s.idleExpired c).store = s.store :=
  fields_of_sansTalk (idleExpired_sansTalk s c)

theorem idleExpiry_sansTalk (s : State) (c : Chan) :
    (s.idleExpiry c).sansTalk = s.sansTalk := by
  unfold State.idleExpiry
  split
  · exact idleExpired_sansTalk s c
  · rfl

/-- What idleExpiry keeps. -/
@[simp] theorem idleExpiry_fields (s : State) (c : Chan) :
    (s.idleExpiry c).pending = s.pending ∧ (s.idleExpiry c).powered = s.powered ∧ (s.idleExpiry c).clock = s.clock
      ∧ (s.idleExpiry c).fresh = s.fresh ∧ (s.idleExpiry c).ports = s.ports
      ∧ (s.idleExpiry c).assemblies = s.assemblies ∧ (s.idleExpiry c).restartBy = s.restartBy
      ∧ (s.idleExpiry c).profiles = s.profiles ∧ (s.idleExpiry c).bankA = s.bankA ∧ (s.idleExpiry c).bankB = s.bankB
      ∧ (s.idleExpiry c).live = s.live ∧ (s.idleExpiry c).swapPending = s.swapPending
      ∧ (s.idleExpiry c).active = s.active ∧ (s.idleExpiry c).counters = s.counters ∧ (s.idleExpiry c).pins = s.pins
      ∧ (s.idleExpiry c).occupied = s.occupied ∧ (s.idleExpiry c).channels = s.channels
      ∧ (s.idleExpiry c).router = s.router ∧ (s.idleExpiry c).calls = s.calls ∧ (s.idleExpiry c).samples = s.samples
      ∧ (s.idleExpiry c).shown = s.shown ∧ (s.idleExpiry c).line = s.line
      ∧ (s.idleExpiry c).noticeControl = s.noticeControl ∧ (s.idleExpiry c).loader = s.loader
      ∧ (s.idleExpiry c).save = s.save ∧ (s.idleExpiry c).store = s.store :=
  fields_of_sansTalk (idleExpiry_sansTalk s c)

theorem deniedExpiry_sansTalk (s : State) (p : Port) (k : KeySlot) :
    (s.deniedExpiry p k).sansTalk = s.sansTalk := by
  unfold State.deniedExpiry
  split
  · rfl
  · rfl

/-- What deniedExpiry keeps. -/
@[simp] theorem deniedExpiry_fields (s : State) (p : Port) (k : KeySlot) :
    (s.deniedExpiry p k).pending = s.pending ∧ (s.deniedExpiry p k).powered = s.powered
      ∧ (s.deniedExpiry p k).clock = s.clock ∧ (s.deniedExpiry p k).fresh = s.fresh
      ∧ (s.deniedExpiry p k).ports = s.ports ∧ (s.deniedExpiry p k).assemblies = s.assemblies
      ∧ (s.deniedExpiry p k).restartBy = s.restartBy ∧ (s.deniedExpiry p k).profiles = s.profiles
      ∧ (s.deniedExpiry p k).bankA = s.bankA ∧ (s.deniedExpiry p k).bankB = s.bankB
      ∧ (s.deniedExpiry p k).live = s.live ∧ (s.deniedExpiry p k).swapPending = s.swapPending
      ∧ (s.deniedExpiry p k).active = s.active ∧ (s.deniedExpiry p k).counters = s.counters
      ∧ (s.deniedExpiry p k).pins = s.pins ∧ (s.deniedExpiry p k).occupied = s.occupied
      ∧ (s.deniedExpiry p k).channels = s.channels ∧ (s.deniedExpiry p k).router = s.router
      ∧ (s.deniedExpiry p k).calls = s.calls ∧ (s.deniedExpiry p k).samples = s.samples
      ∧ (s.deniedExpiry p k).shown = s.shown ∧ (s.deniedExpiry p k).line = s.line
      ∧ (s.deniedExpiry p k).noticeControl = s.noticeControl ∧ (s.deniedExpiry p k).loader = s.loader
      ∧ (s.deniedExpiry p k).save = s.save ∧ (s.deniedExpiry p k).store = s.store :=
  fields_of_sansTalk (deniedExpiry_sansTalk s p k)

theorem clearDenied_sansTalk (s : State) (p : Port) :
    (s.clearDenied p).sansTalk = s.sansTalk := rfl

theorem leaveUp_sansTalk (s : State) (p : Port) :
    (s.leaveUp p).sansTalk = s.sansTalk := by
  rw [State.leaveUp, clearDenied_sansTalk]
  exact foldl_sansTalk _ (fun t c => removeTalk_sansTalk t c p) _ s

/-- What leaveUp keeps. -/
@[simp] theorem leaveUp_fields (s : State) (p : Port) :
    (s.leaveUp p).pending = s.pending ∧ (s.leaveUp p).powered = s.powered ∧ (s.leaveUp p).clock = s.clock
      ∧ (s.leaveUp p).fresh = s.fresh ∧ (s.leaveUp p).ports = s.ports ∧ (s.leaveUp p).assemblies = s.assemblies
      ∧ (s.leaveUp p).restartBy = s.restartBy ∧ (s.leaveUp p).profiles = s.profiles ∧ (s.leaveUp p).bankA = s.bankA
      ∧ (s.leaveUp p).bankB = s.bankB ∧ (s.leaveUp p).live = s.live ∧ (s.leaveUp p).swapPending = s.swapPending
      ∧ (s.leaveUp p).active = s.active ∧ (s.leaveUp p).counters = s.counters ∧ (s.leaveUp p).pins = s.pins
      ∧ (s.leaveUp p).occupied = s.occupied ∧ (s.leaveUp p).channels = s.channels ∧ (s.leaveUp p).router = s.router
      ∧ (s.leaveUp p).calls = s.calls ∧ (s.leaveUp p).samples = s.samples ∧ (s.leaveUp p).shown = s.shown
      ∧ (s.leaveUp p).line = s.line ∧ (s.leaveUp p).noticeControl = s.noticeControl ∧ (s.leaveUp p).loader = s.loader
      ∧ (s.leaveUp p).save = s.save ∧ (s.leaveUp p).store = s.store :=
  fields_of_sansTalk (leaveUp_sansTalk s p)

theorem rewriteTalkSlot_sansTalk (s : State) (p : Port) (a b : Vector SlotConfig 4) (k : KeySlot) :
    (s.rewriteTalkSlot p a b k).sansTalk = s.sansTalk := by
  unfold State.rewriteTalkSlot
  split
  · rfl
  · split
    · rfl
    · rw [setDenied_sansTalk, removeTalk_sansTalk]

/-- What rewriteTalkSlot keeps. -/
@[simp] theorem rewriteTalkSlot_fields (s : State) (p : Port) (a b : Vector SlotConfig 4) (k : KeySlot) :
    (s.rewriteTalkSlot p a b k).pending = s.pending ∧ (s.rewriteTalkSlot p a b k).powered = s.powered
      ∧ (s.rewriteTalkSlot p a b k).clock = s.clock ∧ (s.rewriteTalkSlot p a b k).fresh = s.fresh
      ∧ (s.rewriteTalkSlot p a b k).ports = s.ports ∧ (s.rewriteTalkSlot p a b k).assemblies = s.assemblies
      ∧ (s.rewriteTalkSlot p a b k).restartBy = s.restartBy ∧ (s.rewriteTalkSlot p a b k).profiles = s.profiles
      ∧ (s.rewriteTalkSlot p a b k).bankA = s.bankA ∧ (s.rewriteTalkSlot p a b k).bankB = s.bankB
      ∧ (s.rewriteTalkSlot p a b k).live = s.live ∧ (s.rewriteTalkSlot p a b k).swapPending = s.swapPending
      ∧ (s.rewriteTalkSlot p a b k).active = s.active ∧ (s.rewriteTalkSlot p a b k).counters = s.counters
      ∧ (s.rewriteTalkSlot p a b k).pins = s.pins ∧ (s.rewriteTalkSlot p a b k).occupied = s.occupied
      ∧ (s.rewriteTalkSlot p a b k).channels = s.channels ∧ (s.rewriteTalkSlot p a b k).router = s.router
      ∧ (s.rewriteTalkSlot p a b k).calls = s.calls ∧ (s.rewriteTalkSlot p a b k).samples = s.samples
      ∧ (s.rewriteTalkSlot p a b k).shown = s.shown ∧ (s.rewriteTalkSlot p a b k).line = s.line
      ∧ (s.rewriteTalkSlot p a b k).noticeControl = s.noticeControl ∧ (s.rewriteTalkSlot p a b k).loader = s.loader
      ∧ (s.rewriteTalkSlot p a b k).save = s.save ∧ (s.rewriteTalkSlot p a b k).store = s.store :=
  fields_of_sansTalk (rewriteTalkSlot_sansTalk s p a b k)

theorem displaceExcess_sansTalk (c : Chan) (l : List TalkEntry) :
    ∀ (s : State) (x : List Port), (s.displaceExcess c x l).sansTalk = s.sansTalk := by
  induction l with
  | nil => exact fun _ _ => rfl
  | cons e l ih => exact fun s x => (ih _ _).trans (displace_sansTalk s c x _ e)

theorem resizeTalkers_sansTalk (s : State) (c : Chan) (n : Nat) :
    (s.resizeTalkers c n).sansTalk = s.sansTalk := by
  unfold State.resizeTalkers
  split
  · rw [displaceExcess_sansTalk, setTalk_sansTalk]
  · exact grantHeads_sansTalk _ _ _

/-- What resizeTalkers keeps. -/
@[simp] theorem resizeTalkers_fields (s : State) (c : Chan) (n : Nat) :
    (s.resizeTalkers c n).pending = s.pending ∧ (s.resizeTalkers c n).powered = s.powered
      ∧ (s.resizeTalkers c n).clock = s.clock ∧ (s.resizeTalkers c n).fresh = s.fresh
      ∧ (s.resizeTalkers c n).ports = s.ports ∧ (s.resizeTalkers c n).assemblies = s.assemblies
      ∧ (s.resizeTalkers c n).restartBy = s.restartBy ∧ (s.resizeTalkers c n).profiles = s.profiles
      ∧ (s.resizeTalkers c n).bankA = s.bankA ∧ (s.resizeTalkers c n).bankB = s.bankB
      ∧ (s.resizeTalkers c n).live = s.live ∧ (s.resizeTalkers c n).swapPending = s.swapPending
      ∧ (s.resizeTalkers c n).active = s.active ∧ (s.resizeTalkers c n).counters = s.counters
      ∧ (s.resizeTalkers c n).pins = s.pins ∧ (s.resizeTalkers c n).occupied = s.occupied
      ∧ (s.resizeTalkers c n).channels = s.channels ∧ (s.resizeTalkers c n).router = s.router
      ∧ (s.resizeTalkers c n).calls = s.calls ∧ (s.resizeTalkers c n).samples = s.samples
      ∧ (s.resizeTalkers c n).shown = s.shown ∧ (s.resizeTalkers c n).line = s.line
      ∧ (s.resizeTalkers c n).noticeControl = s.noticeControl ∧ (s.resizeTalkers c n).loader = s.loader
      ∧ (s.resizeTalkers c n).save = s.save ∧ (s.resizeTalkers c n).store = s.store :=
  fields_of_sansTalk (resizeTalkers_sansTalk s c n)

theorem restopIdle_sansTalk (s : State) (c : Chan) (e : ChannelEntry) :
    (s.restopIdle c e).sansTalk = s.sansTalk := by
  unfold State.restopIdle
  split
  · rfl
  · rfl

/-- What restopIdle keeps. -/
@[simp] theorem restopIdle_fields (s : State) (c : Chan) (e : ChannelEntry) :
    (s.restopIdle c e).pending = s.pending ∧ (s.restopIdle c e).powered = s.powered
      ∧ (s.restopIdle c e).clock = s.clock ∧ (s.restopIdle c e).fresh = s.fresh ∧ (s.restopIdle c e).ports = s.ports
      ∧ (s.restopIdle c e).assemblies = s.assemblies ∧ (s.restopIdle c e).restartBy = s.restartBy
      ∧ (s.restopIdle c e).profiles = s.profiles ∧ (s.restopIdle c e).bankA = s.bankA
      ∧ (s.restopIdle c e).bankB = s.bankB ∧ (s.restopIdle c e).live = s.live
      ∧ (s.restopIdle c e).swapPending = s.swapPending ∧ (s.restopIdle c e).active = s.active
      ∧ (s.restopIdle c e).counters = s.counters ∧ (s.restopIdle c e).pins = s.pins
      ∧ (s.restopIdle c e).occupied = s.occupied ∧ (s.restopIdle c e).channels = s.channels
      ∧ (s.restopIdle c e).router = s.router ∧ (s.restopIdle c e).calls = s.calls
      ∧ (s.restopIdle c e).samples = s.samples ∧ (s.restopIdle c e).shown = s.shown ∧ (s.restopIdle c e).line = s.line
      ∧ (s.restopIdle c e).noticeControl = s.noticeControl ∧ (s.restopIdle c e).loader = s.loader
      ∧ (s.restopIdle c e).save = s.save ∧ (s.restopIdle c e).store = s.store :=
  fields_of_sansTalk (restopIdle_sansTalk s c e)

end Sys2Proof.Machine
end

