-- ==== Sys2Proof/Laws/Queues.lean ====
section
/-! SUPPORT. What stays in the transmit queues while an event goes on: every message but a desk status that has not
begun (R74, R179, R181). So a reserved entry is still there when its reply is built. -/

namespace Sys2Proof.Machine

/-- Every message of `s` but a desk status not yet begun still stands in `t`. -/
def KeepsMessages (s t : State) : Prop :=
  ∀ (p : Port) (e : TxEntry), e.isWaitingDesk = false → e ∈ s.queues[p] → e ∈ t.queues[p]

theorem KeepsMessages.refl (s : State) : KeepsMessages s s := fun _ _ _ h => h

theorem KeepsMessages.trans {s t u : State} (h : KeepsMessages s t) (k : KeepsMessages t u) : KeepsMessages s u :=
  fun p e he hm => k p e he (h p e he hm)

theorem KeepsMessages.of_queues {s t : State} (h : t.queues = s.queues) : KeepsMessages s t := by
  intro p e _ hm
  rw [h]
  exact hm

theorem KeepsMessages.foldl {β : Type} (f : State → β → State) (h : ∀ t x, KeepsMessages t (f t x)) :
    ∀ (l : List β) (s : State), KeepsMessages s (l.foldl f s)
  | [], s => KeepsMessages.refl s
  | x :: l, s => (h s x).trans (KeepsMessages.foldl f h l (f s x))

/-- Appending to one queue keeps what stood there. -/
theorem keeps_append (s : State) (p : Port) (x : TxEntry) : KeepsMessages s (s.setQueue p (s.queues[p] ++ [x])) := by
  intro q e _ hm
  by_cases h : q = p
  · subst h
    simpa using Or.inl hm
  · have hv : q.val ≠ p.val := fun hh => h (Fin.ext hh)
    simpa [hv] using hm

theorem testNotice_keeps (s : State) (k : NoticeKind) : KeepsMessages s (s.testNotice k) := by
  unfold State.testNotice
  split
  · exact (keeps_append s _ _).trans (KeepsMessages.of_queues rfl)
  · exact KeepsMessages.refl s

theorem testNotices_keeps (s : State) (f : Lane → NoticeKind → Bool) : KeepsMessages s (s.testNotices f) := by
  refine KeepsMessages.foldl _ (fun t x => ?_) _ s
  split
  · exact testNotice_keeps t _
  · exact KeepsMessages.refl t

theorem offer_keeps (s : State) (p : Port) : KeepsMessages s (s.offer p) := testNotices_keeps s _

theorem record_keeps (s : State) (d : NoticeDetail) : KeepsMessages s (s.record d) := KeepsMessages.of_queues rfl

theorem raise_keeps (s : State) (d : NoticeDetail) : KeepsMessages s (s.raise d) :=
  ((offer_keeps s _).trans (record_keeps _ d)).trans (testNotice_keeps _ _)

/-- Leaving out the oldest desk status not yet begun leaves every other message. -/
theorem mem_dropOldestDesk {e : TxEntry} (he : e.isWaitingDesk = false) :
    ∀ {q r : List TxEntry}, dropOldestDesk q = some r → e ∈ q → e ∈ r
  | [], _, h, _ => by simp [dropOldestDesk] at h
  | x :: q, r, h, hm => by
    unfold dropOldestDesk at h
    split at h
    · rename_i hx
      cases h
      rcases List.mem_cons.1 hm with rfl | hm
      · rw [he] at hx
        cases hx
      · exact hm
    · cases hd : dropOldestDesk q with
      | none => rw [hd] at h; cases h
      | some y =>
        rw [hd] at h
        cases h
        rcases List.mem_cons.1 hm with rfl | hm
        · exact List.mem_cons_self
        · exact List.mem_cons_of_mem _ (mem_dropOldestDesk he hd hm)

theorem deskCopy_keeps (s : State) (b : DeskBody) (p : Port) : KeepsMessages s (s.deskCopy b p) := by
  unfold State.deskCopy
  split
  · exact (keeps_append s p _).trans (KeepsMessages.of_queues rfl)
  · split
    · rename_i q hd
      intro n e he hm
      by_cases h : n = p
      · subst h
        simpa using Or.inl (mem_dropOldestDesk he hd hm)
      · have hv : n.val ≠ p.val := fun hh => h (Fin.ext hh)
        simpa [hv] using hm
    · exact KeepsMessages.of_queues rfl

theorem deskStatus_keeps (s : State) (b : DeskBody) : KeepsMessages s (s.deskStatus b) :=
  KeepsMessages.foldl _ (fun t p => deskCopy_keeps t b p) _ s

theorem changeCue_keeps (s : State) (r : ActiveCue) : KeepsMessages s (s.changeCue r) :=
  (KeepsMessages.of_queues (t := s.putCue r) rfl).trans (deskStatus_keeps _ _)

theorem noticeAbsent_keeps (s : State) (r : ActiveCue) : KeepsMessages s (s.noticeAbsent r) := by
  unfold State.noticeAbsent
  split
  · exact KeepsMessages.refl s
  · exact raise_keeps s _

theorem appendCue_keeps (s : State) (r : ActiveCue) : KeepsMessages s (s.appendCue r) :=
  ((KeepsMessages.of_queues (t := s.joinList r) rfl).trans (deskStatus_keeps _ _)).trans
    (noticeAbsent_keeps _ _)

theorem linkStanding_keeps (s : State) (r : ActiveCue) (q : CueSlot) (d : Nat) : KeepsMessages s (s.linkStanding r q d) := by
  unfold State.linkStanding
  split
  · exact KeepsMessages.of_queues rfl
  · exact KeepsMessages.of_queues rfl
  · exact KeepsMessages.of_queues rfl
  · exact raise_keeps s _

theorem enterGoing_keeps (s : State) (r : ActiveCue) : KeepsMessages s (s.enterGoing r) := changeCue_keeps s _

theorem applyLink_keeps (n : Nat) : ∀ (r : ActiveCue) (s : State), KeepsMessages s (State.applyLink n r s) := by
  induction n with
  | zero => exact fun _ s => KeepsMessages.refl s
  | succ n ih =>
    intro r s
    unfold State.applyLink
    dsimp only
    split
    · exact KeepsMessages.refl s
    · split
      · exact raise_keeps _ _
      · exact appendCue_keeps _ _
    · split
      · split
        · exact raise_keeps _ _
        · split
          · split
            · exact (appendCue_keeps _ _).trans (raise_keeps _ _)
            · exact (((KeepsMessages.of_queues (t := s.joinList _) rfl).trans (enterGoing_keeps _ _)).trans
                (noticeAbsent_keeps _ _)).trans (ih _ _)
          · exact appendCue_keeps _ _
      · split
        · split
          · exact raise_keeps _ _
          · exact (enterGoing_keeps _ _).trans (ih _ _)
        · exact linkStanding_keeps _ _ _ _

theorem takeGo_keeps (s : State) (r : ActiveCue) : KeepsMessages s (s.takeGo r) :=
  (enterGoing_keeps s r).trans (applyLink_keeps _ _ _)

theorem evalZone_keeps (s : State) (z : ZoneNo) : KeepsMessages s (s.evalZone z) := by
  unfold State.evalZone
  split
  · exact KeepsMessages.refl s
  · exact (KeepsMessages.of_queues (t := s.setOccupied z (s.zoneNow z)) rfl).trans (raise_keeps _ _)

theorem evalZones_keeps (s : State) (l : List ZoneNo) : KeepsMessages s (s.evalZones l) :=
  KeepsMessages.foldl _ evalZone_keeps l s

theorem completeSwap_keeps (s : State) (x : SwapCause) : KeepsMessages s (s.completeSwap x) :=
  (((KeepsMessages.of_queues (t := s.flip.rewindCounters) rfl).trans (evalZones_keeps _ _)).trans
    (raise_keeps _ _)).trans (deskStatus_keeps _ _)

theorem removeCue_keeps (s : State) (r : ActiveCue) (x : DeskState) : KeepsMessages s (s.removeCue r x) := by
  have h := (KeepsMessages.of_queues (t := s.dropCue r.slot) rfl).trans (deskStatus_keeps (s.dropCue r.slot) (s.deskBody r x))
  unfold State.removeCue State.listEmptied
  split
  · exact h.trans (completeSwap_keeps _ _)
  · exact h

theorem displace_keeps (s : State) (c : Chan) (l : List Port) (x : PreemptCause) (e : TalkEntry) :
    KeepsMessages s (s.displace c l x e) := by
  unfold State.displace
  split
  · refine KeepsMessages.trans ?_ (raise_keeps _ _)
    exact KeepsMessages.of_queues rfl
  · refine KeepsMessages.trans ?_ (raise_keeps _ _)
    exact KeepsMessages.of_queues rfl

/-- Granting, reloading and releasing touch no queue. -/
theorem removeTalk_queues (s : State) (c : Chan) (p : Port) :
    (s.removeTalk c p).queues = s.queues ∧ (s.removeTalk c p).notices = s.notices
      ∧ (s.removeTalk c p).gaps = s.gaps := by
  unfold State.removeTalk State.grantHeads
  dsimp only
  split <;> [split; skip] <;> exact ⟨rfl, rfl, rfl⟩

/-- A reply is in the queue once it has been built over its reservation. -/
theorem answer_mem (s : State) (p : Port) (kind tag : Octet) (a : Answer) (ha : a.waits = .nothing)
    (h : TxEntry.fresh .reserved ∈ s.queues[p]) :
    replyOf (kind) tag a.status a.data ∈ (s.answer p kind tag a).queues[p] := by
  have hf : ∀ (e : TxEntry) (q : List TxEntry), TxEntry.fresh .reserved ∈ q → e ∈ fillFirst e q := by
    intro e q hq
    induction q with
    | nil => cases hq
    | cons x q ih =>
      unfold fillFirst
      split
      · exact List.mem_cons_self
      · rename_i hx
        rcases List.mem_cons.1 hq with rfl | hq
        · exact absurd rfl hx
        · exact List.mem_cons_of_mem _ (ih hq)
  have hd : ¬Waits.nothing = Waits.deferred := by decide
  simp only [State.answer, setQueue_fields, get_put, if_true, ha, if_neg hd, fillReserved, replyOf]
  exact List.mem_reverse.2 (hf _ _ (List.mem_reverse.2 h))

/-- A reservation is in the queue it was made in. -/
theorem reserve_mem (s : State) (p : Port) : TxEntry.fresh .reserved ∈ (s.reserve p).queues[p] := by
  simp [State.reserve]

/-- A request whose owner keeps the messages ends with its reply in the queue. -/
theorem request_mem {s : State} {p : Port} (tag : Octet) {r : Request} (h : MaySend s p (requestRight r))
    (hw : (owner p r (s.reserve p)).2.waits = .nothing)
    (hk : KeepsMessages (s.reserve p) (owner p r (s.reserve p)).1) :
    replyOf (replyKind (requestKind r)) tag (owner p r (s.reserve p)).2.status (owner p r (s.reserve p)).2.data
      ∈ (s.request p tag r).queues[p] := by
  rw [request_taken tag h]
  exact answer_mem _ p _ tag _ hw (hk p _ rfl (reserve_mem s p))

/-- Replies and desk status leave the notice records. -/
@[simp] theorem answer_notices (s : State) (p : Port) (kind tag : Octet) (a : Answer) :
    (s.answer p kind tag a).notices = s.notices := rfl

@[simp] theorem reserve_notices (s : State) (p : Port) : (s.reserve p).notices = s.notices := rfl

@[simp] theorem deskCopy_notices (s : State) (b : DeskBody) (p : Port) : (s.deskCopy b p).notices = s.notices := by
  unfold State.deskCopy
  split
  · rfl
  · split <;> rfl

@[simp] theorem deskStatus_notices (s : State) (b : DeskBody) : (s.deskStatus b).notices = s.notices := by
  have h : ∀ (l : List Port) (t : State), (l.foldl (fun t p => t.deskCopy b p) t).notices = t.notices := by
    intro l
    induction l with
    | nil => exact fun _ => rfl
    | cons x l ih => exact fun t => (ih _).trans (deskCopy_notices t b x)
  exact h _ s

@[simp] theorem changeCue_notices (s : State) (r : ActiveCue) : (s.changeCue r).notices = s.notices :=
  deskStatus_notices _ _

/-- But for messages, a request does what its owner does. -/
theorem request_sansMsgs {s : State} {p : Port} (tag : Octet) {r : Request} (h : MaySend s p (requestRight r)) :
    (s.request p tag r).sansMsgs = (owner p r (s.reserve p)).1.sansMsgs := by
  rw [request_taken tag h, answer_sansMsgs]

/-- A request leaves the notice records as its owner does. -/
theorem request_notices {s : State} {p : Port} (tag : Octet) {r : Request} (h : MaySend s p (requestRight r)) :
    (s.request p tag r).notices = (owner p r (s.reserve p)).1.notices := by
  rw [request_taken tag h, answer_notices]

/-- The test of a record keeps its detail, and every other record. -/
@[simp] theorem testNotice_detail (s : State) (k j : NoticeKind) :
    (s.testNotice k).notices[j].detail = s.notices[j].detail := by
  unfold State.testNotice
  split
  · simp only [setNotice_fields, setQueue_fields, get_put]
    split
    · rename_i hj
      subst hj
      cases (s.laneOf j).mode <;> rfl
    · rfl
  · rfl

/-- Tests keep the detail of every record. -/
@[simp] theorem testNotices_detail (s : State) (f : Lane → NoticeKind → Bool) (j : NoticeKind) :
    (s.testNotices f).notices[j].detail = s.notices[j].detail := by
  have key : ∀ (l : List (Lane × NoticeKind)) (t : State), (l.foldl (fun t x =>
      if s.noticeControl.kinds[x.2].lane = x.1 ∧ f x.1 x.2 = true then t.testNotice x.2 else t) t).notices[j].detail =
        t.notices[j].detail := by
    intro l
    induction l with
    | nil => exact fun _ => rfl
    | cons x l ih =>
      intro t
      rw [List.foldl_cons, ih]
      split
      · exact testNotice_detail t x.2 j
      · rfl
  exact key _ s

/-- Tests of which none finds its gates open change nothing. -/
theorem testNotices_idle (s : State) (f : Lane → NoticeKind → Bool)
    (h : ∀ k, f s.noticeControl.kinds[k].lane k = true → s.deliverable k = false) : s.testNotices f = s := by
  have key : ∀ l : List (Lane × NoticeKind), l.foldl (fun t x =>
      if s.noticeControl.kinds[x.2].lane = x.1 ∧ f x.1 x.2 = true then t.testNotice x.2 else t) s = s := by
    intro l
    induction l with
    | nil => rfl
    | cons x l ih =>
      rw [List.foldl_cons]
      split
      · rename_i hx
        rw [State.testNotice, h x.2 (hx.1 ▸ hx.2), if_neg (by decide), ih]
      · exact ih
  exact key _

/-- R188: a raised notice leaves its detail in the record of its kind, and no other record's detail changes. -/
@[simp] theorem raise_detail (s : State) (d : NoticeDetail) (j : NoticeKind) :
    (s.raise d).notices[j].detail = if j = d.kind then some d else s.notices[j].detail := by
  rw [State.raise, testNotice_detail, State.record]
  simp only [setNotice_fields, get_put]
  split
  · rfl
  · exact testNotices_detail s _ j

/-- An evaluation of zones leaves the detail of every kind but ZONE_CHANGE. -/
theorem evalZones_detail (k : NoticeKind) (hk : k ≠ 11) (l : List ZoneNo) :
    ∀ s : State, (s.evalZones l).notices[k].detail = s.notices[k].detail := by
  have h : ∀ (s : State) (z : ZoneNo), (s.evalZone z).notices[k].detail = s.notices[k].detail := by
    intro s z
    unfold State.evalZone
    split
    · rfl
    · rw [raise_detail]
      simp only [NoticeDetail.kind, if_neg hk, setOccupied_fields]
  induction l with
  | nil => exact fun _ => rfl
  | cons z l ih => exact fun s => (ih _).trans (h s z)

/-- States alike but for messages, as the statements say it. -/
theorem messagesAside_iff (t u : State) : MessagesAside t u ↔ t.sansMsgs = u.sansMsgs := by
  constructor
  · rintro ⟨q, g, n, rfl⟩
    rfl
  · intro h
    refine ⟨t.queues, t.gaps, t.notices, ?_⟩
    obtain ⟨h1, h2, h3, h4, h5, h6, h7, h8, h9, h10, h11, h12, h13, h14, h15, h16, h17, h18, h19, h20, h21, h22, h23,
      h24, h25, h26, h27, h28⟩ := fields_of_sansMsgs h
    cases t
    cases u
    simp only at *
    subst h1 h2 h3 h4 h5 h6 h7 h8 h9 h10 h11 h12 h13 h14 h15 h16 h17 h18 h19 h20 h21 h22 h23 h24 h25 h26 h27 h28
    rfl

/-- States alike but for the queues and the gap flags: alike but for messages, with the same notice records. -/
theorem queuesAside_iff (t u : State) : QueuesAside t u ↔ t.sansMsgs = u.sansMsgs ∧ t.notices = u.notices := by
  constructor
  · rintro ⟨q, g, rfl⟩
    exact ⟨rfl, rfl⟩
  · rintro ⟨h, hn⟩
    obtain ⟨q, g, n, he⟩ := (messagesAside_iff t u).2 h
    refine ⟨q, g, ?_⟩
    rw [he] at hn ⊢
    simp only at hn
    rw [hn]

end Sys2Proof.Machine
end

