-- ==== Sys2Proof/Laws/CueFolds.lean ====
section
/-! SUPPORT. An event that changes several records one after the other, in list order, changes each of them as it
stands (R13: one record of a slot; R22, R25, R26, R31, R34). -/

namespace Sys2Proof.Machine

@[simp] theorem putCue_active (s : State) (r : ActiveCue) :
    (s.putCue r).active = s.active.map fun x => if x.slot = r.slot then r else x := by
  simp only [State.putCue, setActive_fields, beq_iff_eq]

@[simp] theorem changeCue_active (s : State) (r : ActiveCue) :
    (s.changeCue r).active = s.active.map fun x => if x.slot = r.slot then r else x := by
  simp only [State.changeCue, handOn_fields, putCue_active]

@[simp] theorem appendCue_active (s : State) (r : ActiveCue) : (s.appendCue r).active = s.active ++ [r] := by
  simp only [State.appendCue, State.joinList, noticeAbsent_fields, handOn_fields, setActive_fields]

/-- The record a list of changes gives a standing record: its own change, or none. -/
def changeOf (g : ActiveCue → ActiveCue) (l : List ActiveCue) (x : ActiveCue) : ActiveCue :=
  match l.find? fun r => r.slot = x.slot with
  | some r => g r
  | none => x

/-- Changes of records of different slots, one after the other, where each change depends only on its record. -/
theorem foldl_changeCue_active (s : State) (f : State → ActiveCue → ActiveCue) (g : ActiveCue → ActiveCue)
    (hf : ∀ t r, t.sansCues = s.sansCues → f t r = g r) (hg : ∀ r, (g r).slot = r.slot) :
    ∀ (l : List ActiveCue) (t : State), (l.map ActiveCue.slot).Nodup → t.sansCues = s.sansCues →
      (l.foldl (fun t r => t.changeCue (f t r)) t).active = t.active.map (changeOf g l)
  | [], t, _, _ => by
    show t.active = t.active.map id
    exact (List.map_id _).symm
  | r :: l, t, hn, ht => by
    rw [List.map_cons, List.nodup_cons] at hn
    rw [List.foldl_cons, foldl_changeCue_active s f g hf hg l _ hn.2 ((changeCue_sansCues _ _).trans ht),
      changeCue_active, hf t r ht, List.map_map]
    refine List.map_congr_left fun x _ => ?_
    simp only [Function.comp_apply, changeOf, hg, List.find?_cons]
    by_cases hx : x.slot = r.slot
    · have hnone : l.find? (fun y => decide (y.slot = r.slot)) = none := by
        rw [List.find?_eq_none]
        intro y hy he
        rw [decide_eq_true_eq] at he
        exact hn.1 (List.mem_map.2 ⟨y, hy, he⟩)
      simp only [hx, if_true, hg, hnone, decide_true]
    · have hx' : ¬r.slot = x.slot := fun hh => hx hh.symm
      simp only [hx, if_false, hx', decide_false]

/-- Changes of the records that pass a test: each such record is changed, every other stands as it stood. -/
theorem filter_changeCue_active (s : State) (P : ActiveCue → Bool) (f : State → ActiveCue → ActiveCue)
    (g : ActiveCue → ActiveCue) (hf : ∀ t r, t.sansCues = s.sansCues → f t r = g r) (hg : ∀ r, (g r).slot = r.slot)
    (hn : (s.active.map ActiveCue.slot).Nodup) :
    ((s.active.filter P).foldl (fun t r => t.changeCue (f t r)) s).active =
      s.active.map fun r => if P r then g r else r := by
  have hfl : ((s.active.filter P).map ActiveCue.slot).Nodup := hn.sublist (List.Sublist.map _ List.filter_sublist)
  rw [foldl_changeCue_active s f g hf hg _ s hfl rfl]
  refine List.map_congr_left fun x hx => ?_
  have huniq : ∀ y ∈ s.active, y.slot = x.slot → y = x := fun y hy he => List.inj_on_of_nodup_map hn hy hx he
  unfold changeOf
  cases hfind : (s.active.filter P).find? (fun r => decide (r.slot = x.slot)) with
  | none =>
    rw [List.find?_eq_none] at hfind
    have hP : ¬P x = true := fun hp => by
      have := hfind x (List.mem_filter.2 ⟨hx, hp⟩)
      simp at this
    simp only [if_neg hP]
  | some r =>
    have hr := List.mem_filter.1 (List.mem_of_find?_eq_some hfind)
    have he := huniq r hr.1 (by simpa using List.find?_some hfind)
    subst he
    simp only [if_pos hr.2]

/-- Such changes touch the list, the queues and the gap flags and nothing else. -/
theorem foldl_changeCue_notices (f : State → ActiveCue → ActiveCue) :
    ∀ (l : List ActiveCue) (t : State), (l.foldl (fun t r => t.changeCue (f t r)) t).notices = t.notices
  | [], _ => rfl
  | r :: l, t => by rw [List.foldl_cons, foldl_changeCue_notices f l, changeCue_notices]

theorem foldl_changeCue_sansCues (f : State → ActiveCue → ActiveCue) (l : List ActiveCue) (t : State) :
    (l.foldl (fun t r => t.changeCue (f t r)) t).sansCues = t.sansCues :=
  foldl_sansCues _ (fun t _ => changeCue_sansCues t _) l t

/-- Presence, the READY policy and the record of a slot do not depend on the list or on messages. -/
theorem present_congr {s t : State} (h : t.sansCues = s.sansCues) : t.present = s.present := by
  funext p
  obtain ⟨-, -, -, -, hp, -⟩ := fields_of_sansCues h
  simp only [State.present, hp]

theorem liveTables_congr {s t : State} (h : t.sansCues = s.sansCues) : t.liveTables = s.liveTables := by
  obtain ⟨-, -, -, -, -, -, -, -, ha, hb, hl, -⟩ := fields_of_sansCues h
  simp only [State.liveTables, hl]
  cases s.live <;> simp only [State.bank, ha, hb]

theorem policyMet_congr {s t : State} (h : t.sansCues = s.sansCues) (r : ActiveCue) : t.policyMet r = s.policyMet r := by
  simp only [State.policyMet, State.cue, State.presentSet, liveTables_congr h, present_congr h]

theorem testReady_congr {s t : State} (h : t.sansCues = s.sansCues) (r : ActiveCue) : t.testReady r = s.testReady r := by
  simp only [State.testReady, policyMet_congr h]

@[simp] theorem testReady_slot (s : State) (r : ActiveCue) : (s.testReady r).slot = r.slot := by
  unfold State.testReady
  split <;> rfl

/-- States alike but for messages and the list, with the same list, are alike but for messages. -/
theorem sansMsgs_of_sansCues {a b : State} (h : a.sansCues = b.sansCues) (hl : a.active = b.active) :
    a.sansMsgs = b.sansMsgs := by
  have key : ∀ s : State, s.sansMsgs = { s.sansCues with active := s.active } := fun _ => rfl
  rw [key a, key b, h, hl]

end Sys2Proof.Machine
end

