-- ==== Sys2Proof/Laws/Sets.lean ====
section
/-! SUPPORT. Membership in the sets of ports. -/

namespace Sys2Proof

@[simp] theorem PortSet.mem_none (q : Port) : PortSet.none.mem q = false := by simp [PortSet.none, PortSet.mem]

@[simp] theorem PortSet.mem_single (p q : Port) : (PortSet.single p).mem q = decide (p = q) := by
  have h : (decide (q.val = p.val)) = decide (p = q) := by
    rw [decide_eq_decide, Fin.ext_iff, eq_comm]
  simpa [PortSet.single, PortSet.mem] using h

@[simp] theorem PortSet.mem_union (x y : PortSet) (q : Port) : (x.union y).mem q = (x.mem q || y.mem q) := by
  simp [PortSet.union, PortSet.mem]

@[simp] theorem PortSet.mem_inter (x y : PortSet) (q : Port) : (x.inter y).mem q = (x.mem q && y.mem q) := by
  simp [PortSet.inter, PortSet.mem]

@[simp] theorem PortSet.mem_diff (x y : PortSet) (q : Port) : (x.diff y).mem q = (x.mem q && !y.mem q) := by
  simp [PortSet.diff, PortSet.mem]

@[simp] theorem PortSet.mem_insert (x : PortSet) (p q : Port) : (x.insert p).mem q = (x.mem q || decide (p = q)) := by
  rw [PortSet.insert, PortSet.mem_union, PortSet.mem_single]

@[simp] theorem PortSet.mem_erase (x : PortSet) (p q : Port) : (x.erase p).mem q = (x.mem q && !decide (p = q)) := by
  rw [PortSet.erase, PortSet.mem_diff, PortSet.mem_single]

/-- A set is empty when it has no member. -/
theorem PortSet.isEmpty_iff (x : PortSet) : x.isEmpty = true ↔ ∀ q : Port, x.mem q = false := by
  simp only [PortSet.isEmpty, PortSet.mem, beq_iff_eq]
  constructor
  · intro h q
    simp [h]
  · intro h
    apply BitVec.eq_of_getLsbD_eq
    intro i hi
    simpa using h ⟨i, hi⟩

/-- The set of the ports that pass a test has them as its members. -/
@[simp] theorem PortSet.mem_ofTest (f : Port → Bool) (q : Port) : (PortSet.ofTest f).mem q = f q := by
  have h : ∀ (l : List Port) (x : PortSet),
      (l.foldl (fun x p => if f p then x.insert p else x) x).mem q = (x.mem q || (decide (q ∈ l) && f q)) := by
    intro l
    induction l with
    | nil => simp
    | cons a l ih =>
      intro x
      rw [List.foldl_cons, ih]
      by_cases ha : a = q
      · subst ha
        cases hf : f a <;> simp
      · have hq : ¬q = a := fun hh => ha hh.symm
        cases hf : f a <;> simp [ha, hq]
  rw [PortSet.ofTest, h]
  simp [allPorts]

end Sys2Proof
end

