-- ==== Sys2Proof/Laws/Falls.lean ====
section
/-! SUPPORT. What stands after a port has fallen to DOWN or DISABLED (R154, R158, R163, R167). -/

namespace Sys2Proof.Machine

/-- A port that is not present receives nothing when a record is tested (R190), and no gap flag changes. -/
theorem testNotice_absent (s : State) (k : NoticeKind) (p : Port) (h : s.present p = false) :
    (s.testNotice k).queues[p] = s.queues[p] ∧ (s.testNotice k).gaps = s.gaps := by
  unfold State.testNotice
  split
  · rename_i hd
    simp only [setNotice_fields, setQueue_fields, get_put]
    have : p ≠ (s.laneOf k).dest := by
      rintro rfl; simp [State.deliverable, h] at hd
    rw [if_neg this]; exact ⟨rfl, trivial⟩
  · exact ⟨rfl, rfl⟩

/-- Presence is read from the port records alone. -/
theorem present_of_ports {s t : State} (h : t.ports = s.ports) (p) : t.present p = s.present p :=
    by simp only [State.present, h]

/-- A port that is not present receives nothing when records are tested. -/
theorem testNotices_absent (s : State) (f : Lane → NoticeKind → Bool) (p : Port) (h : s.present p = false) :
    (s.testNotices f).queues[p] = s.queues[p] ∧ (s.testNotices f).gaps = s.gaps := by
  have key : ∀ (l : List (Lane × NoticeKind)) (t : State), t.present p = false →
      (l.foldl (fun t x => if s.noticeControl.kinds[x.2].lane = x.1 ∧ f x.1 x.2 = true then t.testNotice x.2 else t)
        t).queues[p] = t.queues[p]
      ∧ (l.foldl (fun t x => if s.noticeControl.kinds[x.2].lane = x.1 ∧ f x.1 x.2 = true then t.testNotice x.2 else t)
        t).gaps = t.gaps := by
    intro l
    induction l with
    | nil => exact fun _ _ => ⟨rfl, rfl⟩
    | cons x l ih =>
      intro t ht
      rw [List.foldl_cons]
      split
      · have h1 := ih (t.testNotice x.2) (by rw [present_of_ports (s := t) (by simp), ht])
        have h2 := testNotice_absent t x.2 p ht
        exact ⟨h1.1.trans h2.1, h1.2.trans h2.2⟩
      · exact ih t ht
  exact key _ s h

/-- A port that is not present receives no notice. -/
theorem raise_absent (s : State) (d) (p : Port) (h : s.present p = false) : (s.raise d).queues[p] = s.queues[p]
    ∧ (s.raise d).gaps = s.gaps := by
  have ho := testNotices_absent s (fun l _ => s.noticeControl.lanes[l].dest == (s.laneOf d.kind).dest) p h
  have ht := testNotice_absent ((s.offer (s.laneOf d.kind).dest).record d) d.kind p
    (by rw [present_of_ports (s := s) (by simp [State.record]), h])
  exact ⟨ht.1.trans ho.1, ht.2.trans ho.2⟩

/-- A desk status copy for one port leaves every other port. -/
theorem deskCopy_other (s : State) (b) (p q : Port) (h : p ≠ q) : (s.deskCopy b p).queues[q] = s.queues[q]
    ∧ (s.deskCopy b p).gaps[q] = s.gaps[q] := by
  have : ¬ q = p := fun hh => h hh.symm
  unfold State.deskCopy
  split
  · simp only [setGap_fields, setQueue_fields, get_put, if_neg this]; exact ⟨trivial, trivial⟩
  · split <;> simp only [setGap_fields, setQueue_fields, get_put, if_neg this] <;> exact ⟨trivial, trivial⟩

/-- A port that is not present receives no desk status (R73). -/
theorem deskStatus_absent (s : State) (b) (p : Port) (h : s.present p = false) :
    (s.deskStatus b).queues[p] = s.queues[p] ∧ (s.deskStatus b).gaps[p] = s.gaps[p] := by
  unfold State.deskStatus
  have key : ∀ (l : List Port) (t : State), p ∉ l → (l.foldl (fun t p => t.deskCopy b p) t).queues[p] = t.queues[p]
      ∧ (l.foldl (fun t p => t.deskCopy b p) t).gaps[p] = t.gaps[p] := by
    intro l
    induction l with
    | nil => exact fun _ _ => ⟨rfl, rfl⟩
    | cons x l ih =>
      intro t ht
      simp only [List.mem_cons, not_or] at ht
      rw [List.foldl_cons, (ih _ ht.2).1, (ih _ ht.2).2]
      exact deskCopy_other t b x p (fun hh => ht.1 hh.symm)
  apply key
  simp [State.isDesk, h]

/-- A port that is not present receives nothing when another leaves presence. -/
theorem portLost_absent (s : State) (p n : Port) (h : s.present p = false) : (s.portLost n).queues[p] = s.queues[p]
    ∧ (s.portLost n).gaps[p] = s.gaps[p] := by
  unfold State.portLost
  have key : ∀ (l : List ActiveCue) (t : State), t.present p = false →
      (l.foldl (fun t r => t.changeCue (t.lostCue r n)) t).queues[p] = t.queues[p]
      ∧ (l.foldl (fun t r => t.changeCue (t.lostCue r n)) t).gaps[p] = t.gaps[p] := by
    intro l
    induction l with
    | nil => exact fun _ _ => ⟨rfl, rfl⟩
    | cons x l ih =>
      intro t ht
      have h2 : (t.changeCue (t.lostCue x n)).present p = false := by
        rw [present_of_ports (s := t) (by simp only [changeCue_fields])]; exact ht
      rw [List.foldl_cons, (ih _ h2).1, (ih _ h2).2]
      exact deskStatus_absent (t.putCue (t.lostCue x n)) _ p ht
  exact key _ s h

/-- A port that is not present receives no LANE_LOST. -/
theorem lanesLost_absent (s : State) (p n : Port) (h : s.present p = false) :
    (s.lanesLost n).queues[p] = s.queues[p] ∧ (s.lanesLost n).gaps = s.gaps := by
  unfold State.lanesLost
  have key : ∀ (l : List Lane) (t : State), t.present p = false →
      (l.foldl (fun t l => t.raise (.laneLost l n)) t).queues[p] = t.queues[p]
      ∧ (l.foldl (fun t l => t.raise (.laneLost l n)) t).gaps = t.gaps := by
    intro l
    induction l with
    | nil => exact fun _ _ => ⟨rfl, rfl⟩
    | cons x l ih =>
      intro t ht
      have h2 : (t.raise (.laneLost x n)).present p = false := by
        rw [present_of_ports (s := t) (by simp only [raise_fields])]; exact ht
      rw [List.foldl_cons, (ih _ h2).1, (ih _ h2).2]
      exact raise_absent t _ p ht
  exact key _ s h

/-- R126: the lists that stand where the heads have been granted. -/
theorem grantHeads_talk (s : State) (c x : Chan) :
    (s.grantHeads c true).talk[x] =
      if x = c then
        { s.talk[c].granted s.channels[c].maxTalkers with
          idle :=
            if s.channels[c].maxTalkers - s.talk[c].talkers.length = 0 ∨ s.talk[c].waiters = [] then s.talk[c].idle
            else if s.channels[c].idleRelease = 0 then none
            else some (s.clock + 8000 * s.channels[c].idleRelease) }
      else s.talk[x] := by
  have hb : (true && decide (0 < s.talk[c].room s.channels[c].maxTalkers) && !s.talk[c].waiters.isEmpty) =
      !decide (s.channels[c].maxTalkers - s.talk[c].talkers.length = 0 ∨ s.talk[c].waiters = []) := by
    unfold ChannelTalk.room
    generalize s.channels[c].maxTalkers - s.talk[c].talkers.length = room
    cases s.talk[c].waiters <;> cases room <;> simp
  unfold State.grantHeads
  rw [hb]
  by_cases h : s.channels[c].maxTalkers - s.talk[c].talkers.length = 0 ∨ s.talk[c].waiters = []
  · rw [if_pos h, decide_eq_true h, if_neg (by simp)]
    simp only [setTalk_fields, get_put]
    split <;> rfl
  · simp only [h, if_false, decide_false, Bool.not_false, if_true, State.reloadIdle, setTalk_fields, get_put]
    split <;> simp [seconds]

/-- R118, R126, R133: the removal of a port from a channel frees its places, and leaves every other channel. -/
theorem removeTalk_talk (s : State) (c x : Chan) (p : Port) :
    (s.removeTalk c p).talk[x] = if x = c then s.talkFreed c p else s.talk[x] := by
  have hf : (fun e : TalkEntry => e.port != p) = fun e => decide (e.port ≠ p) := by
    funext e; by_cases h : e.port = p <;> simp [h]
  unfold State.removeTalk
  by_cases h : ∃ e ∈ s.talk[c].talkers, e.port = p
  · have hb : (s.talk[c].talkers.any fun e => e.port == p) = true := by simpa using h
    rw [hb, if_pos rfl, grantHeads_talk]
    by_cases hx : x = c
    · subst hx
      simp only [if_true, setTalk_fields, get_put, State.talkFreed, h, ChannelTalk.granted, ChannelTalk.room,
        ChannelTalk.without, hf]
    · simp only [hx, if_false, setTalk_fields, get_put]
  · have hb : (s.talk[c].talkers.any fun e => e.port == p) = false := by
      by_contra hh; simp at hh; exact h hh
    rw [hb, if_neg (by simp)]
    by_cases hx : x = c
    · subst hx
      simp only [if_true, setTalk_fields, get_put, State.talkFreed, h, if_false, ChannelTalk.without, hf, List.take_zero,
        List.drop_zero, List.append_nil, true_or]
    · simp only [hx, if_false, setTalk_fields, get_put]

/-- The lists of a freed channel read nothing but that channel. -/
theorem talkFreed_congr {s t : State} {c : Chan} (p : Port) (h : t.talk[c] = s.talk[c]) (hc : t.channels = s.channels)
    (hk : t.clock = s.clock) : t.talkFreed c p = s.talkFreed c p := by
  simp only [State.talkFreed, h, hc, hk]

/-- No entry of the port stands in the lists freed of it. -/
theorem talkFreed_entries (s : State) (c : Chan) (p : Port) :
    ∀ e ∈ (s.talkFreed c p).talkers ++ (s.talkFreed c p).waiters, e.port ≠ p := by
  intro e he
  simp only [State.talkFreed, List.append_assoc, List.take_append_drop, ← List.filter_append] at he
  simpa using (List.mem_filter.1 he).2

/-- R133: a port that leaves UP frees its places on every channel. -/
theorem leaveUp_talk (s : State) (p : Port) (x : Chan) : (s.leaveUp p).talk[x] = s.talkFreed x p := by
  have key : ∀ (l : List Chan) (t : State), l.Nodup →
      (l.foldl (fun t c => t.removeTalk c p) t).talk[x] = if x ∈ l then t.talkFreed x p else t.talk[x] := by
    intro l
    induction l with
    | nil => intro t _; simp
    | cons c l ih =>
      intro t hn
      have hc := (List.nodup_cons.1 hn).1
      rw [List.foldl_cons, ih _ (List.nodup_cons.1 hn).2, removeTalk_talk]
      by_cases hx : x = c
      · subst hx; simp [hc]
      · have := talkFreed_congr (s := t) (t := t.removeTalk c p) (c := x) p (by rw [removeTalk_talk, if_neg hx])
          (by simp) (by simp)
        simp [hx, this]
  simp only [State.leaveUp, clearDenied_fields]
  rw [key allChannels s (List.nodup_finRange 16), if_pos (show x ∈ allChannels from List.mem_finRange x)]

/-- Leaving UP sends nothing. -/
theorem leaveUp_messages (s : State) (p : Port) : (s.leaveUp p).queues = s.queues ∧ (s.leaveUp p).gaps = s.gaps
    ∧ (s.leaveUp p).notices = s.notices := by
  have key : ∀ (l : List Chan) (t : State), (l.foldl (fun t c => t.removeTalk c p) t).queues = t.queues
      ∧ (l.foldl (fun t c => t.removeTalk c p) t).gaps = t.gaps
      ∧ (l.foldl (fun t c => t.removeTalk c p) t).notices = t.notices := by
    intro l
    induction l with
    | nil => exact fun _ => ⟨rfl, rfl, rfl⟩
    | cons c l ih =>
      intro t
      have := ih (t.removeTalk c p)
      have h2 := removeTalk_queues t c p
      rw [h2.1, h2.2.1, h2.2.2] at this
      exact this
  simp only [State.leaveUp, clearDenied_fields]
  exact key allChannels s

/-- R25: no record awaits a port that has left presence or holds it acknowledged. -/
theorem portLost_sets (s : State) (p : Port) : ∀ r ∈ (s.portLost p).active, r.awaited.mem p = false
    ∧ r.acked.mem p = false := by
  unfold State.portLost
  have lc (t : State) (x : ActiveCue) : (t.lostCue x p).awaited.mem p = false ∧ (t.lostCue x p).acked.mem p = false
      ∧ (t.lostCue x p).slot = x.slot := by
    refine ⟨?_, ?_, testReady_slot _ _⟩ <;> · unfold State.lostCue State.testReady; split <;> simp
  have key : ∀ (l : List ActiveCue) (t : State), ∀ r ∈ (l.foldl (fun t r => t.changeCue (t.lostCue r p)) t).active,
      (r.awaited.mem p = false ∧ r.acked.mem p = false) ∨ (r ∈ t.active ∧ ∀ x ∈ l, x.slot ≠ r.slot) := by
    intro l
    induction l with
    | nil => intro t r hr; exact Or.inr ⟨hr, by simp⟩
    | cons x l ih =>
      intro t r hr
      rcases ih _ r hr with h | ⟨h1, h2⟩
      · exact Or.inl h
      · rw [changeCue_active] at h1
        obtain ⟨y, hy, hyr⟩ := List.mem_map.1 h1
        split at hyr
        · subst hyr; exact Or.inl ⟨(lc t x).1, (lc t x).2.1⟩
        · rename_i hne
          subst hyr
          refine Or.inr ⟨hy, ?_⟩
          intro z hz
          rcases List.mem_cons.1 hz with rfl | hz
          · rw [(lc t z).2.2] at hne; exact fun hh => hne hh.symm
          · exact h2 z hz
  intro r hr
  rcases key _ s r hr with h | ⟨h1, h2⟩
  · exact h
  · by_cases hl : r.losesPort p = true
    · exact absurd rfl (h2 r (List.mem_filter.2 ⟨h1, hl⟩))
    · simpa [ActiveCue.losesPort] using hl

/-- R154, R158, R163, R167: everything that stands after a present port has fallen, when no RESTART waits for it. -/
theorem fall_leaves (s : State) (p : Port) (target : PortState) (cause) (ht : target.present = false)
    (hp : s.present p = true) (hr : s.restartBy ≠ some p) (hd : s.fallTarget p target = target) :
   HasLeft s (s.fall p target cause) p target ∧ TablesKept s (s.fall p target cause)
       ∧ (s.fall p target cause).profiles = s.profiles ∧ (∀ q : Port, q ≠ p →
       (s.fall p target cause).ports[q] = s.ports[q] ∧ (s.fall p target cause).samples[q] = s.samples[q]
       ∧ (s.fall p target cause).calls[q] = s.calls[q]) ∧ (∀ c, cause = some c →
       (s.fall p target cause).notices[(1 : NoticeKind)].detail = some (.portDown p c)) := by
  have e : s.fall p target cause = ((s.clearPort p target).leavePresence p).portDown p cause := by
    unfold State.fall
    rw [if_pos hp, hd, State.orphanRestart, if_neg]
    simp only [portDown_fields, State.leavePresence, State.clearPort, lanesLost_fields, setShown_fields,
        setSample_fields, clearCalls_fields, leaveUp_fields, portLost_fields, setGap_fields, setQueue_fields,
        setAssembly_fields, setPort_fields]
    exact hr
  have np : (s.clearPort p target).present p = false := by simp [State.clearPort, State.present, ht]
  generalize hu : s.clearPort p target = u at *
  have hcp : u.queues[p] = [] ∧ u.gaps[p] = false := by subst hu; simp [State.clearPort]
  have npd : ∀ t : State, t.ports = u.ports → t.present p = false := fun t h => by rw [present_of_ports h]; exact np
  have hq : ((u.leavePresence p).portDown p cause).queues[p] = []
      ∧ ((u.leavePresence p).portDown p cause).gaps[p] = false := by
    have h1 : (u.leavePresence p).queues[p] = [] ∧ (u.leavePresence p).gaps[p] = false := by
      unfold State.leavePresence
      rw [(lanesLost_absent _ p p (npd _ (by simp))).1, (lanesLost_absent _ p p (npd _ (by simp))).2]
      simp only [setShown_fields, setSample_fields, clearCalls_fields, (leaveUp_messages _ p).1,
          (leaveUp_messages _ p).2.1, (portLost_absent u p p np).1, (portLost_absent u p p np).2]
      exact hcp
    cases cause with
    | none => exact h1
    | some c =>
      have h2 := raise_absent (u.leavePresence p) (.portDown p c) p (npd _ (by simp [State.leavePresence]))
      exact ⟨h2.1.trans h1.1, by show ((u.leavePresence p).raise _).gaps[p] = _; rw [h2.2]; exact h1.2⟩
  rw [e]
  refine ⟨⟨?_, ?_, hq.1, hq.2, ?_, ?_, ?_, ?_, ?_, ?_⟩, ?_, ?_, ?_, ?_⟩
  · simp only [portDown_fields, State.leavePresence, lanesLost_fields, setShown_fields, setSample_fields,
      clearCalls_fields, leaveUp_fields, portLost_fields]
    subst hu; simp [State.clearPort]
  · simp only [portDown_fields, State.leavePresence, lanesLost_fields, setShown_fields, setSample_fields,
      clearCalls_fields, leaveUp_fields, portLost_fields]
    subst hu; simp [State.clearPort]
  · simp [State.leavePresence]
  · simp [State.leavePresence]
  · simp [State.leavePresence, State.leaveUp]
  · simp [State.leavePresence]
  · intro c; simp only [portDown_fields, State.leavePresence, lanesLost_fields, setShown_fields, setSample_fields,
      clearCalls_fields]
    have hk : (u.portLost p).talkFreed c p = s.talkFreed c p :=
      talkFreed_congr p (by subst hu; simp [State.clearPort]) (by subst hu; simp [State.clearPort])
        (by subst hu; simp [State.clearPort])
    rw [leaveUp_talk, hk]
    exact ⟨rfl, talkFreed_entries s c p⟩
  · simp only [portDown_fields, State.leavePresence, lanesLost_fields, setShown_fields, setSample_fields,
      clearCalls_fields, leaveUp_fields]
    exact portLost_sets u p
  · unfold TablesKept
    simp only [portDown_fields, State.leavePresence, lanesLost_fields, setShown_fields, setSample_fields,
        clearCalls_fields, leaveUp_fields, portLost_fields]
    subst hu; simp [State.clearPort]
  · simp only [portDown_fields, State.leavePresence, lanesLost_fields, setShown_fields, setSample_fields,
      clearCalls_fields, leaveUp_fields, portLost_fields]
    subst hu; simp [State.clearPort]
  · intro q hqp
    simp only [portDown_fields, State.leavePresence, lanesLost_fields, setShown_fields, setSample_fields,
        clearCalls_fields, leaveUp_fields, portLost_fields, get_put, if_neg hqp]
    subst hu; simp only [State.clearPort, setGap_fields, setQueue_fields, setAssembly_fields, setPort_fields, get_put,
        if_neg hqp, true_and]
  · rintro c rfl
    show ((u.leavePresence p).raise _).notices[(1 : NoticeKind)].detail = _
    rw [raise_detail]; rfl

end Sys2Proof.Machine
end

