-- ==== Sys2Proof/Laws/Loader.lean ====
section
/-! SUPPORT. What the beginning, the failure and the abandonment of a save leave (R197, R198). -/

namespace Sys2Proof.Machine

/-- R197: the memory has answered the first write: the image is invalid and the save runs. -/
theorem beginSave_answered (s : State) (h : Config.memoryAnswers s.fresh = true) :
    s.beginSave =
      { s with
        loader := .saving, fresh := s.fresh + 1, store := none
        save := some { snapshot := s.snapshot, stage := nextTable 0 } } := by
  rw [State.beginSave, if_pos h]

/-- R197, R198: the memory has not answered the first write: the save has failed and the image stays. -/
theorem beginSave_unanswered (s : State) (h : Config.memoryAnswers s.fresh = false) :
    s.beginSave = State.raise { s with fresh := s.fresh + 1, loader := .idle, save := none } (.saveDone false) := by
  rw [State.beginSave, if_neg (by simp [h])]; rfl

/-- R198: the first write of the tables or, with no table write, of the image check follows the marker. -/
theorem nextTable_zero : nextTable 0 = .tables 0 ∨ nextTable 0 = .imageCheck := by
  unfold nextTable; split <;> simp

/-- R198, R199: what the abandonment of a save leaves. -/
theorem abandonSave_eq (s : State) :
    s.abandonSave =
      { s with
        loader := .idle, save := none, store := s.storeLeft
        fresh := if s.save = none then s.fresh else s.fresh + 1 } := by
  unfold State.abandonSave State.storeLeft
  cases h : s.save with
  | none => simp [← h]
  | some x =>
    simp only [reduceCtorEq, if_false]
    cases hs : x.stage <;> cases ha : Config.memoryAnswers s.fresh <;> simp [storeAfterAbandon]

end Sys2Proof.Machine
end

