-- ==== Sys2Proof/Laws/Replies.lean ====
section
/-! SUPPORT. Messages as they stand to the rest of the state: raising notices and handing on desk status read the ports,
the profiles, Notice Control and the messages, and change the messages alone; and the filling of a reply does not meet
them, so a reply may be read as built before what its request raises (R179). -/

namespace Sys2Proof.Machine

/-- States alike but for messages and alike in them are equal. -/
theorem state_ext {a b : State} (h : a.sansMsgs = b.sansMsgs) (hq : a.queues = b.queues) (hg : a.gaps = b.gaps)
    (hn : a.notices = b.notices) : a = b := by
  have key : ∀ s : State, s = { s.sansMsgs with queues := s.queues, gaps := s.gaps, notices := s.notices } := fun _ => rfl
  rw [key a, key b, h, hq, hg, hn]

/-- The state x with the messages of m. -/
def State.mailed (x m : State) : State := { x with queues := m.queues, gaps := m.gaps, notices := m.notices }

/-- What messages are gated by: the ports, the profiles and Notice Control. -/
def SameGates (x m : State) : Prop := x.ports = m.ports ∧ x.profiles = m.profiles ∧ x.noticeControl = m.noticeControl

theorem SameGates.trans_sansMsgs {x m n : State} (h : SameGates x m) (e : n.sansMsgs = m.sansMsgs) : SameGates x n :=
  ⟨h.1.trans (congrArg State.ports e).symm, h.2.1.trans (congrArg State.profiles e).symm,
    h.2.2.trans (congrArg State.noticeControl e).symm⟩

theorem mailed_self (s : State) : s.mailed s = s := rfl

theorem testNotice_mailed {x m : State} (h : SameGates x m) (k : NoticeKind) :
    (x.mailed m).testNotice k = x.mailed (m.testNotice k) := by
  obtain ⟨hp, -, hc⟩ := h
  have hd : (x.mailed m).deliverable k = m.deliverable k := by
    simp only [State.deliverable, State.laneOf, State.present, State.hasRoom, State.mailed, hp, hc]
    rfl
  unfold State.testNotice
  rw [hd]
  split
  · simp only [State.setQueue, State.setNotice, State.laneOf, State.noticeBody, State.mailed, hc]
  · rfl

theorem testNotices_mailed {x m : State} (h : SameGates x m) (f : Lane → NoticeKind → Bool) :
    (x.mailed m).testNotices f = x.mailed (m.testNotices f) := by
  have hc : (x.mailed m).noticeControl = m.noticeControl := h.2.2
  have key : ∀ (l : List (Lane × NoticeKind)) (n : State), SameGates x n → (l.foldl (fun t x =>
      if m.noticeControl.kinds[x.2].lane = x.1 ∧ f x.1 x.2 = true then t.testNotice x.2 else t) (x.mailed n)) =
      x.mailed (l.foldl (fun t x =>
        if m.noticeControl.kinds[x.2].lane = x.1 ∧ f x.1 x.2 = true then t.testNotice x.2 else t) n) := by
    intro l
    induction l with
    | nil => exact fun _ _ => rfl
    | cons y l ih =>
      intro n hn
      rw [List.foldl_cons, List.foldl_cons]
      split
      · rw [testNotice_mailed hn]
        exact ih _ (hn.trans_sansMsgs (testNotice_sansMsgs n y.2))
      · exact ih n hn
  unfold State.testNotices
  rw [hc]
  exact key _ m h

theorem raise_mailed {x m : State} (h : SameGates x m) (d : NoticeDetail) :
    (x.mailed m).raise d = x.mailed (m.raise d) := by
  have hl : (x.mailed m).laneOf d.kind = m.laneOf d.kind := by
    simp only [State.laneOf, State.mailed, h.2.2]
  have ho : (x.mailed m).offer (m.laneOf d.kind).dest = x.mailed (m.offer (m.laneOf d.kind).dest) := by
    have hc : (x.mailed m).noticeControl = m.noticeControl := h.2.2
    unfold State.offer
    rw [testNotices_mailed h, hc]
  unfold State.raise
  rw [hl, ho]
  exact testNotice_mailed (m := (m.offer (m.laneOf d.kind).dest).record d)
    (h.trans_sansMsgs ((record_sansMsgs _ d).trans (offer_sansMsgs m _))) d.kind

theorem raises_mailed {x : State} : ∀ (l : List NoticeDetail) {m : State}, SameGates x m →
    l.foldl State.raise (x.mailed m) = x.mailed (l.foldl State.raise m)
  | [], _, _ => rfl
  | d :: l, m, h => by
    rw [List.foldl_cons, raise_mailed h, List.foldl_cons]
    exact raises_mailed l (h.trans_sansMsgs (raise_sansMsgs m d))

theorem deskCopy_mailed (x m : State) (b : DeskBody) (p : Port) : (x.mailed m).deskCopy b p = x.mailed (m.deskCopy b p) := by
  have hq : (x.mailed m).queues = m.queues := rfl
  unfold State.deskCopy
  rw [hq]
  by_cases h : m.queues[p].length < 8
  · rw [if_pos h, if_pos h]
    rfl
  · rw [if_neg h, if_neg h]
    cases dropOldestDesk m.queues[p] <;> rfl

theorem deskStatus_mailed {x m : State} (h : SameGates x m) (b : DeskBody) :
    (x.mailed m).deskStatus b = x.mailed (m.deskStatus b) := by
  obtain ⟨hp, hf, -⟩ := h
  have hd : (x.mailed m).isDesk = m.isDesk := by
    funext p
    simp only [State.isDesk, State.present, State.mailed, hp, hf]
  have key : ∀ (l : List Port) (m : State),
      l.foldl (fun t p => t.deskCopy b p) (x.mailed m) = x.mailed (l.foldl (fun t p => t.deskCopy b p) m) := by
    intro l
    induction l with
    | nil => exact fun _ => rfl
    | cons p l ih => exact fun m => by rw [List.foldl_cons, deskCopy_mailed, ih, List.foldl_cons]
  unfold State.deskStatus
  rw [hd, key]

/-! ## Replies -/

theorem fillFirst_append (e : TxEntry) : ∀ (q r : List TxEntry), (∀ x ∈ q, x.content ≠ .reserved) →
    fillFirst e (q ++ r) = q ++ fillFirst e r
  | [], _, _ => rfl
  | x :: q, r, h => by
    have hx : ¬x.content = .reserved := h x List.mem_cons_self
    simp only [List.cons_append, fillFirst, if_neg hx]
    rw [fillFirst_append e q r fun y hy => h y (List.mem_cons_of_mem x hy)]

/-- An entry that joins behind is no reservation, so the reply goes where it would have gone. -/
theorem fillReserved_append (e : TxEntry) (q : List TxEntry) (x : TxEntry) (hx : x.content ≠ .reserved) :
    fillReserved e (q ++ [x]) = fillReserved e q ++ [x] := by
  simp only [fillReserved, List.reverse_append, List.reverse_cons, List.reverse_nil, List.nil_append]
  rw [fillFirst_append e [x] q.reverse (by simpa using hx)]
  simp

/-- Filling as it meets the head of a queue: behind a later reservation the head stands, and a reservation that is the
last is the one filled. -/
theorem fillReserved_cons (e x : TxEntry) (q : List TxEntry) :
    fillReserved e (x :: q) = if x.content = .reserved ∧ ∀ y ∈ q, y.content ≠ .reserved then e :: q
      else x :: fillReserved e q := by
  have hsome : ∀ (l r : List TxEntry), (∃ y ∈ l, y.content = .reserved) → fillFirst e (l ++ r) = fillFirst e l ++ r := by
    intro l
    induction l with
    | nil => rintro r ⟨y, hy, -⟩; cases hy
    | cons z l ih =>
      rintro r ⟨y, hy, he⟩
      simp only [List.cons_append, fillFirst]
      split
      · rfl
      · rename_i hz
        rw [ih r ⟨y, (List.mem_cons.1 hy).resolve_left (fun h => hz (h ▸ he)), he⟩, List.cons_append]
  have hnone : ∀ l : List TxEntry, (∀ y ∈ l, y.content ≠ .reserved) → fillFirst e l = l := by
    intro l h
    have := fillFirst_append e l [] h
    simpa [fillFirst] using this
  simp only [fillReserved, List.reverse_cons]
  by_cases hq : ∀ y ∈ q, y.content ≠ .reserved
  · have hq' : ∀ y ∈ q.reverse, y.content ≠ .reserved := fun y hy => hq y (List.mem_reverse.1 hy)
    rw [fillFirst_append e _ _ hq', hnone _ hq']
    by_cases hx : x.content = .reserved
    · rw [if_pos ⟨hx, hq⟩]
      simp [fillFirst, hx]
    · simp [fillFirst, hx]
  · have hq' : ∃ y ∈ q.reverse, y.content = .reserved := by
      have ⟨y, hy⟩ := Classical.not_forall.1 hq
      have ⟨hm, hc⟩ := Classical.not_imp.1 hy
      exact ⟨y, List.mem_reverse.2 hm, not_not.1 hc⟩
    rw [hsome _ _ hq', if_neg fun h => hq h.2, List.reverse_append]
    rfl

/-- The oldest desk status not yet begun is no reservation and no reply, so the filling of a reply does not move it. -/
theorem dropOldestDesk_fillReserved (e : TxEntry) (he : e.isWaitingDesk = false) :
    ∀ q : List TxEntry, dropOldestDesk (fillReserved e q) = (dropOldestDesk q).map (fillReserved e)
  | [] => rfl
  | x :: q => by
    have hw : x.content = .reserved → x.isWaitingDesk = false := fun h => by simp only [TxEntry.isWaitingDesk, h]
    have ih := dropOldestDesk_fillReserved e he q
    have hn : (∀ y ∈ q, y.content ≠ .reserved) → fillReserved e q = q := by
      intro h
      have := fillFirst_append e q.reverse [] fun y hy => h y (List.mem_reverse.1 hy)
      simp only [List.append_nil, fillFirst] at this
      simp only [fillReserved, this, List.reverse_reverse]
    have hsub : ∀ l r : List TxEntry, dropOldestDesk l = some r → ∀ y ∈ r, y ∈ l := by
      intro l
      induction l with
      | nil => intro r h; cases h
      | cons z l ihl =>
        intro r h y hy
        unfold dropOldestDesk at h
        split at h
        · cases h
          exact List.mem_cons_of_mem _ hy
        · cases hd : dropOldestDesk l with
          | none => rw [hd] at h; cases h
          | some w =>
            rw [hd] at h
            cases h
            rcases List.mem_cons.1 hy with rfl | hy
            · exact List.mem_cons_self
            · exact List.mem_cons_of_mem _ (ihl w hd y hy)
    have hback : ∀ l r : List TxEntry, dropOldestDesk l = some r → ∀ y ∈ l, y.content = .reserved → y ∈ r := by
      intro l
      induction l with
      | nil => intro r h; cases h
      | cons z l ihl =>
        intro r h y hy hc
        unfold dropOldestDesk at h
        split at h
        · rename_i hz
          cases h
          rcases List.mem_cons.1 hy with rfl | hy
          · simp only [TxEntry.isWaitingDesk, hc] at hz
            cases hz
          · exact hy
        · cases hd : dropOldestDesk l with
          | none => rw [hd] at h; cases h
          | some w =>
            rw [hd] at h
            cases h
            rcases List.mem_cons.1 hy with rfl | hy
            · exact List.mem_cons_self
            · exact List.mem_cons_of_mem _ (ihl w hd y hy hc)
    rw [fillReserved_cons]
    by_cases hc : x.content = .reserved ∧ ∀ y ∈ q, y.content ≠ .reserved
    · rw [if_pos hc]
      simp only [dropOldestDesk, he, hw hc.1, Bool.false_eq_true, if_false]
      cases hd : dropOldestDesk q with
      | none => rfl
      | some r =>
        simp only [Option.map_some]
        rw [fillReserved_cons, if_pos ⟨hc.1, fun y hy => hc.2 y (hsub q r hd y hy)⟩]
    · rw [if_neg hc]
      by_cases hx : x.isWaitingDesk = true
      · simp only [dropOldestDesk, hx, if_true, Option.map_some]
      · simp only [dropOldestDesk, hx, if_false, Bool.false_eq_true, ih]
        cases hd : dropOldestDesk q with
        | none => rfl
        | some r =>
          simp only [Option.map_some]
          rw [fillReserved_cons, if_neg]
          rintro ⟨h1, h2⟩
          exact hc ⟨h1, fun y hy hcy => h2 y (hback q r hd y hy hcy) hcy⟩

theorem answer_queues {s : State} {p : Port} {kind tag : Octet} {a : Answer} (ha : a.waits ≠ .deferred) :
    s.answer p kind tag a =
      s.setQueue p (fillReserved { content := .reply kind tag a.status a.data, sent := 0, waits := a.waits } s.queues[p]) := by
  simp only [State.answer, if_neg ha]

/-- A desk status copy and the filling of a reply do not meet. -/
theorem deskCopy_answer (s : State) (b : DeskBody) (q p : Port) (kind tag : Octet) (a : Answer)
    (ha : a.waits ≠ .deferred) : (s.deskCopy b q).answer p kind tag a = (s.answer p kind tag a).deskCopy b q := by
  rw [answer_queues ha, answer_queues ha]
  by_cases hqp : q = p
  · subst hqp
    generalize he : TxEntry.mk (.reply kind tag a.status a.data) 0 a.waits = e
    have hw : e.isWaitingDesk = false := by rw [← he]; rfl
    unfold State.deskCopy
    simp only [setQueue_fields, get_put, if_true, fillReserved_length, dropOldestDesk_fillReserved e hw]
    have hfa : ∀ (l : List TxEntry) (g : Bool), fillReserved e (l ++ [TxEntry.fresh (.desk b g)]) =
        fillReserved e l ++ [TxEntry.fresh (.desk b g)] := fun l g => fillReserved_append e l _ (by simp [TxEntry.fresh])
    split
    · simp only [State.setQueue, State.setGap, get_put, if_true, put_put, hfa]
    · cases hd : dropOldestDesk s.queues[q] with
      | none => rfl
      | some r => simp only [Option.map_some, State.setQueue, State.setGap, get_put, if_true, put_put, hfa]
  · have hpq : ¬p = q := fun h => hqp h.symm
    unfold State.deskCopy
    simp only [setQueue_fields, get_put, if_neg hqp]
    split
    · simp only [State.setQueue, State.setGap, get_put, if_neg hpq, put_comm _ hqp]
    · cases dropOldestDesk s.queues[q] with
      | none => rfl
      | some r => simp only [State.setQueue, State.setGap, get_put, if_neg hpq, put_comm _ hqp]

theorem deskStatus_answer (s : State) (b : DeskBody) (p : Port) (kind tag : Octet) (a : Answer)
    (ha : a.waits ≠ .deferred) : (s.deskStatus b).answer p kind tag a = (s.answer p kind tag a).deskStatus b := by
  have hd : (s.answer p kind tag a).isDesk = s.isDesk := rfl
  have key : ∀ (l : List Port) (t : State), (l.foldl (fun t q => t.deskCopy b q) t).answer p kind tag a =
      l.foldl (fun t q => t.deskCopy b q) (t.answer p kind tag a) := by
    intro l
    induction l with
    | nil => exact fun _ => rfl
    | cons q l ih => exact fun t => by rw [List.foldl_cons, ih, deskCopy_answer t b q p kind tag a ha, List.foldl_cons]
  unfold State.deskStatus
  rw [hd, key]

theorem testNotice_answer (s : State) (k : NoticeKind) (p : Port) (kind tag : Octet) (a : Answer)
    (ha : a.waits ≠ .deferred) : (s.testNotice k).answer p kind tag a = (s.answer p kind tag a).testNotice k := by
  have hl : (s.answer p kind tag a).laneOf k = s.laneOf k := rfl
  have hd : (s.answer p kind tag a).deliverable k = s.deliverable k := by
    have hr : (s.answer p kind tag a).hasRoom (s.laneOf k).dest = s.hasRoom (s.laneOf k).dest := by
      rw [answer_queues ha]
      simp only [State.hasRoom, setQueue_fields, get_put]
      split
      · rename_i h
        rw [h, fillReserved_length]
      · rfl
    simp only [State.deliverable, hl, hr]
    rfl
  have hk : (s.answer p kind tag a).testNotice k = if s.deliverable k = true then
      ((s.answer p kind tag a).setQueue (s.laneOf k).dest ((s.answer p kind tag a).queues[(s.laneOf k).dest] ++
        [TxEntry.fresh (.notice (s.noticeBody k))])).setNotice k (s.notices[k].built (s.laneOf k).mode)
      else s.answer p kind tag a := by
    rw [← hd]
    rfl
  rw [hk, State.testNotice, answer_queues ha]
  split
  · rw [answer_queues ha]
    generalize TxEntry.mk (.reply kind tag a.status a.data) 0 a.waits = e
    by_cases hp : (s.laneOf k).dest = p
    · subst hp
      have hfa := fillReserved_append e s.queues[(s.laneOf k).dest] (TxEntry.fresh (.notice (s.noticeBody k))) (by simp [TxEntry.fresh])
      simp only [State.setQueue, State.setNotice, get_put, if_true, put_put, hfa]
    · have hp' : ¬p = (s.laneOf k).dest := fun h => hp h.symm
      simp only [State.setQueue, State.setNotice, get_put, if_neg hp, if_neg hp', put_comm _ hp]
  · exact (answer_queues ha).symm

theorem testNotices_answer (s : State) (f : Lane → NoticeKind → Bool) (p : Port) (kind tag : Octet) (a : Answer)
    (ha : a.waits ≠ .deferred) : (s.testNotices f).answer p kind tag a = (s.answer p kind tag a).testNotices f := by
  have key : ∀ (l : List (Lane × NoticeKind)) (t : State), (l.foldl (fun t x =>
      if s.noticeControl.kinds[x.2].lane = x.1 ∧ f x.1 x.2 = true then t.testNotice x.2 else t) t).answer p kind tag a =
      l.foldl (fun t x =>
        if s.noticeControl.kinds[x.2].lane = x.1 ∧ f x.1 x.2 = true then t.testNotice x.2 else t)
        (t.answer p kind tag a) := by
    intro l
    induction l with
    | nil => exact fun _ => rfl
    | cons x l ih =>
      intro t
      rw [List.foldl_cons, List.foldl_cons, ih]
      split
      · rw [testNotice_answer t x.2 p kind tag a ha]
      · rfl
  exact key _ s

theorem offer_answer (s : State) (q p : Port) (kind tag : Octet) (a : Answer) (ha : a.waits ≠ .deferred) :
    (s.offer q).answer p kind tag a = (s.answer p kind tag a).offer q := testNotices_answer s _ p kind tag a ha

theorem record_answer (s : State) (d : NoticeDetail) (p : Port) (kind tag : Octet) (a : Answer) :
    (s.record d).answer p kind tag a = (s.answer p kind tag a).record d := rfl

theorem raise_answer (s : State) (d : NoticeDetail) (p : Port) (kind tag : Octet) (a : Answer)
    (ha : a.waits ≠ .deferred) : (s.raise d).answer p kind tag a = (s.answer p kind tag a).raise d := by
  have hl : (s.answer p kind tag a).laneOf d.kind = s.laneOf d.kind := rfl
  rw [State.raise, testNotice_answer _ _ _ _ _ _ ha, record_answer, offer_answer _ _ _ _ _ _ ha, State.raise, hl]

/-- A request whose owner's answer waits for nothing may be read as answered before what it raises. -/
theorem raised_answer (p : Port) (kind tag : Octet) (a : Answer) (ha : a.waits ≠ .deferred) :
    ∀ (l : List NoticeDetail) (s : State),
      (l.foldl State.raise s).answer p kind tag a = l.foldl State.raise (s.answer p kind tag a)
  | [], _ => rfl
  | d :: l, s => by
    rw [List.foldl_cons, raised_answer p kind tag a ha l, raise_answer s d p kind tag a ha, List.foldl_cons]

theorem told_answer (s : State) (r : ActiveCue) (st : DeskState) (p : Port) (kind tag : Octet) (a : Answer)
    (ha : a.waits ≠ .deferred) : (s.told r st).answer p kind tag a = (s.answer p kind tag a).told r st :=
  deskStatus_answer s _ p kind tag a ha

theorem handOn_eq_told (s : State) (r : ActiveCue) : s.handOn r = s.told r (.inList r.state) := rfl

theorem toldAll_answer (p : Port) (kind tag : Octet) (a : Answer) (ha : a.waits ≠ .deferred) :
    ∀ (l : List ActiveCue) (s : State), (s.toldAll l).answer p kind tag a = (s.answer p kind tag a).toldAll l
  | [], _ => rfl
  | r :: l, s => (toldAll_answer p kind tag a ha l (s.told r (.inList r.state))).trans
      (congrArg (fun t => State.toldAll t l) (told_answer s r _ p kind tag a ha))

theorem toldCancelled_answer (p : Port) (kind tag : Octet) (a : Answer) (ha : a.waits ≠ .deferred) :
    ∀ (l : List ActiveCue) (s : State), (s.toldCancelled l).answer p kind tag a = (s.answer p kind tag a).toldCancelled l
  | [], _ => rfl
  | r :: l, s => (toldCancelled_answer p kind tag a ha l (s.told r .cancelled)).trans
      (congrArg (fun t => State.toldCancelled t l) (told_answer s r _ p kind tag a ha))

/-- A request whose owner's messages do not meet its reply: the reply first, then what the request raises (R179). -/
theorem request_through {s : State} {p : Port} (tag : Octet) {r : Request} (u : State) (F : State → State) (st : Status)
    (d : ReplyData) (h : MaySend s p (requestRight r)) (ho : owner p r (s.reserve p) = (F (u.reserve p), Answer.with st d))
    (hF : ∀ (t : State) (kind tag : Octet) (a : Answer), a.waits ≠ .deferred →
      (F t).answer p kind tag a = F (t.answer p kind tag a)) :
    s.request p tag r = F (u.replied p (replyOf (replyKind (requestKind r)) tag st d)) := by
  have hw : (Answer.with st d).waits ≠ .deferred := by simp [Answer.with]
  rw [request_taken tag h, ho, hF _ _ _ _ hw, reserve_answer u p _ tag _ hw]
  rfl

/-! ## Messages and the rest -/

/-- A state alike but for messages is the other with its messages. -/
theorem eq_mailed {s t : State} (h : t.sansMsgs = s.sansMsgs) : t = s.mailed t := state_ext h rfl rfl rfl

/-- A change of the list, and the telling of the desks, do not meet. -/
theorem told_setActive (s : State) (r : ActiveCue) (st : DeskState) (l : List ActiveCue) :
    (s.told r st).setActive l = (s.setActive l).told r st := by
  have h := deskStatus_mailed (x := s.setActive l) (m := s) ⟨rfl, rfl, rfl⟩
    (.cue r.slot s.liveTables.cues[r.slot].label st r.awaited.count r.acked.count r.absent.count r.overdue r.unready
      r.origin)
  have e := eq_mailed (deskStatus_sansMsgs s
    (.cue r.slot s.liveTables.cues[r.slot].label st r.awaited.count r.acked.count r.absent.count r.overdue r.unready
      r.origin))
  exact (congrArg (fun t => State.setActive t l) e).trans h.symm

@[simp] theorem setActive_setActive (s : State) (k l : List ActiveCue) : (s.setActive k).setActive l = s.setActive l := rfl

@[simp] theorem setActive_active (s : State) : s.setActive s.active = s := rfl

theorem told_sansMsgs (s : State) (r : ActiveCue) (st : DeskState) : (s.told r st).sansMsgs = s.sansMsgs :=
  deskStatus_sansMsgs s _

/-- Changes of records one after the other leave the list they leave, and the desks are told of each in turn (R36). -/
theorem foldl_changeCue_told (s : State) (f : State → ActiveCue → ActiveCue) (g : ActiveCue → ActiveCue)
    (hf : ∀ t r, t.sansCues = s.sansCues → f t r = g r) :
    ∀ (l : List ActiveCue) (t : State), t.sansCues = s.sansCues →
      l.foldl (fun t r => t.changeCue (f t r)) t =
        (t.setActive (l.foldl (fun t r => t.changeCue (f t r)) t).active).toldAll (l.map g)
  | [], _, _ => rfl
  | r :: l, t, ht => by
    refine (foldl_changeCue_told s f g hf l (t.changeCue (f t r)) ((changeCue_sansCues _ _).trans ht)).trans ?_
    show _ = (t.setActive (l.foldl (fun t r => t.changeCue (f t r)) (t.changeCue (f t r))).active).toldAll (g r :: l.map g)
    generalize (l.foldl (fun t r => t.changeCue (f t r)) (t.changeCue (f t r))).active = k
    rw [hf t r ht]
    exact congrArg (fun u => State.toldAll u (l.map g)) (told_setActive (t.putCue (g r)) (g r) _ k)

/-! ## Zones -/

/-- The ZONE_CHANGE of a zone evaluated afresh. -/
def State.changeOfZone (s : State) (z : ZoneNo) : NoticeDetail :=
  .zoneChange z (s.zoneNow z) (s.counter s.liveTables.zones[z].counter).value

theorem changeOfZone_congr {s t : State} (h : t.sansZones = s.sansZones) (z : ZoneNo) :
    t.changeOfZone z = s.changeOfZone z := by
  have hc : t.counters = s.counters := (congrArg State.counters h :)
  simp only [State.changeOfZone, State.counter, zoneNow_of_sansZones h, liveTables_of_sansZones h, hc]

/-- An evaluation of different zones sets their occupancy and raises the changes, zone after zone (R92). -/
theorem evalZones_mailed : ∀ (l : List ZoneNo) (s : State), l.Nodup →
    s.evalZones l =
      State.mailed { s with occupied := (s.evalZones l).occupied }
        (((l.filter fun z => s.zoneNow z != s.occupied[z]).map s.changeOfZone).foldl State.raise s)
  | [], _, _ => rfl
  | z :: l, s, hn => by
    rw [List.nodup_cons] at hn
    have ih := evalZones_mailed l (s.evalZone z) hn.2
    have hl : (l.filter fun y => (s.evalZone z).zoneNow y != (s.evalZone z).occupied[y]) =
        l.filter fun y => s.zoneNow y != s.occupied[y] := by
      refine List.filter_congr fun y hy => ?_
      have hyz : ¬y = z := fun h => hn.1 (h ▸ hy)
      rw [zoneNow_of_sansZones (evalZone_sansZones s z), evalZone_occupied, if_neg hyz]
    have hm : (l.filter fun y => s.zoneNow y != s.occupied[y]).map (s.evalZone z).changeOfZone =
        (l.filter fun y => s.zoneNow y != s.occupied[y]).map s.changeOfZone :=
      List.map_congr_left fun y _ => changeOfZone_congr (evalZone_sansZones s z) y
    rw [hl, hm] at ih
    have hz : ∀ (t m : State) (o : Vector Bool 6), t.sansZones = s.sansZones →
        State.mailed { t with occupied := o } m = State.mailed { s with occupied := o } m := by
      intro t m o h
      have key : ∀ u : State, State.mailed { u with occupied := o } m = State.mailed { u.sansZones with occupied := o } m :=
        fun _ => rfl
      rw [key t, key s, h]
    refine ih.trans ((hz _ _ _ (evalZone_sansZones s z)).trans ?_)
    show State.mailed { s with occupied := ((s.evalZone z).evalZones l).occupied } _ =
      State.mailed { s with occupied := ((s.evalZone z).evalZones l).occupied } _
    generalize ((s.evalZone z).evalZones l).occupied = o
    by_cases h : s.zoneNow z = s.occupied[z]
    · rw [List.filter_cons_of_neg (by simp [h]), State.evalZone, if_pos h]
    · have hb : (s.zoneNow z != s.occupied[z]) = true := bne_iff_ne.2 h
      rw [List.filter_cons_of_pos (p := fun z => s.zoneNow z != s.occupied[z]) hb, State.evalZone, if_neg h, List.map_cons, List.foldl_cons]
      generalize hL : (l.filter fun y => s.zoneNow y != s.occupied[y]).map s.changeOfZone = L
      have h1 : (s.setOccupied z (s.zoneNow z)).raise (s.changeOfZone z) =
          (s.setOccupied z (s.zoneNow z)).mailed (s.raise (s.changeOfZone z)) :=
        raise_mailed (x := s.setOccupied z (s.zoneNow z)) (m := s) ⟨rfl, rfl, rfl⟩ _
      have h2 := raises_mailed (x := s.setOccupied z (s.zoneNow z)) L (m := s.raise (s.changeOfZone z))
        (SameGates.trans_sansMsgs (m := s) ⟨rfl, rfl, rfl⟩ (raise_sansMsgs s _))
      exact (congrArg (State.mailed { s with occupied := o }) ((congrArg (List.foldl State.raise · L) h1).trans h2)).trans
        rfl

/-- An evaluation of zones: the occupancy it leaves, and the raising of the changes (R92). -/
theorem evalZones_raised (s : State) (P : ZoneNo → Bool) :
    s.evalZones ((List.finRange 6).filter P) =
      State.raised { s with occupied := (s.evalZones ((List.finRange 6).filter P)).occupied }
        (s.zoneChanges (s.evalZones ((List.finRange 6).filter P)).occupied) := by
  have hn : ((List.finRange 6).filter P).Nodup := (List.nodup_finRange 6).filter _
  rw [evalZones_mailed _ s hn]
  show State.mailed _ _ = State.raised { s with occupied := (s.evalZones ((List.finRange 6).filter P)).occupied }
    (s.zoneChanges (s.evalZones ((List.finRange 6).filter P)).occupied)
  have ho : ∀ z : ZoneNo, (s.evalZones ((List.finRange 6).filter P)).occupied[z] =
      if P z = true then s.zoneNow z else s.occupied[z] := by
    intro z
    rw [evalZones_occupied]
    simp
  generalize (s.evalZones ((List.finRange 6).filter P)).occupied = o at ho
  have hl : (((List.finRange 6).filter P).filter fun z => s.zoneNow z != s.occupied[z]).map s.changeOfZone =
      s.zoneChanges o := by
    unfold State.zoneChanges
    rw [List.filter_filter]
    have hf : ((List.finRange 6).filter fun z => (s.zoneNow z != s.occupied[z]) && P z) =
        (List.finRange 6).filter fun z => o[z] != s.occupied[z] := by
      refine List.filter_congr fun z _ => ?_
      rw [ho z]
      cases hP : P z <;> simp
    rw [hf]
    refine List.map_congr_left fun z hz => ?_
    have hz' := (List.mem_filter.1 hz).2
    have hoz := ho z
    by_cases hP : P z = true
    · rw [if_pos hP] at hoz
      simp only [State.changeOfZone, hoz]
    · rw [if_neg hP] at hoz
      rw [hoz] at hz'
      simp at hz'
  rw [hl]
  exact (raises_mailed (x := { s with occupied := o }) _ (m := s) ⟨rfl, rfl, rfl⟩).symm

end Sys2Proof.Machine
end

