-- ==== Sys2Proof/WellFormed.lean ====
section
/-! DEFINITION. The commands whose operands are what their row says: a frame of the row's class (R152), a kind that is
not a request kind (R177), a table number outside 1–8 (R183). Every other command carries its fields as they stand. -/

namespace Sys2Proof

/-- The operands of a command are those its row speaks of. -/
def Instr.wellFormed : Instr → Bool
  | .goodFrame _ f => Machine.UpFrame.classify f == .good
  | .frameDiscarded _ f => Machine.UpFrame.classify f == .discarded
  | .unknownKind _ _ kind => (Machine.kindRight kind).isNone && kind != Machine.identReplyKind
  | .badTable _ _ _ table => !decide (1 ≤ table ∧ table ≤ 8)
  | _ => true

end Sys2Proof
end

