-- ==== Sys2Proof/Tests/Slice0.lean ====
section
/-! SUPPORT. The author's own checks: ill-formed commands that WellFormed refuses, small worked examples of the spec,
and for every statement with hypotheses concrete states and operands that meet them, clause by clause. -/

namespace Sys2Proof.Tests
open Sys2Proof Sys2Proof.Machine

set_option Elab.async false

/-! ## States the witnesses are built from -/

/-- Every key let go. -/
def noKeys : Keys := { talk := 0, call := 0, cue := false }

/-- The record of a port in a state, with a station of four key slots. -/
def station (st : PortState) : PortRecord :=
  { PortRecord.powerOn with state := st, ident := some { cls := .desk, keyCount := 4, serial := 7 }, keyRef := some noKeys }

/-- P0, P3 and P4 UP and the other ports DOWN, the loader IDLE, everything else as after reset. -/
def desk : State :=
  { State.reset with
    loader := .idle
    clock := 1000
    ports := put (put (put State.reset.ports 0 (station .up)) 3 (station .up)) 4 (station .up) }

/-- The desk with one record changed. -/
def withPort (p : Port) (r : PortRecord) : State := { desk with ports := put desk.ports p r }

/-- Slot 12 on G1, slot 13 on G1 with ANY_STATE, G1 holding P3, P4 and P5. -/
def tables : BankTables :=
  { BankTables.cleared with
    cues := put (put BankTables.cleared.cues 12 { CueRecord.cleared with valid := true, groups := [0] }) 13
      { CueRecord.cleared with valid := true, groups := [0], goPolicy := .anyState }
    groups := put BankTables.cleared.groups 0 { valid := true, ports := ⟨0x38⟩ } }

/-- The desk with those tables live. -/
def show_ : State := { desk with bankA := tables }

/-- A record of a slot in a state. -/
def record (slot : CueSlot) (st : CueState) : ActiveCue :=
  { slot := slot, state := st, prior := none, targets := ⟨0x38⟩, awaited := ⟨0x18⟩, acked := ⟨0⟩, absent := ⟨0x20⟩
    overdue := false, unready := false, origin := .desk 0, ackDeadline := none, followDeadline := none
    remaining := none, goDisplay := none }

/-- The show with some records in the list. -/
def standing (l : List ActiveCue) : State := { show_ with active := l }

/-- Cue 12 with a successor link and an interlock zone, with records in the list. -/
def linked (x : Option Successor) (z : Option ZoneNo) (l : List ActiveCue) : State :=
  { show_ with
    active := l
    bankA := { tables with
      cues := put tables.cues 12 { tables.cues[(12 : CueSlot)] with successor := x, interlock := z }
      zones := put tables.zones 0 { Zone.cleared with valid := true, lower := 0, upper := 10 } }
    occupied := put State.reset.occupied 0 true }

/-- The desk with counter M1 changed. -/
def withCounter (c : Counter) : State := { desk with counters := put desk.counters 0 c }

/-- M1 with a value and comparison RUNNING at index 0. -/
def running (v : Int) : Counter := { Counter.powerOn with value := v, comparison := .running }

/-- The desk with M1 RUNNING before one entry. -/
def matching (v : Int) (e : PositionEntry) : State :=
  { withCounter (running v) with bankA := { tables with positions := put tables.positions 0 e } }

/-- An entry of a talk list. -/
def talker (p : Port) (pr : Fin 4) (l : Bool) : TalkEntry :=
  { port := p, slot := 0, priority := pr, latched := l, pressTime := none }

/-- The desk with the lists of C3 and its entry changed. -/
def talking (e : ChannelEntry) (t : ChannelTalk) : State :=
  { desk with channels := put desk.channels 2 e, talk := put desk.talk 2 t }

/-- The desk with a transmit queue changed. -/
def withQueue (p : Port) (q : List TxEntry) : State := { desk with queues := put desk.queues p q }

/-- The silent good frame, all octets between start and check zero. -/
def silence : UpFrame := #v[0x4E, 0, 0, 0, 0, 0, 0]

/-- A good frame whose message lane carries 0x11 as an octet that goes on. -/
def laneFrame : UpFrame := #v[0x4E, 0, 0, 0, 0x40, 0x11, 0x2C]

/-- Good frames with K1's talk key, K1's call key and the cue key pressed. -/
def talkFrame : UpFrame := #v[0x4E, 0, 0, 0x10, 0, 0, 0xA2]

def callFrame : UpFrame := #v[0x4E, 0, 0, 0x01, 0, 0, 0x6B]

def cueFrame : UpFrame := #v[0x4E, 0, 0, 0, 0x80, 0, 0xB6]

/-- The state after a command. -/
def after (c : Instr) (s : State) : State :=
  match exec c s with
  | .next t => t
  | _ => s

/-- A message of the part with two octets or more. -/
def ask (sent : Nat) : TxEntry := { content := .identAsk 1, sent := sent, waits := .nothing }

/-- A desk status message, begun or not. -/
def deskEntry (sent : Nat) : TxEntry := { content := .desk (.bank .a) false, sent := sent, waits := .nothing }

/-! ## WellFormed: each check refuses an ill-formed command -/

theorem test_wellFormed_goodFrame :
    Instr.wellFormed (.goodFrame 0 silence) = true
      ∧ Instr.wellFormed (.goodFrame 0 #v[0x4E, 0, 0, 0, 0, 0, 1]) = false
      ∧ Instr.wellFormed (.goodFrame 0 #v[0, 0, 0, 0, 0, 0, 0]) = false := by decide +kernel

theorem test_wellFormed_frameDiscarded :
    Instr.wellFormed (.frameDiscarded 0 #v[0x4E, 0, 0, 0, 0, 0, 1]) = true
      ∧ Instr.wellFormed (.frameDiscarded 0 silence) = false := by decide +kernel

theorem test_wellFormed_unknownKind :
    Instr.wellFormed (.unknownKind 0 1 0x16) = true ∧ Instr.wellFormed (.unknownKind 0 1 0x10) = false
      ∧ Instr.wellFormed (.unknownKind 0 1 0xF1) = false := by decide +kernel

theorem test_wellFormed_badTable :
    Instr.wellFormed (.badTable 0 1 true 0) = true ∧ Instr.wellFormed (.badTable 0 1 true 9) = true
      ∧ Instr.wellFormed (.badTable 0 1 true 1) = false ∧ Instr.wellFormed (.badTable 0 1 true 8) = false := by decide +kernel

/-- No row of the table gives bits. -/
theorem test_noWordSpellsACommand (n w : Nat) : decodeTableWord n w = none := rfl

/-! ## Worked examples of the spec -/

/-- 01, 1.8: G1, G2, an invalid G3 and an empty G4 resolve to four ports, P5 counted once. -/
theorem test_example_resolution :
    let groups := put (put (put (put BankTables.cleared.groups 0 { valid := true, ports := ⟨0x38⟩ }) 1
      { valid := true, ports := ⟨0x60⟩ }) 2 { valid := false, ports := ⟨0xFF⟩ }) 3 { valid := true, ports := ⟨0⟩ }
    let s : State := { desk with bankA := { tables with groups := groups } }
    s.resolve { CueRecord.cleared with groups := [0, 1, 2] } = ⟨0x78⟩
      ∧ (s.resolve { CueRecord.cleared with groups := [0, 1, 2] }).count = 4
      ∧ (s.resolve { CueRecord.cleared with groups := [2, 3] }).isEmpty = true := by decide +kernel

/-- The state of 08, 8.10: P20 listens to C1, C4 and the forced C9. -/
def mixing (sidetone : Bool) (p23 : Sample) (forced : List ActiveCue) : State :=
  let slot (c : Chan) : SlotConfig := { SlotConfig.cleared with channel := some c }
  let profile : Profile :=
    { Profile.plain with sidetone := sidetone, slots := put (put SlotConfig.defaults 0 (slot 0)) 1 (slot 3) }
  { desk with
    ports := put desk.ports 20 (station .up)
    profiles := put desk.profiles 20 profile
    channels := put desk.channels 3 { ChannelEntry.default with level := 8 }
    active := forced
    bankA := { tables with
      cues := put tables.cues 12 { CueRecord.cleared with valid := true, groups := [0], cueChannel := some 8 } }
    talk := put (put (put desk.talk 0
      { talkers := [talker 20 1 false, talker 21 1 false, talker 22 1 false], waiters := [], idle := none }) 3
      { talkers := [talker 23 1 false, talker 21 1 false], waiters := [], idle := none }) 8
      { talkers := [talker 24 1 false], waiters := [], idle := none }
    samples := put (put (put (put desk.samples 20 (some 5000)) 21 (some 12000)) 23 (some p23)) 24 (some 30000) }

/-- 08, 8.10: clamped at 32,767; without C9 14,499; with sidetone 19,499; and 9,500 by truncation toward zero. -/
theorem test_example_mix :
    let on12 : ActiveCue := { record 12 .standby with targets := ⟨0x100000⟩ }
    ((mixing false (BitVec.ofInt 16 (-7001)) [on12]).mixSample 20).toInt = 32767
      ∧ ((mixing false (BitVec.ofInt 16 (-7001)) []).mixSample 20).toInt = 14499
      ∧ ((mixing true (BitVec.ofInt 16 (-7001)) []).mixSample 20).toInt = 19499
      ∧ ((mixing false (BitVec.ofInt 16 (-17001)) []).mixSample 20).toInt = 9500 := by decide +kernel

/-- 07, 7.12: P15's press preempts P12, which goes to the front of its class. -/
theorem test_example_preemption :
    let s := talking { ChannelEntry.default with maxTalkers := 2, idleRelease := 30 }
      { talkers := [talker 12 1 true, talker 13 2 false], waiters := [talker 14 1 true], idle := some 9 }
    let t := s.requestTalk 2 (talker 15 3 false)
    t.talk[(2 : Chan)].talkers = [talker 13 2 false, talker 15 3 false]
      ∧ t.talk[(2 : Chan)].waiters = [talker 12 1 true, talker 14 1 true]
      ∧ t.talk[(2 : Chan)].idle = some (1000 + 240000) := by decide +kernel

/-- 07, 7.13: max talkers lowered to 1 moves P3 and then P4 to the front of their classes. -/
theorem test_example_maxTalkersLowered :
    let s := talking { ChannelEntry.default with maxTalkers := 3, preemption := false }
      { talkers := [talker 2 1 false, talker 3 1 false, talker 4 2 false]
        waiters := [talker 5 2 false, talker 6 1 false], idle := none }
    let w : ChannelWrite := { maxTalkers := 1, level := 16, preemption := some false, idleRelease := 0, callDisplay := 3000 }
    let t := after (.writeChannelEntry 0 1 3 w) s
    t.talk[(2 : Chan)].talkers = [talker 2 1 false]
      ∧ t.talk[(2 : Chan)].waiters = [talker 4 2 false, talker 5 2 false, talker 3 1 false, talker 6 1 false]
      ∧ t.queues[(0 : Port)].map (fun e => e.content.kind) = [0xA1, 0xC4, 0xC4] := by
  decide +kernel

/-- 10, R173: the check octet of GO(5) with tag 7, and the message it closes. -/
theorem test_example_messageCheck :
    crc8 0xFF [0x11, 7, 1, 5] = 0xB8 ∧ crc8 0xFF [0x12, 7, 0] = 0x34 := by decide +kernel

/-- 05, R98: levels that the pins show before the counter takes them are in the reference a MODE renews, and the STEP
behind it yields nothing; taken first, the STEP counts. -/
theorem test_example_stepAndMode :
    let pinsFirst := after (.changeOfLevel .m1 (.pins true false false)) desk
    let mode := Instr.mode 0 1 (some .m1) (some .countUp)
    ((after (.step .m1 true false) (after mode pinsFirst)).counter .m1).value = 0
      ∧ ((after mode (after (.step .m1 true false) desk)).counter .m1).value = 1
      ∧ (pinsFirst.counter .m1).value = 0 := by decide +kernel

/-- 10, R183: the table numbers, and the index tested before the length of an entry. -/
theorem test_example_tableNumbers :
    (readRequest 1 (some .live) 0 = .readCueEntry (some .live) 0 ∧ readRequest 8 (some .live) 0 = .readRouterSettings (some .live) 0
        ∧ readRequest 9 (some .live) 0 = .badTable false ∧ readRequest 0 none 0 = .badTable false)
      ∧ (∀ e, writeRequest 9 0 e = .badTable true)
      ∧ (owner 0 (.misfitEntry .groupTable 25) desk).2.status = .badIndex
      ∧ (owner 0 (.misfitEntry .groupTable 24) desk).2.status = .badValue := by
  refine ⟨by decide, fun _ => rfl, by decide +kernel⟩

/-- R173, R178, R180: the octets of a bare reply, of the reply to an unknown kind and of an ask, check octet last. -/
theorem test_messageOctets :
    (TxContent.reply 0x95 7 .notStoodBy .nothing).octets = [0x95, 7, 1, 11, 0xFB]
      ∧ (TxContent.reply 0xFE 9 .unknown (.unknownKind 0x16)).octets = [0xFE, 9, 2, 2, 0x16, 0x5A]
      ∧ (TxContent.identAsk 3).octets = [0xF0, 3, 0, 0x78] := by decide +kernel

/-! ## Concrete states that meet the hypotheses of the statements, clause by clause -/

/-- P0 of the desk may send requests of every right, whatever stands in the tables and lists the requests work on. -/
theorem desk_maySend (r : Right) : MaySend desk 0 r := by cases r <;> exact ⟨by decide, by decide, by decide⟩

theorem test_hypotheses_emptyQueue :
    (desk.pending = [] ∧ desk.nextDue = none)
      ∧ { desk with denied := put desk.denied 31 (put (Vector.replicate 4 none) 3 (some 1000)) }.nextDue =
        some (.deniedPeriodExpiry 31 3) := by decide +kernel

theorem test_hypotheses_loadEnd :
    let i := desk.snapshot.toImage
    (State.reset.powered = true ∧ State.reset.loader = .loading ∧ State.reset.store = none)
      ∧ { State.reset with store := some i }.store = some i := ⟨⟨rfl, rfl, rfl⟩, rfl⟩

/-- R195: an entry of an image that fails its table's write rule is loaded as the default of its table, and the others
as written. -/
theorem test_imageEntriesLoadOneByOne :
    let i := desk.snapshot.toImage
    let spoiled := { i with noticeControl := put (put i.noticeControl 3 (.kind (some false) 4)) 4 (.kind (some false) 3) }
    spoiled.notices.kinds[(2 : NoticeKind)] = { enable := true, lane := 0 }
      ∧ spoiled.notices.kinds[(3 : NoticeKind)] = { enable := false, lane := 3 } := by decide +kernel

/-- Loading with power, and an image in which nobody holds WRITE and zone 1 holds 0. -/
def loadingUnwritten : State :=
  let image : Snapshot :=
    { desk.snapshot with
      profiles := State.reset.profiles.map fun f => { f with rights := ⟨false, false, false⟩, enabled := false }
      banked := { BankTables.cleared with
        zones := put BankTables.cleared.zones 0 { Zone.cleared with valid := true, lower := 0, upper := 0 } } }
  { State.reset with store := some image.toImage }

/-- R92, R99, R196: with no WRITE in the image P0 gets every right and is enabled, its other fields as loaded, and each
zone that holds 0 is told before STARTED. -/
theorem test_loadEndGuaranteesAWriterAndEvaluatesTheZones :
    let t := after (.loadEnd true) loadingUnwritten
    t.profiles[(0 : Port)] = Profile.ofP0 ∧ t.profiles[(1 : Port)].enabled = false
      ∧ t.ports[(0 : Port)].state = .down ∧ t.ports[(1 : Port)].state = .disabled
      ∧ t.notices[(11 : NoticeKind)].detail = some (.zoneChange 0 true 0) ∧ t.notices[(11 : NoticeKind)].count = 1
      ∧ t.notices[(16 : NoticeKind)].detail = some (.started .loaded) := by decide +kernel

/-- A save at a stage. -/
def saving (x : SaveStage) : State :=
  { desk with loader := .saving, save := some { snapshot := desk.snapshot, stage := x } }

theorem test_hypotheses_save :
    MaySend desk 0 .write ∧ desk.loader = .idle ∧ MaySend (saving .imageCheck) 0 .write
      ∧ (saving .imageCheck).loader = .saving
      ∧ ∀ x, (saving x).save = some { snapshot := desk.snapshot, stage := x } :=
  ⟨desk_maySend _, rfl, ⟨by decide, by decide, by decide⟩, rfl, fun _ => rfl⟩

/-- R197: within the acceptance of SAVE the memory's answer makes the image invalid, or the save fails at once and the
image stays. -/
theorem test_saveEndsOrGoesOnAtItsFirstWrite :
    let s := { desk with store := some desk.snapshot.toImage }
    (Config.memoryAnswers s.fresh = true → s.beginSave.store = none ∧ s.beginSave.loader = .saving)
      ∧ (Config.memoryAnswers s.fresh = false →
        s.beginSave.store = s.store ∧ s.beginSave.loader = .idle
          ∧ s.beginSave.notices[(15 : NoticeKind)].detail = some (.saveDone false)) := by
  refine ⟨fun h => ?_, fun h => ?_⟩
  · rw [beginSave_answered _ h]; exact ⟨rfl, rfl⟩
  · rw [beginSave_unanswered _ h]; decide +kernel

/-- A save from its acceptance to its completion, one write at a time, stores the snapshot. -/
theorem test_saveCompletesAtItsMarker :
    let s := after .saveCompletion (saving .marker)
    s.loader = .idle ∧ s.save = none ∧ s.store.isSome = true
      ∧ (after .saveFailure (saving .marker)).store.isSome = false := by decide +kernel

/-- P0's RESTART accepted, its reply one octet from sent or not begun. -/
def restarting (sent : Bool) : State :=
  { withQueue 0 (if sent then [] else [{ content := .reply 0xE8 1 .ok .nothing, sent := 0, waits := .restart }]) with
    restartBy := some 0, ports := put desk.ports 0 { station .up with lossCount := 15 } }

theorem test_hypotheses_restart :
    desk.restartBy = none
      ∧ (MaySend (restarting false) 0 .write ∧ (restarting false).restartBy = some 0)
      ∧ ((∀ e ∈ (restarting true).queues[(0 : Port)], e.waits ≠ .restart)
        ∧ ∃ e ∈ (restarting false).queues[(0 : Port)], e.waits = .restart)
      ∧ ((restarting false).loader ≠ .loading ∧ (restarting false).present 0 = true
        ∧ (restarting false).ports[(0 : Port)].lossCount = 15) := by
  refine ⟨rfl, ⟨⟨?_, ?_, ?_⟩, rfl⟩, ⟨?_, ?_⟩, ?_, ?_, ?_⟩ <;> decide

/-- R198: a RESTART finishes the write in progress of a running save, answered or not: the image holds the snapshot only
when that is the marker write and it is answered. -/
theorem test_restartAbandonsARunningSave :
    let n := desk.snapshot
    let left (x : SaveStage) (answered : Bool) := storeAfterAbandon x answered n
    left (.tables 0) true = none ∧ left .imageCheck true = none ∧ left .marker false = none
      ∧ left .marker true = some n.toImage
      ∧ ∀ x, { saving x with restartBy := some 0 }.save = some { snapshot := n, stage := x } :=
  ⟨rfl, rfl, rfl, rfl, fun _ => rfl⟩

theorem test_hypotheses_frames :
    (UpFrame.classify silence = .good ∧ UpFrame.lanePresent silence = false ∧ UpFrame.classify #v[0x4E, 0, 0, 0, 0, 0, 1] ≠ .good)
      ∧ (withPort 31 { PortRecord.powerOn with state := .disabled }).ports[(31 : Port)].state = .disabled
      ∧ (desk.ports[(31 : Port)].state = .down ∧ desk.queues[(31 : Port)] = [])
      ∧ (withPort 31 (station .fault)).ports[(31 : Port)].state = .fault
      ∧ (withPort 31 (station .probing)).ports[(31 : Port)].state = .probing
      ∧ (desk.present 0 = true ∧ desk.ports[(0 : Port)].keyRef = some (UpFrame.keys silence))
      ∧ (let s := withPort 0 { station .up with lossCount := 14 };
        s.loader ≠ .loading ∧ s.ports[(0 : Port)].state ≠ .disabled ∧ s.ports[(0 : Port)].state ≠ .down
          ∧ s.ports[(0 : Port)].lossCount < 15) := by decide +kernel

theorem test_hypotheses_keyEdges :
    (UpFrame.classify talkFrame = .good ∧ UpFrame.classify callFrame = .good ∧ UpFrame.classify cueFrame = .good)
      ∧ (UpFrame.lanePresent talkFrame = false ∧ UpFrame.lanePresent callFrame = false ∧ UpFrame.lanePresent cueFrame = false)
      ∧ (withPort 0 (station .quiet)).ports[(0 : Port)].state = .quiet
      ∧ (desk.ports[(0 : Port)].state = .up ∧ desk.ports[(0 : Port)].keyRef = some noKeys)
      ∧ UpFrame.keys cueFrame = { noKeys with cue := true }
      ∧ UpFrame.keys talkFrame = { noKeys with talk := BitVec.twoPow 4 0 }
      ∧ UpFrame.keys callFrame = { noKeys with call := BitVec.twoPow 4 0 }
      ∧ (noKeys.talk.getLsbD 0 = false ∧ UpFrame.keys talkFrame = { noKeys with talk := noKeys.talk ||| BitVec.twoPow 4 0 })
      ∧ (UpFrame.keys silence).talk.getLsbD 0 = false := by decide +kernel

/-- P3 in a state of its record, awaited in a standing cue, with a transmit queue. -/
def leaving (r : PortRecord) (q : List TxEntry) : State :=
  { standing [record 12 .standby] with ports := put desk.ports 3 r, queues := put desk.queues 3 q }

/-- A reply that something waits for, one octet from sent or none of its octets sent. -/
def waitedFor (w : Waits) (last : Bool) : TxEntry :=
  { content := .reply 0xA1 1 .ok .nothing, sent := if last then 4 else 0, waits := w }

/-- A port about to fall: present or not, with or without a deferred action, its reply gone out or waiting. -/
theorem test_hypotheses_falls :
    (let s := withPort 31 { station .fault with lossCount := 15 };
      s.ports[(31 : Port)].state ≠ .disabled ∧ s.ports[(31 : Port)].state ≠ .down ∧ s.ports[(31 : Port)].lossCount = 15
        ∧ s.present 31 = false)
      ∧ (∀ d ∈ [none, some Deferred.disable, some .restart],
        let s := leaving { station .quiet with lossCount := 15, deferred := d } [];
        s.loader ≠ .loading ∧ s.present 3 = true ∧ s.restartBy ≠ some 3 ∧ s.ports[(3 : Port)].lossCount = 15
          ∧ s.ports[(3 : Port)].deferred = d ∧ ∃ r ∈ s.active, r.awaited.mem 3 = true)
      ∧ (UpFrame.classify #v[0x4E, 0, 0, 0, 0, 0, 1] = .discarded ∧ UpFrame.classify #v[0x4E, 0, 0, 0, 0x20, 0, 0xE0] = .discarded)
      ∧ (∀ d ∈ [none, some Deferred.disable, some .restart], ∀ q ∈ [[], [waitedFor .deferred false]],
        let s := leaving { station .up with deferred := d } q;
        s.present 3 = true ∧ s.restartBy ≠ some 3 ∧ s.ports[(3 : Port)].deferred = d
          ∧ ((∀ e ∈ s.queues[(3 : Port)], e.waits ≠ .deferred) ∨ ∃ e ∈ s.queues[(3 : Port)], e.waits = .deferred)) := by
  decide +kernel

theorem test_hypotheses_cueListSound : CueListSound (leaving (station .up) []) := by
  unfold CueListSound
  decide +kernel

/-- P3 about to leave: awaited in a cue, the destination of L0 (open) and L2 (closed), talking on C3 before P4. -/
def leavingLanes : State :=
  { leaving { station .up with lossCount := 15 } [] with
    talk := put desk.talk 2 { talkers := [talker 3 1 true], waiters := [talker 4 1 false], idle := none }
    channels := put desk.channels 2 { ChannelEntry.default with maxTalkers := 1, idleRelease := 10 }
    noticeControl := { desk.noticeControl with
      lanes := put (put desk.noticeControl.lanes 0 { dest := 3, isOpen := true, mode := .autoClear }) 2
        { dest := 3, isOpen := false, mode := .autoClear } } }

/-- R192: LANE_LOST is raised for the open lane and the closed one; R133: the head behind the port's talker is granted and
reloads the idle timer. -/
theorem test_leavingPortLosesItsLanesAndItsPlaces :
    let t := after (.linkLoss 3) leavingLanes
    (t.notices[(17 : NoticeKind)].count = 2 ∧ t.notices[(17 : NoticeKind)].detail = some (.laneLost 2 3))
      ∧ leavingLanes.lanesLeading 3 = [.laneLost 0 3, .laneLost 2 3]
      ∧ t.talk[(2 : Chan)] = { talkers := [talker 4 1 false], waiters := [], idle := some 81000 } := by decide +kernel

/-- R133, R167: QUIET takes the port's entries and loses no lane. -/
theorem test_quietFreesThePlacesOnly :
    let t := after (.quiet 0 1 3) leavingLanes
    t.ports[(3 : Port)].state = .quiet ∧ t.notices[(17 : NoticeKind)] = NoticeRecord.empty
      ∧ t.talk[(2 : Chan)] = { talkers := [talker 4 1 false], waiters := [], idle := some 81000 } := by decide +kernel

theorem test_hypotheses_leavingSound : CueListSound leavingLanes := by
  unfold CueListSound
  decide +kernel

/-- R168: link loss by a discarded frame takes a port with a deferred DISABLE to DISABLED, any other to DOWN. -/
theorem test_deferredDisableFallsToDisabled :
    let lost (d : Option Deferred) : State :=
      after (.frameDiscarded 3 #v[0x4E, 0, 0, 0, 0, 0, 1]) (leaving { station .up with lossCount := 15, deferred := d } [])
    (lost (some .disable)).ports[(3 : Port)].state = .disabled ∧ (lost (some .restart)).ports[(3 : Port)].state = .down
      ∧ (lost none).ports[(3 : Port)].state = .down := by decide +kernel

/-- DEFERRED_ACTION waits while a reply stands in the queue, its last octet unsent (R168). -/
theorem test_deferredActionWaitsForTheLastOctet :
    (after (.deferredAction 3) (leaving { station .up with deferred := some .disable } [waitedFor .deferred true])).present 3
        = true
      ∧ (after (.deferredAction 3) (leaving { station .up with deferred := some .disable } [])).present 3 = false := by
  decide +kernel

/-- The assembly of P0 holding some octets. -/
def assembly (l : List Octet) : State := { desk with assemblies := put desk.assemblies 0 (.assembling l) }

theorem test_hypotheses_assembly :
    (UpFrame.classify laneFrame = .good ∧ UpFrame.lanePresent laneFrame = true
        ∧ desk.ports[(0 : Port)].keyRef = some (UpFrame.keys laneFrame))
      ∧ desk.assemblies[(0 : Port)] = .empty
      ∧ (assembly [0x11, 7]).assemblies[(0 : Port)] = .assembling [0x11, 7]
      ∧ (48 < (49 : Octet).toNat ∧ (48 : Octet).toNat ≤ 48)
      ∧ (assembly [0x11, 7, 1]).assemblies[(0 : Port)] = .assembling (0x11 :: 7 :: 1 :: [])
      ∧ (assembly [0x11, 7, 1, 5]).assemblies[(0 : Port)] = .assembling (0x11 :: 7 :: 1 :: [5])
      ∧ (0xB8 : Octet) = crc8 0xFF#8 [0x11, 7, 1, 5] ∧ (0xB9 : Octet) ≠ crc8 0xFF#8 [0x11, 7, 1, 5] := by decide +kernel

theorem test_hypotheses_downstream :
    desk.loader ≠ .loading ∧ (withPort 31 { PortRecord.powerOn with state := .disabled }).ports[(31 : Port)].state = .disabled
      ∧ desk.ports[(31 : Port)].state = .down
      ∧ ((withPort 31 (station .probing)).queues[(31 : Port)] = []
        ∧ (withPort 31 (station .probing)).ports[(31 : Port)].state = .probing)
      ∧ (desk.queues[(0 : Port)] = [] ∧ desk.present 0 = true) := by decide +kernel

/-- A talk lamp of each kind, a station of two keys, and a slot with no channel. -/
theorem test_hypotheses_lamps :
    let slots := put SlotConfig.defaults 0 { channel := some 2, mode := .talk, action := .momentary, callAllowed := true }
    let s (t : ChannelTalk) (d : Option Time) : State :=
      { talking ChannelEntry.default t with
        profiles := put desk.profiles 0 { Profile.plain with slots := slots }
        denied := put desk.denied 0 (put (Vector.replicate 4 none) 0 d) }
    ((s ChannelTalk.powerOn none).inert 0 0 = false ∧ (s ChannelTalk.powerOn none).profiles[(0 : Port)].slots[(0 : KeySlot)].channel ≠ none
        ∧ (s ChannelTalk.powerOn none).profiles[(0 : Port)].slots[(0 : KeySlot)].mode ≠ .listen)
      ∧ (∃ c : Chan, ∃ e ∈ (s { talkers := [talker 0 1 true], waiters := [], idle := none } none).talk[c].talkers,
        e.port = 0 ∧ e.slot = 0)
      ∧ (∃ c : Chan, ∃ e ∈ (s { talkers := [], waiters := [talker 0 1 true], idle := none } none).talk[c].waiters,
        e.port = 0 ∧ e.slot = 0)
      ∧ (s ChannelTalk.powerOn (some 5)).denied[(0 : Port)][(0 : KeySlot)] ≠ none
      ∧ (∃ i, (withPort 0 { station .up with
            ident := some { cls := .desk, keyCount := 2, serial := 7 } }).ports[(0 : Port)].ident = some i
        ∧ i.keyCount < (2 : KeySlot).val + 1)
      ∧ desk.profiles[(0 : Port)].slots[(1 : KeySlot)].channel = none := by
  refine ⟨by decide +kernel, ⟨2, talker 0 1 true, by decide +kernel⟩, ⟨2, talker 0 1 true, by decide +kernel⟩,
    by decide +kernel, ⟨_, rfl, by decide⟩, by decide +kernel⟩

/-- R156, R172: a SERVICE frame carries the mix, the lamps and the next octet of the message being sent. -/
theorem test_serviceFrameWithAMessageOctet :
    (after (.downstreamFrame 0) (withQueue 0 [ask 0])).line[(0 : Port)] = some (downFrame 0x71 0 0 0 1 0x80 0xF0)
      ∧ (after (.downstreamFrame 0) (withQueue 0 [ask 1])).line[(0 : Port)] = some (downFrame 0x71 0 0 0 1 0 1) := by
  decide +kernel

theorem test_hypotheses_head :
    ((withQueue 0 [ask 0]).queues[(0 : Port)] = ask 0 :: [] ∧ (withQueue 0 [ask 0]).present 0 = true
        ∧ (ask 2).sent + 1 < (ask 2).content.octets.length ∧ (ask 3).content.octets.length ≤ (ask 3).sent + 1
        ∧ (ask 3).waits = .nothing)
      ∧ (let s := { withPort 31 (station .probing) with queues := put desk.queues 31 [ask 3] };
        s.ports[(31 : Port)].state = .probing ∧ s.queues[(31 : Port)] = ask 3 :: [] ∧ (ask 3).content = .identAsk 1)
      ∧ (∀ w ∈ [Waits.deferred, .restart], (waitedFor w true).waits = w
        ∧ (waitedFor w true).content.octets.length ≤ (waitedFor w true).sent + 1)
      ∧ (∀ d ∈ [none, some Deferred.disable, some .restart], ∀ by_ ∈ [none, some (3 : Port)],
        let s := { leaving { station .up with deferred := d } [waitedFor .deferred true] with restartBy := by_ };
        s.loader ≠ .loading ∧ s.present 3 = true ∧ s.ports[(3 : Port)].deferred = d ∧ s.restartBy = by_
          ∧ s.queues[(3 : Port)] = waitedFor .deferred true :: []) := by
  decide +kernel

theorem test_hypotheses_ident :
    (let r : PortRecord := { PortRecord.powerOn with state := .probing, asksSent := 3, askDeadline := some 1000 };
      (withPort 31 r).ports[(31 : Port)].state = .probing ∧ (3 : Octet).toNat ≤ r.asksSent ∧ classOf 1 = some .desk
        ∧ (4 : Octet).toNat ≤ 4 ∧ (withPort 31 r).profiles[(31 : Port)].expected = .any
        ∧ r.askDeadline = some 1000 ∧ (1000 : Time) ≤ desk.clock ∧ 3 ≤ r.asksSent
        ∧ { r with asksSent := 2 }.asksSent < 3 ∧ (withPort 31 r).queues[(31 : Port)].length < 8
        ∧ desk.clock < 1001)
      ∧ ((leaving { PortRecord.powerOn with state := .probing, asksSent := 2 } [ask 2, ask 0]).queues[(3 : Port)] = [ask 2, ask 0]
        ∧ (leaving { PortRecord.powerOn with state := .probing, asksSent := 2 } []).profiles[(3 : Port)].expected = .any)
      ∧ (put desk.profiles 31 { Profile.plain with expected := .only .booth })[(31 : Port)].expected = .only .booth
      ∧ StationClass.booth ≠ StationClass.desk
      ∧ (desk.ports[(0 : Port)].state ≠ .probing ∧ (0 : Octet).toNat = 0 ∧ classOf 200 = none ∧ 4 < (5 : Octet).toNat) := by
  decide +kernel

/-- R161, R176: in PROBING a message of kind 0xF1 and six octets is the IDENT reply; one octet more, or another kind, is
nothing. -/
theorem test_identReplyByItsOctets :
    let s := withPort 31 { PortRecord.powerOn with state := .probing, asksSent := 1 }
    (s.completeMessage 31 0xF1 1 [1, 4, 0, 0, 0, 7] noKeys).ports[(31 : Port)].ident =
        some { cls := .desk, keyCount := 4, serial := 7 }
      ∧ s.completeMessage 31 0xF1 1 [1, 4, 0, 0, 0, 7, 0] noKeys = s ∧ s.completeMessage 31 0x12 1 [] noKeys = s
      ∧ (withPort 31 (station .fault)).ports[(31 : Port)].state = .fault := by decide +kernel

theorem test_hypotheses_counterSteps :
    (desk.counter .m1).state = .counting
      ∧ stepOf (desk.counter .m1).mode (desk.counter .m1).ref true false (Config.bothRise desk.fresh) = some true
      ∧ stepOf (desk.counter .m1).mode (desk.counter .m1).ref false true (Config.bothRise desk.fresh) = some false
      ∧ stepOf (desk.counter .m1).mode (desk.counter .m1).ref true true (Config.bothRise desk.fresh) = none
      ∧ inRange (stepValue 999998 true) = true ∧ (desk.counter .m1).comparison ≠ .running
      ∧ ((withCounter (running 0)).counter .m1).comparison = .running
      ∧ (desk.counter .m1).ref = desk.pin .m1
      ∧ ((withCounter { Counter.powerOn with value := 999999 }).counter .m1).value = 999999
      ∧ ((withCounter { Counter.powerOn with value := -999999 }).counter .m1).value = -999999
      ∧ ((withCounter { Counter.powerOn with state := .overrange }).counter .m1).state = .overrange := by decide +kernel

/-- R77: A and B rising together in UP_DOWN draw one free value, whatever it is, and the reference follows (log 21). -/
theorem test_doubleRiseDrawsAFreeValue :
    let s := withCounter { Counter.powerOn with mode := .upDown }
    s.freshAfter .m1 true true = 1 ∧ s.freshAfter .m1 true false = 0
      ∧ stepOf (s.counter .m1).mode (s.counter .m1).ref true true (Config.bothRise s.fresh) = Config.bothRise s.fresh := by
  refine ⟨?_, ?_, rfl⟩ <;> decide +kernel

theorem test_hypotheses_matching :
    let e : PositionEntry := { valid := true, target := 5, direction := .up, slot := 12, action := .standby }
    let s := matching 5 e
    ((s.counter .m1).comparison = .running ∧ (s.positionList .m1)[(s.counter .m1).index]? = some e ∧ e.valid = true
        ∧ e.target = (s.counter .m1).value ∧ (s.counter .m1).index + 1 = s.listLength .m1 ∧ s.standbyRefusal e.slot = none)
      ∧ { s with swapPending := true }.standbyRefusal e.slot = some .swapPending
      ∧ { s with active := [record 12 .ready] }.goTarget 12 = .ok (record 12 .ready)
      ∧ s.goTarget 12 = .error .notStoodBy
      ∧ e.target ≠ ((matching 6 e).counter .m1).value := by decide +kernel

theorem test_hypotheses_indexPulse :
    (desk.counter .m1).ref.z = false ∧ (desk.counter .m1).arm = false
      ∧ ((withCounter { Counter.powerOn with arm := true }).counter .m1).arm = true
      ∧ ((withCounter { Counter.powerOn with ref := ⟨false, false, true⟩ }).counter .m1).ref.z = true
      ∧ State.reset.loader = .loading := by decide +kernel

/-- R81, R83: with Z high already, and while the loader runs, an armed counter takes no index pulse (logs 2, 36). -/
theorem test_noIndexPulse :
    let armed : Counter := { Counter.powerOn with value := 5, arm := true }
    ((after (.indexPulse .m1) (withCounter { armed with ref := ⟨false, false, true⟩ })).counter .m1).value = 5
      ∧ ((after (.indexPulse .m1) { withCounter armed with loader := .loading }).counter .m1) = armed
      ∧ ((after (.indexPulse .m1) (withCounter armed)).counter .m1).value = 0 := by decide +kernel

theorem test_hypotheses_counterControl :
    (inRange 999999 = true ∧ inRange (-999999) = true ∧ inRange 1000000 = false ∧ inRange (-1000000) = false)
      ∧ MaySend (withCounter (running 0)) 0 .write
      ∧ (desk.counter .m1).index = desk.listLength .m1
      ∧ ((matching 0 { PositionEntry.cleared with valid := true }).counter .m1).index
        < (matching 0 { PositionEntry.cleared with valid := true }).listLength .m1
      ∧ ((withCounter (running 0)).counter .m1).comparison = .running
      ∧ (desk.listLength .m1 < 1 ∧ 0 ≤ desk.listLength .m1) := by
  refine ⟨by decide, ⟨by decide, by decide, by decide⟩, ?_⟩
  decide +kernel

theorem test_hypotheses_cueTests :
    (MaySend show_ 0 .cue ∧ MaySend (standing [record 12 .standby]) 0 .cue)
      ∧ ((show_.liveTables.cues[(14 : CueSlot)]).valid = false ∧ (show_.liveTables.cues[(12 : CueSlot)]).valid = true)
      ∧ (standing ((List.range 8).map fun n => record (Fin.ofNat 256 (n + 20)) .standby)).active.length = 8
      ∧ (∀ q : Port, ({ show_ with
          bankA := { tables with groups := BankTables.cleared.groups } }.resolve (tables.cues[(12 : CueSlot)])).mem q = false)
      ∧ (show_.liveTables.cues[(12 : CueSlot)]).goPolicy = .readyOnly
      ∧ (show_.liveTables.cues[(13 : CueSlot)]).goPolicy = .anyState
      ∧ (let s := linked none (some 0) [record 12 .ready];
        (s.liveTables.cues[(12 : CueSlot)]).interlock = some 0 ∧ s.liveTables.zones[(0 : ZoneNo)].valid = true
          ∧ s.occupied[(0 : ZoneNo)] = true) := by
  refine ⟨⟨⟨by decide, by decide, by decide⟩, ⟨by decide, by decide, by decide⟩⟩, ?_⟩
  decide +kernel

theorem test_hypotheses_standbyGo :
    show_.standbyRefusal 12 = none ∧ show_.goTarget 12 = .error .notStoodBy
      ∧ (standing [record 12 .ready]).goTarget 12 = .ok (record 12 .ready)
      ∧ (standing [record 13 .standby]).goTarget 13 = .ok (record 13 .standby)
      ∧ ((standing [record 12 .ready]).liveTables.cues[(12 : CueSlot)]).successor = none := by decide +kernel

theorem test_hypotheses_links :
    (CueListSound (linked (some (.standbyNext 13)) none [record 12 .ready])
        ∧ CueListSound (linked (some (.autofollow 13 1)) none [record 12 .ready, record 13 .held]))
      ∧ (let s := linked (some (.standbyNext 13)) none [record 12 .ready];
        s.goTarget 12 = .ok (record 12 .ready) ∧ s.standbyRefusal 13 = none
          ∧ (s.liveTables.cues[(12 : CueSlot)]).successor = some (.standbyNext 13))
      ∧ (let s := linked (some (.autofollow 13 1)) none [record 12 .ready];
        s.standbyRefusal 13 = none ∧ s.findCue 13 = none
          ∧ (s.liveTables.cues[(12 : CueSlot)]).successor = some (.autofollow 13 1))
      ∧ (linked (some (.autofollow 13 1)) none [record 12 .ready, record 13 .held]).findCue 13 = some (record 13 .held)
      ∧ (linked (some (.autofollow 13 1)) none [record 12 .ready, record 13 .going]).findCue 13 = some (record 13 .going)
      ∧ (linked (some (.standbyNext 14)) none [record 12 .ready]).standbyRefusal 14 = some .badCue
      ∧ ((linked (some (.autofollow 14 1)) none [record 12 .ready]).findCue 14 = none
        ∧ (linked (some (.autofollow 14 1)) none [record 12 .ready]).standbyRefusal 14 = some .badCue)
      ∧ (linked (some (.autofollow 13 1)) none [record 12 .ready, record 13 .ready]).findCue 13 = some (record 13 .ready)
      ∧ (let s := linked (some (.autofollow 12 1)) none [record 12 .ready];
        s.goTarget 12 = .ok (record 12 .ready)
          ∧ (s.liveTables.cues[(12 : CueSlot)]).successor = some (.autofollow 12 1)) := by
  refine ⟨⟨?_, ?_⟩, ?_⟩
  · unfold CueListSound; decide +kernel
  · unfold CueListSound; decide +kernel
  · decide +kernel

/-- R42, R50, R51: the reply, then GOING, then the one message of the successor's append stand on the sender's queue, and
TARGET_ABSENT is raised for P5. -/
theorem test_linkHandsOnAfterGoing :
    ∀ x ∈ [Successor.standbyNext 13, .autofollow 13 1],
      let t := after (.go 0 1 12) (linked (some x) none [record 12 .ready])
      (t.queues[(0 : Port)].map fun e =>
          match e.content with
          | .desk (.cue slot _ st _ _ _ _ _ _) _ => some (slot, st)
          | _ => none).take 3 = [none, some (12, .inList .going), some (13, .inList .standby)]
        ∧ t.notices[(5 : NoticeKind)].detail = some (.targetAbsent 13 1) := by decide +kernel

/-- Cue 12 handing over at once to cue 13, of a policy, an interlock zone and an ack policy, with the records given. -/
def handing (go : GoPolicy) (z : Option ZoneNo) (ack : AckPolicy) (l : List ActiveCue) : State :=
  let s := linked (some (.autofollow 13 0)) none l
  { s with
    bankA := { s.bankA with
      cues := put s.bankA.cues 13 { s.bankA.cues[(13 : CueSlot)] with goPolicy := go, interlock := z, ackPolicy := ack } } }

/-- The chain with delay 0: refused, too early, blocked, taken, and to a record that stands or cannot go. -/
theorem test_hypotheses_handing :
    (∀ go ∈ [GoPolicy.anyState, .readyOnly], ∀ z ∈ [none, some (0 : ZoneNo)],
        let s := handing go z .all [record 12 .ready];
        s.goTarget 12 = .ok (record 12 .ready) ∧ (s.liveTables.cues[(12 : CueSlot)]).successor = some (.autofollow 13 0)
          ∧ s.standbyRefusal 13 = none ∧ (s.stoodBy 13 (.follow 12) none).state = .standby
          ∧ s.blocked 13 = z.isSome ∧ (s.liveTables.cues[(13 : CueSlot)]).goPolicy = go
          ∧ (s.liveTables.cues[(13 : CueSlot)]).successor = none)
      ∧ ((handing .readyOnly none .nobody [record 12 .ready]).stoodBy 13 (.follow 12) none).state = .ready
      ∧ (let s := { handing .anyState none .all [record 12 .ready] with swapPending := true };
        s.findCue 13 = none ∧ s.standbyRefusal 13 = some .swapPending ∧ s.goTarget 12 = .ok (record 12 .ready))
      ∧ (let s := handing .anyState none .all [record 12 .ready, record 13 .held];
        s.findCue 13 = some (record 13 .held) ∧ s.goTarget 13 = .error .held ∧ s.goTarget 12 = .ok (record 12 .ready))
      ∧ (let s := handing .anyState none .all [record 12 .ready, record 13 .standby];
        s.goTarget 13 = .ok (record 13 .standby) ∧ s.goTarget 12 = .ok (record 12 .ready)) := by decide +kernel

theorem test_hypotheses_handingSound : CueListSound (handing .anyState none .all [record 12 .ready, record 13 .standby]) := by
  unfold CueListSound
  decide +kernel

/-- R72: GO of cue 12 that stands cue 13 by and sends it in one event tells P0 twice: once of each record, both GOING. -/
theorem test_handingTellsOfEachRecordOnce :
    ((after (.go 0 1 12) (handing .anyState none .all [record 12 .ready])).queues[(0 : Port)].filterMap fun e =>
        match e.content with
        | .desk (.cue slot _ st _ _ _ _ _ _) _ => some (slot, st)
        | _ => none) = [(12, .inList .going), (13, .inList .going)] := by decide +kernel

theorem test_hypotheses_goNext :
    CueListSound (standing [record 13 .standby, record 12 .ready])
      ∧ MaySend (standing [record 13 .standby, record 12 .ready]) 0 .cue
      ∧ (∀ x ∈ [record 13 .standby], x.state ≠ .ready) ∧ (record 12 .ready).state = .ready
      ∧ (standing [record 13 .standby, record 12 .ready]).blocked 12 = false
      ∧ (linked none (some 0) [record 12 .ready]).blocked 12 = true := by
  refine ⟨?_, ⟨by decide, by decide, by decide⟩, ?_⟩
  · unfold CueListSound; decide +kernel
  · decide +kernel

/-- A record held from READY with follow time left. -/
def heldRecord : ActiveCue := { record 12 .held with prior := some .ready, remaining := some 5 }

theorem test_hypotheses_holdRelease :
    ((∀ r ∈ show_.active, r.slot ≠ 12) ∧ (standing [record 12 .standby]).findCue 12 = some (record 12 .standby))
      ∧ (standing [record 12 .going]).findCue 12 = some (record 12 .going)
      ∧ ((standing [heldRecord]).findCue 12 = some heldRecord ∧ heldRecord.state = .held ∧ heldRecord.prior = some .ready) := by
  decide +kernel

theorem test_hypotheses_allForms :
    CueListSound (standing [record 13 .going, heldRecord])
      ∧ ((standing [record 12 .going]).active ≠ [] ∧ ∀ r ∈ (standing [record 12 .going]).active, r.state = .going)
      ∧ ((∀ r ∈ (standing [record 13 .going, heldRecord]).active, r.state = .going ∨ r.state = .held)
        ∧ ∃ r ∈ (standing [record 13 .going, heldRecord]).active, r.state = .held)
      ∧ (∃ r ∈ (standing [record 12 .ready]).active, r.state = .standby ∨ r.state = .ready)
      ∧ (∀ r ∈ (standing [record 12 .ready]).active, r.state ≠ .held)
      ∧ (standing [record 12 .ready]).swapPending = false
      ∧ (let s := { standing [record 13 .going, heldRecord] with swapPending := true };
        (∃ r ∈ s.active, r.state ≠ .going) ∧ ∃ r ∈ s.active, r.state = .going) := by
  refine ⟨?_, ?_⟩
  · unfold CueListSound; decide +kernel
  · decide +kernel

theorem test_hypotheses_removal :
    let going : ActiveCue := { record 12 .going with goDisplay := some 1000 }
    CueListSound (standing [going])
      ∧ MaySend (standing [going]) 0 .cue
      ∧ (standing [going]).findCue 12 = some going ∧ (standing [going]).swapPending = false
      ∧ going.goDisplay = some 1000 ∧ (1000 : Time) ≤ (standing [going]).clock ∧ (standing [going]).clock < 1001
      ∧ (standing [record 12 .standby]).findCue 12 = some (record 12 .standby)
      ∧ { standing [going] with swapPending := true }.active = [going]
      ∧ ∀ r ∈ (standing [going]).active, r.slot ≠ 13 := by
  refine ⟨?_, ⟨by decide, by decide, by decide⟩, ?_⟩
  · unfold CueListSound; decide +kernel
  · decide +kernel

theorem test_hypotheses_cueDeadlines :
    let late (r : ActiveCue) : ActiveCue := { r with ackDeadline := some 1000, followDeadline := some 1000 }
    CueListSound (standing [late (record 12 .ready)])
      ∧ (standing [late (record 12 .standby)]).findCue 12 = some (late (record 12 .standby))
      ∧ (standing [late heldRecord]).findCue 12 = some (late heldRecord)
      ∧ (standing [late (record 12 .ready)]).goTarget 12 = .ok (late (record 12 .ready))
      ∧ (standing [late (record 12 .standby)]).goTarget 12 = .error .notReady
      ∧ (1000 : Time) ≤ desk.clock ∧ desk.clock < 1001 := by
  refine ⟨?_, ?_⟩
  · unfold CueListSound; decide +kernel
  · decide +kernel

theorem test_hypotheses_cueKey :
    CueListSound (standing [record 12 .standby])
      ∧ (standing [record 12 .standby]).policyMet (record 12 .standby) = false
      ∧ (show_.liveTables.cues[(12 : CueSlot)]).ackPolicy = .all
      ∧ (put tables.cues 12 { CueRecord.cleared with ackPolicy := .any })[(12 : CueSlot)].ackPolicy = .any
      ∧ (put tables.cues 12 { CueRecord.cleared with ackPolicy := .nobody })[(12 : CueSlot)].ackPolicy = .nobody
      ∧ show_.present 3 = true ∧ show_.present 5 = false := by
  refine ⟨?_, ?_⟩
  · unfold CueListSound; decide +kernel
  · decide +kernel

/-- Each contribution of R65 to R67 to P3's lamp, alone and below those that stand above it. -/
theorem test_hypotheses_cueLamp :
    let late : ActiveCue := { record 14 .standby with overdue := true }
    let acked : ActiveCue := { record 15 .ready with awaited := ⟨0x10⟩, acked := ⟨0x08⟩ }
    let lamp (l : List ActiveCue) : CueLamp := (standing l).cueLamp 3
    let danger : State :=
      { show_ with
        bankA := { tables with
          zones := put tables.zones 0 { Zone.cleared with valid := true, group := some 0, warn := true } }
        occupied := put show_.occupied 0 true }
    lamp [] = .dark ∧ lamp [acked] = .standbySteady ∧ lamp [acked, record 12 .ready] = .standbyFlash
      ∧ lamp [acked, record 12 .ready, record 13 .held] = .hold
      ∧ lamp [acked, record 12 .ready, record 13 .held, late] = .warn ∧ danger.cueLamp 3 = .warn
      ∧ lamp [acked, record 12 .ready, record 13 .held, late, record 16 .going] = .go
      ∧ (standing [record 16 .going]).cueLamp 5 = .dark := by decide +kernel

/-- A record that has been recorded and not built. -/
def unbuilt : NoticeRecord := { pending := true, count := 1, detail := none, sent := false }

theorem test_hypotheses_notices :
    let waiting : State :=
      { desk with notices := put desk.notices 17 { pending := true, count := 255, detail := none, sent := false } }
    (GatesPass waiting 17 ∧ ∀ j, waiting.deliverable j = true → j = 17)
      ∧ (waiting.deliverable 17 = true ∧ waiting.firstToBuild 17 = true ∧ desk.deliverable 17 = false)
      ∧ (desk.noticeControl.hold = false ∧ desk.present desk.noticeControl.lanes[(0 : Lane)].dest = true) := by
  refine ⟨⟨⟨by decide, by decide, by decide, by decide, by decide, by decide, by decide⟩, ?_⟩, ?_⟩ <;> decide +kernel

/-- R181, R191: a free entry goes to the notices that wait for it before one that is raised, or an OPEN tests, afterwards. -/
theorem test_freedEntryGoesFirstToThoseThatWait :
    let s (n : Nat) : State :=
      { withQueue 0 (List.replicate n (ask 0)) with notices := put (put desk.notices 17 unbuilt) 5 unbuilt }
    let kinds (t : State) : List NoticeKind := t.queues[(0 : Port)].filterMap fun e =>
      match e.content with
      | .notice b => some b.kind
      | _ => none
    kinds ((s 7).raise (.portUp 3 .desk 4)) = [5] ∧ kinds ((s 6).raise (.portUp 3 .desk 4)) = [5, 17]
      ∧ kinds ((s 5).raise (.portUp 3 .desk 4)) = [5, 17, 0]
      ∧ ((s 6).raise (.portUp 3 .desk 4)).notices[(0 : NoticeKind)].pending = true
      ∧ (let onL1 : State :=
          { s 5 with noticeControl := { desk.noticeControl with
              kinds := put desk.noticeControl.kinds 5 { enable := true, lane := 1 } } };
        kinds (after (.noticeOpen 0 1 (some 1)) onL1) = [17, 5]) := by decide +kernel

/-- R181, R186: the last octet frees an entry and builds nothing; the request that comes first takes the entry and the
notice waits, and with no request NOTICE_BUILD takes it. -/
theorem test_freedEntryGoesToTheFirstThatComes :
    let s : State :=
      { withQueue 0 (ask 3 :: List.replicate 7 (ask 0)) with
        notices := put desk.notices 17 { pending := true, count := 1, detail := none, sent := false } }
    let freed := after (.downstreamFrame 0) s
    freed.queues[(0 : Port)] = List.replicate 7 (ask 0) ∧ freed.notices[(17 : NoticeKind)].pending = true
      ∧ (let t := after (.goNext 0 1) freed;
        t.queues[(0 : Port)] = List.replicate 7 (ask 0) ++ [replyOf 0x92 1 .nothingReady .nothing]
          ∧ after (.noticeBuild 17) t = t)
      ∧ (after (.noticeBuild 17) freed).notices[(17 : NoticeKind)].pending = false := by decide +kernel

theorem test_hypotheses_deskCopy :
    let full (x : TxEntry) := withQueue 0 (ask 0 :: x :: List.replicate 6 (ask 0))
    (desk.present 0 = true ∧ desk.profiles[(0 : Port)].rights.cue = true ∧ desk.present 5 = false
        ∧ desk.profiles[(3 : Port)].rights.cue = false)
      ∧ desk.queues[(0 : Port)].length < 8 ∧ 8 ≤ (full (deskEntry 0)).queues[(0 : Port)].length
      ∧ (deskEntry 0).isWaitingDesk = true ∧ (∀ x ∈ [ask 0], x.isWaitingDesk = false)
      ∧ ∀ x ∈ (full (deskEntry 1)).queues[(0 : Port)], x.isWaitingDesk = false := by decide +kernel

theorem test_hypotheses_acceptance :
    desk.present 0 = true ∧ kindRight 0x16 = none ∧ (0x16 : Octet) ≠ 0xF1
      ∧ (withQueue 0 (List.replicate 7 (ask 0))).queues[(0 : Port)].length < 8
      ∧ 8 ≤ (withQueue 0 (List.replicate 8 (ask 0))).queues[(0 : Port)].length
      ∧ hasRight desk.profiles[(3 : Port)].rights .read = false
      ∧ (desk.present 31 = false ∧ desk.ports[(31 : Port)].state ≠ .probing)
      ∧ kindRight 0x31 = some .write ∧ hasRight desk.profiles[(0 : Port)].rights .write = true
      ∧ requestOf (.unnamedSubjectOrCommand 0 1 (.counter (some .m1))) = some (0, 1, 0x40, .unnamed (.counter (some .m1)))
      ∧ (requestOf (.badTable 0 1 true 9) = some (0, 1, 0x21, .badTable true) ∧ requestOf (.badTable 0 1 true 8) = none) := by
  decide +kernel

/-- R177: complete messages, step by step: no room, no request kind, no right, and a payload of the wrong length. -/
theorem test_completeMessageInOrder :
    let full := withQueue 0 (List.replicate 8 (ask 0))
    let sends (p : Port) (kind : Octet) (l : List Octet) : List TxContent :=
      (desk.completeMessage p kind 7 l noKeys).queues[p].map TxEntry.content
    (full.completeMessage 0 0x16 7 [] noKeys).notices[(4 : NoticeKind)].detail = some (.requestDropped 0 0x16 7)
      ∧ sends 0 0x16 [] = [.reply 0xFE 7 .unknown (.unknownKind 0x16)]
      ∧ sends 3 0x31 [1] = [.reply 0xB1 7 .denied .nothing]
      ∧ sends 0 0x11 [5, 5] = [.reply 0x91 7 .badValue .nothing]
      ∧ sends 0 0x31 [1] = [.reply 0xB1 7 .badValue .nothing]
      ∧ sends 0 0x15 [5, 5] = [.reply 0x95 7 .badValue .nothing]
      ∧ sends 0 0x15 [5] = [.reply 0x95 7 .notStoodBy .nothing] := by decide +kernel

theorem test_hypotheses_talk :
    let two := { ChannelEntry.default with maxTalkers := 2 }
    let full : ChannelTalk := { talkers := [talker 5 1 true, talker 6 2 false], waiters := [], idle := some 1000 }
    (talking two { full with talkers := [talker 5 1 true] }).talk[(2 : Chan)].talkers.length < 2
      ∧ (talking two full).channels[(2 : Chan)].maxTalkers ≤ (talking two full).talk[(2 : Chan)].talkers.length
      ∧ (talking two full).channels[(2 : Chan)].preemption = true
      ∧ (full.talkers = [] ++ talker 5 1 true :: [talker 6 2 false] ∧ (talker 5 1 true).priority < (talker 7 2 false).priority
        ∧ ∀ x ∈ [talker 6 2 false], (talker 5 1 true).priority < x.priority ∧ x.port ≠ 5)
      ∧ (∀ x ∈ full.talkers, (talker 7 1 false).priority ≤ x.priority)
      ∧ (List.replicate 8 (talker 5 1 true)).length = 8
      ∧ (full.idle = some 1000 ∧ (1000 : Time) ≤ desk.clock)
      ∧ 0 < full.talkers.countP (·.latched) + full.waiters.countP (·.latched)
      ∧ ChannelTalk.powerOn.talkers.countP (·.latched) = 0 := by decide +kernel

/-- R125, R135: a victim that finds the wait queue full is denied for 1,000 ms, and the requester's own period ends. -/
theorem test_victimOfAFullQueueIsDenied :
    let s : State :=
      { talking { ChannelEntry.default with maxTalkers := 1, preemption := true }
          { talkers := [talker 5 1 true], waiters := List.replicate 8 (talker 6 2 true), idle := none } with
        denied := put desk.denied 7 (put (Vector.replicate 4 none) 0 (some 1500)) }
    let t := s.requestTalk 2 (talker 7 2 false)
    t.talk[(2 : Chan)].talkers = [talker 7 2 false] ∧ t.talk[(2 : Chan)].waiters = s.talk[(2 : Chan)].waiters
      ∧ t.denied[(5 : Port)][(0 : KeySlot)] = some 9000 ∧ t.denied[(7 : Port)][(0 : KeySlot)] = none
      ∧ t.notices[(13 : NoticeKind)].detail = some (.talkPreempted 2 5 (.priority 7) .dropped) := by decide +kernel

/-- P0's K1 on C3 under a key action, with the lists of C3. -/
def keyed (a : KeyAction) (talkers waiters : List TalkEntry) : State :=
  { talking { ChannelEntry.default with maxTalkers := 1 } { talkers := talkers, waiters := waiters, idle := none } with
    profiles := put desk.profiles 0 { Profile.plain with
      slots := put SlotConfig.defaults 0 { channel := some 2, mode := .talkListen, action := a, callAllowed := true } } }

/-- P0's entry of a press at a time. -/
def pressedAt (d : Option Time) : TalkEntry := { talker 0 1 false with pressTime := d }

theorem test_hypotheses_talkKeys :
    (∀ a ∈ [KeyAction.momentary, .latching, .auto],
        let s := keyed a [] [];
        s.inert 0 0 = false ∧ s.profiles[(0 : Port)].slots[(0 : KeySlot)].channel = some 2
          ∧ s.profiles[(0 : Port)].slots[(0 : KeySlot)].mode ≠ .listen
          ∧ s.profiles[(0 : Port)].slots[(0 : KeySlot)].action = a)
      ∧ (∀ e ∈ [talker 5 1 true], e.port ≠ 0) ∧ (∃ e ∈ [pressedAt none], e.port = 0)
      ∧ ([pressedAt (some 0)] ++ [talker 5 1 true] = [] ++ pressedAt (some 0) :: [talker 5 1 true])
      ∧ (desk.router.threshold = 400 ∧ 3300 - 101 < 8 * 400 ∧ 8 * 400 ≤ 3300 - 100)
      ∧ desk.profiles[(0 : Port)].slots[(1 : KeySlot)].channel = none := by decide +kernel

/-- A release grants the head; a tap of an AUTO key latches, a longer press releases (R126, R130). -/
theorem test_talkKeys :
    let held (d : Time) : State := { keyed .auto [pressedAt (some d)] [talker 5 1 true] with clock := 3300 }
    ((keyed .momentary [talker 0 1 false] [talker 5 1 true]).talkRelease 0 0).talk[(2 : Chan)].talkers = [talker 5 1 true]
      ∧ ((held 101).talkRelease 0 0).talk[(2 : Chan)].talkers = [talker 0 1 true]
      ∧ ((held 100).talkRelease 0 0).talk[(2 : Chan)].talkers = [talker 5 1 true]
      ∧ ((keyed .latching [] []).talkPress 0 0).talk[(2 : Chan)].talkers = [talker 0 1 true]
      ∧ ((keyed .auto [] []).talkPress 0 0).talk[(2 : Chan)].talkers = [pressedAt (some 1000)] := by decide +kernel

theorem test_hypotheses_calls :
    let slot := desk.profiles[(0 : Port)].slots[(0 : KeySlot)]
    (desk.inert 0 0 = false ∧ slot.callAllowed = true ∧ slot.channel = some 0
        ∧ desk.calls[(0 : Port)][(0 : KeySlot)].holdoff = none)
      ∧ desk.profiles[(0 : Port)].slots[(1 : KeySlot)].channel = none
      ∧ (let s := { desk with calls := put desk.calls 0 (put desk.calls[(0 : Port)] 3
            { flash := some { caller := 31, deadline := 1000 }, holdoff := some 1000 }) };
        s.calls[(0 : Port)][(3 : KeySlot)].flash = some { caller := 31, deadline := 1000 }
          ∧ s.calls[(0 : Port)][(3 : KeySlot)].holdoff = some 1000) := by decide +kernel

/-- A cue write at the ends of its ranges. -/
def cueWrite : CueWrite :=
  { valid := some true, label := [32, 126, 65, 65, 65, 65, 65, 65], groups := [1, 24, 2, 3], ackPolicy := some .all
    ackTimeout := 60000, goPolicy := some .anyState, cueChannel := some 16, interlock := some 6, goDisplay := 5000
    successor := some { kind := some .autofollow, slot := 255, delay := some 600000 } }

/-- A profile write, with or without the rights, that keeps or changes enabled. -/
def profileWrite (enabled write : Bool) : ProfileWrite :=
  { Profile.ofP0.toWrite with enabled := some enabled, rights := some ⟨true, true, write⟩ }

theorem test_hypotheses_writes :
    ((checkCue 254 cueWrite).isSome = true ∧ checkCue 255 cueWrite = none
        ∧ checkCue 0 { cueWrite with goDisplay := 5001 } = none ∧ checkCue 0 { cueWrite with ackTimeout := 499 } = none
        ∧ checkCue 0 { cueWrite with valid := some false } = some CueRecord.cleared)
      ∧ ((checkGroup { valid := some true, ports := ⟨1⟩ }).isSome = true ∧ checkGroup { valid := none, ports := ⟨1⟩ } = none)
      ∧ ((checkPosition { valid := some true, target := 999999, direction := some .up, slot := 255, action := some .go }).isSome
          = true
        ∧ checkPosition { valid := some true, target := 1000000, direction := some .up, slot := 0, action := some .go } = none)
      ∧ ((checkZone { valid := some true, counter := some .m2, lower := 5, upper := 5, group := some 24, warn := some true }).isSome
          = true
        ∧ checkZone { valid := some true, counter := some .m2, lower := 6, upper := 5, group := none, warn := some true } = none)
      ∧ ((checkChannel { maxTalkers := 4, level := 16, preemption := some true, idleRelease := 10, callDisplay := 500 }).isSome
          = true
        ∧ checkChannel { maxTalkers := 0, level := 16, preemption := some true, idleRelease := 0, callDisplay := 500 } = none)
      ∧ ((checkRouter { threshold := 150, holdoff := 0 }).isSome = true ∧ checkRouter { threshold := 149, holdoff := 0 } = none)
      ∧ (noticePlace 0 = some .global ∧ writeNoticeEntry desk.noticeControl .global (.global none) = none
        ∧ (writeNoticeEntry desk.noticeControl .global (.global (some true))).isSome = true) := by decide +kernel

theorem test_hypotheses_channelWrites :
    (let s := talking ChannelEntry.default { talkers := [talker 5 1 true, talker 6 2 false], waiters := [], idle := none };
      1 ≠ s.channels[(2 : Chan)].maxTalkers ∧ 1 < s.talk[(2 : Chan)].talkers.length
        ∧ 3 ≠ s.channels[(2 : Chan)].maxTalkers ∧ s.talk[(2 : Chan)].talkers.length ≤ 3)
      ∧ (let s := talking { ChannelEntry.default with maxTalkers := 3 }
          { talkers := [talker 5 1 true, talker 6 2 false, talker 7 1 true]
            waiters := [talker 8 3 true, talker 9 2 true, talker 10 2 true, talker 11 1 true, talker 12 1 true, talker 13 0 true,
              talker 14 0 true]
            idle := none };
        1 ≠ s.channels[(2 : Chan)].maxTalkers ∧ 1 < s.talk[(2 : Chan)].talkers.length
          ∧ s.talk[(2 : Chan)].waiters.Pairwise (fun x y => y.priority ≤ x.priority)
          ∧ ((s.talk[(2 : Chan)].talkers ++ s.talk[(2 : Chan)].waiters).map TalkEntry.port).Nodup
          ∧ (s.talk[(2 : Chan)].talkers.drop 1).drop (8 - s.talk[(2 : Chan)].waiters.length) = [talker 7 1 true])
      ∧ (noticePlace 22 = some (.lane 3) ∧ noticePlace 23 = none
        ∧ (writeNoticeEntry desk.noticeControl (.lane 3) (.lane 31 (some true) (some .autoClear))).isSome = true
        ∧ writeNoticeEntry desk.noticeControl (.lane 3) (.lane 32 (some true) (some .autoClear)) = none) := by decide +kernel

theorem test_hypotheses_profileWrite :
    (checkProfile (profileWrite true true)).isSome = true ∧ checkProfile { profileWrite true true with priority := 4 } = none
      ∧ (match checkProfile (profileWrite true false) with
        | some f => (decide (∀ q : Port, (put desk.profiles 0 f)[q].rights.write = false))
        | none => false) = true
      ∧ (match checkProfile (profileWrite false true) with
        | some f => (decide (∃ q : Port, (put desk.profiles 31 f)[q].rights.write = true)) && !f.enabled
        | none => false) = true
      ∧ desk.profiles[(31 : Port)].enabled = true ∧ desk.ports[(31 : Port)].state = .down
      ∧ ((withPort 31 (station .probing)).ports[(31 : Port)].state = .probing
        ∧ (withPort 31 (station .fault)).ports[(31 : Port)].state = .fault)
      ∧ (desk.present 3 = true ∧ desk.restartBy ≠ some 3 ∧ { desk with restartBy := some 3 }.restartBy = some 3
        ∧ desk.loader ≠ .loading ∧ desk.profiles[(3 : Port)].enabled = true)
      ∧ (∀ r ∈ [PortRecord.powerOn, { PortRecord.powerOn with state := .disabled },
          { station .up with deferred := some .disable }],
        let s := { withPort 3 r with
          profiles := put desk.profiles 3 { desk.profiles[(3 : Port)] with enabled := false } };
        MaySend s 0 .write ∧ s.profiles[(3 : Port)].enabled = false ∧ s.ports[(3 : Port)] = r) := by
  unfold MaySend
  decide +kernel

/-- R118, R135, R144: a slot moved off its channel gives up its entry to the head, its DENIED period, its flash and its
holdoff; a slot that only loses call allowed keeps its entry and its flash. -/
theorem test_profileWriteMovesASlot :
    let s : State :=
      { keyed .momentary [talker 0 1 false] [talker 5 1 true] with
        denied := put desk.denied 0 (put (Vector.replicate 4 none) 0 (some 1500))
        calls := put desk.calls 0 (put desk.calls[(0 : Port)] 0
          { flash := some { caller := 3, deadline := 2000 }, holdoff := some 1200 }) }
    let written (c : Nat) (call : Bool) : State :=
      after
        (.writeProfile 0 1 0
          { s.profiles[(0 : Port)].toWrite with
            rights := some ⟨true, true, true⟩
            slots := put s.profiles[(0 : Port)].toWrite.slots 0
              { channel := some c, mode := some .talkListen, action := some .momentary, callAllowed := some call } })
        { s with profiles := put s.profiles 0 { s.profiles[(0 : Port)] with rights := ⟨true, true, true⟩ } }
    ((written 4 true).talk[(2 : Chan)].talkers = [talker 5 1 true] ∧ (written 4 true).denied[(0 : Port)][(0 : KeySlot)] = none
        ∧ (written 4 true).calls[(0 : Port)][(0 : KeySlot)] = CallRecord.cleared)
      ∧ (written 3 false).talk[(2 : Chan)].talkers = [talker 0 1 false]
      ∧ (written 3 false).denied[(0 : Port)][(0 : KeySlot)] = some 1500
      ∧ (written 3 false).calls[(0 : Port)][(0 : KeySlot)] =
        { flash := some { caller := 3, deadline := 2000 }, holdoff := none } := by decide +kernel

theorem test_hypotheses_banks :
    (MaySend desk 0 .write ∧ MaySend { standing [record 12 .standby] with swapPending := true } 0 .write
        ∧ MaySend { standing [record 12 .standby] with swapPending := true } 0 .cue)
      ∧ (desk.swapPending = false ∧ desk.active = [])
      ∧ ((standing [record 12 .standby]).active ≠ [] ∧ (standing [record 12 .standby]).swapPending = false) :=
  ⟨⟨desk_maySend _, ⟨by decide, by decide, by decide⟩, ⟨by decide, by decide, by decide⟩⟩, ⟨rfl, rfl⟩, by decide, rfl⟩

/-- A pending swap that the removal of the last record, by each of the three ways, would complete. -/
theorem test_hypotheses_drain :
    let going : ActiveCue := { record 12 .going with goDisplay := some 1000 }
    let s (l : List ActiveCue) : State := { standing l with swapPending := true }
    ((s [going]).active = [going] ∧ going.slot = 12 ∧ (1000 : Time) ≤ (s [going]).clock ∧ (s [going]).swapPending = true)
      ∧ ((s [record 12 .ready]).active = [record 12 .ready] ∧ (record 12 .ready).state ≠ .going)
      ∧ ((s [record 12 .ready, heldRecord]).active ≠ [] ∧ ∀ r ∈ (s [record 12 .ready, heldRecord]).active, r.state ≠ .going)
      ∧ ∀ c ∈ [(after (.goDisplayExpiry 12) (s [going])), after (.cancel 0 1 12) (s [record 12 .ready]),
          after (.cancelAll 0 1) (s [record 13 .ready, heldRecord])], c.live = .b ∧ c.swapPending = false := by decide +kernel

theorem test_hypotheses_portControl :
    (withPort 31 { PortRecord.powerOn with state := .disabled }).ports[(31 : Port)].state = .disabled
      ∧ (withPort 31 (station .quiet)).ports[(31 : Port)].state = .quiet
      ∧ desk.ports[(3 : Port)].state = .up
      ∧ (desk.ports[(31 : Port)].state ≠ .up ∧ desk.ports[(31 : Port)].state ≠ .quiet)
      ∧ (desk.present 3 = true ∧ desk.restartBy ≠ some 3)
      ∧ ({ desk with restartBy := some 3 }.present 3 = true ∧ { desk with restartBy := some 3 }.restartBy = some 3
        ∧ desk.loader ≠ .loading)
      ∧ (desk.ports[(31 : Port)].state = .down ∧ (withPort 31 (station .probing)).ports[(31 : Port)].state = .probing
        ∧ (withPort 31 (station .fault)).ports[(31 : Port)].state = .fault
        ∧ (31 : Nat) < 32)
      ∧ (∀ d ∈ [none, some Deferred.disable, some .restart],
        let s := withPort 0 { station .up with deferred := d };
        MaySend s 0 .write ∧ s.ports[(0 : Port)].deferred = d) := by
  unfold MaySend
  decide +kernel

theorem test_hypotheses_noticeControl :
    desk.noticeControl.hold = false ∧ { desk.noticeControl with hold := true }.hold = true
      ∧ desk.noticeControl.lanes[(0 : Lane)].isOpen = true ∧ desk.noticeControl.lanes[(3 : Lane)].isOpen = false := by
  decide +kernel

/-- The laws that the invariants assume hold in the state after reset, so each invariant has a state to start from. -/
theorem test_hypotheses_laws :
    (∀ p : Port, State.reset.queues[p].length ≤ 8) ∧ (∃ p : Port, State.reset.profiles[p].rights.write = true)
      ∧ (State.reset.active.length ≤ 8 ∧ State.reset.swapPending = false)
      ∧ (∀ c : Chan, State.reset.talk[c].talkers.length ≤ State.reset.channels[c].maxTalkers) := by decide +kernel

end Sys2Proof.Tests
end

section
/-! SUPPORT. The operands of reads and writes: which numbers name an index, and which index they name (R5, R9, R85, R91,
R189). -/

namespace Sys2Proof.Machine

theorem guarded_eq_some {α : Type} {test : Bool} {x y : α} : guarded test x = some y ↔ test = true ∧ x = y := by
  cases test <;> simp [guarded]

theorem zeroBased_eq_some {k n : Nat} {i : Fin k} : zeroBased k n = some i ↔ i.val = n := by
  unfold zeroBased
  split
  · simp only [Option.some.injEq, Fin.ext_iff, eq_comm]
  · rename_i h
    exact ⟨fun hn => (nomatch hn), fun hn => absurd (hn ▸ i.isLt) h⟩

theorem oneBased_eq_some {k n : Nat} {i : Fin k} : oneBased k n = some i ↔ i.val + 1 = n := by
  unfold oneBased
  split
  · simp only [Option.some.injEq, Fin.ext_iff]
    omega
  · simp only [reduceCtorEq, false_iff]
    omega

@[simp] theorem zeroBased_val {k : Nat} (i : Fin k) : zeroBased k i.val = some i := zeroBased_eq_some.2 rfl

@[simp] theorem oneBased_val {k : Nat} (i : Fin k) : oneBased k (i.val + 1) = some i := oneBased_eq_some.2 rfl

theorem zeroBased_exists {k n : Nat} : (∃ i, zeroBased k n = some i) ↔ n < k := by
  simp only [zeroBased_eq_some]
  exact ⟨fun ⟨i, hi⟩ => hi ▸ i.isLt, fun h => ⟨⟨n, h⟩, rfl⟩⟩

theorem oneBased_exists {k n : Nat} : (∃ i, oneBased k n = some i) ↔ 1 ≤ n ∧ n ≤ k := by
  simp only [oneBased_eq_some]
  exact ⟨fun ⟨i, hi⟩ => by omega, fun h => ⟨⟨n - 1, by omega⟩, by simp only; omega⟩⟩

theorem zeroBased_eq_none {k n : Nat} : zeroBased k n = none ↔ k ≤ n := by
  rw [Option.eq_none_iff_forall_ne_some, ← Nat.not_lt, ← zeroBased_exists, not_exists]

theorem optOneBased_eq_some {k : Nat} {o : Option Nat} {x : Option (Fin k)} :
    optOneBased k o = some x ↔ x.map (fun i => i.val + 1) = o := by
  cases o with
  | none => rw [Option.map_eq_none_iff, optOneBased, Option.some.injEq, eq_comm]
  | some n =>
    simp only [optOneBased, Option.map_eq_some_iff, oneBased_eq_some]
    exact ⟨fun ⟨i, hi, hx⟩ => ⟨i, hx.symm, hi⟩, fun ⟨i, hx, hi⟩ => ⟨i, hi, hx.symm⟩⟩

theorem optOneBased_exists {k : Nat} {o : Option Nat} :
    (∃ x, optOneBased k o = some x) ↔ ∀ n, o = some n → 1 ≤ n ∧ n ≤ k := by
  cases o with
  | none => simp [optOneBased]
  | some n =>
    simp only [optOneBased, Option.map_eq_some_iff, Option.some.injEq, forall_eq']
    rw [← oneBased_exists]
    exact ⟨fun ⟨_, i, hi, _⟩ => ⟨i, hi⟩, fun ⟨i, hi⟩ => ⟨some i, i, hi, rfl⟩⟩

theorem listOneBased_eq_some {k : Nat} : ∀ {l : List Nat} {x : List (Fin k)},
    listOneBased k l = some x ↔ x.map (fun i => i.val + 1) = l
  | [], x => by rw [List.map_eq_nil_iff, listOneBased, Option.some.injEq, eq_comm]
  | n :: l, x => by
    simp only [listOneBased, Option.bind_eq_some_iff, Option.map_eq_some_iff, oneBased_eq_some, listOneBased_eq_some,
      List.map_eq_cons_iff]
    exact ⟨fun ⟨i, hi, y, hy, hx⟩ => ⟨i, y, hx.symm, hi, hy⟩, fun ⟨i, y, hx, hi, hy⟩ => ⟨i, hi, y, hy, hx.symm⟩⟩

theorem listOneBased_exists {k : Nat} : ∀ {l : List Nat},
    (∃ x, listOneBased k l = some x) ↔ ∀ n ∈ l, 1 ≤ n ∧ n ≤ k
  | [] => by simp [listOneBased]
  | n :: l => by
    rw [List.forall_mem_cons, ← oneBased_exists, ← listOneBased_exists]
    simp only [listOneBased, Option.bind_eq_some_iff, Option.map_eq_some_iff]
    exact ⟨fun ⟨_, i, hi, y, hy, _⟩ => ⟨⟨i, hi⟩, y, hy⟩, fun ⟨⟨i, hi⟩, y, hy⟩ => ⟨i :: y, i, hi, y, hy, rfl⟩⟩

theorem listOneBased_length {k : Nat} {l : List Nat} {x : List (Fin k)} (h : listOneBased k l = some x) :
    l.length = x.length := by
  rw [← listOneBased_eq_some.1 h, List.length_map]

theorem listOneBased_nodup {k : Nat} {l : List Nat} {x : List (Fin k)} (h : listOneBased k l = some x) :
    l.Nodup ↔ x.Nodup := by
  rw [← listOneBased_eq_some.1 h]
  exact List.nodup_map_iff fun _ _ hij => Fin.ext (Nat.succ.inj hij)

@[simp] theorem noticePlace_zero : noticePlace 0 = some .global := rfl

@[simp] theorem noticePlace_kind (k : NoticeKind) : noticePlace (k.val + 1) = some (.kind k) := by
  simp [noticePlace, show k.val + 1 ≤ 18 by omega]

@[simp] theorem noticePlace_lane (l : Lane) : noticePlace (l.val + 19) = some (.lane l) := by
  simp [noticePlace, show l.val + 19 ≤ 22 by omega]

end Sys2Proof.Machine
end

section
/-! READ_ENTRY of the eight tables (R7, R9, R85, R91, R102, R114, R119, R164, R189). -/

namespace Sys2Proof.Machine

theorem readEntry_named {ι : Type} (b : BankSel) (i : ι) (entry : BankSel → ι → ReplyData) :
    readEntry (some b) (some i) entry = Answer.with .ok (entry b i) := rfl

/-- R102: the tables that a bank field names. -/
theorem selected_eq (s : State) (b : BankSel) : s.selected b = s.bank (if b = .live then s.live else s.live.other) := by
  cases b <;> rfl

/-- R179: what READ_ENTRY's owner answers OK is the reply, and nothing else changes. -/
theorem read_returns {s : State} {p : Port} (tag : Octet) {cmd : Instr} {r : Request} {f : State → Answer} {d : ReplyData}
    (hs : MaySend s p .read) (hc : requestOf cmd = some (p, tag, 0x20, r)) (ho : owner p r = reading f)
    (hf : f (s.reserve p) = Answer.with .ok d) : exec cmd s = .next (s.replied p (replyOf 0xA0 tag .ok d)) := by
  obtain ⟨hk, he⟩ := exec_requestOf (s := s) hc
  have hr : requestRight r = .read := by rw [requestRight, hk]; rfl
  rw [he, request_refused tag .ok d (hr ▸ hs) (by rw [ho, reading, hf]), hk]
  rfl

/-- Settles O42: each table's owner answers the entry, by its own read. -/
theorem readsReturnTheEntry : Obligations.ReadsReturnTheEntry := by
  intro s p tag b hs
  have hb : (s.reserve p).selected b = s.bank (if b = .live then s.live else s.live.other) := selected_eq _ b
  refine ⟨fun i => ?cue, fun i => ?group, fun i => ?position, fun i => ?zone, fun i => ?profile, fun i => ?channel, ?router,
    ?hold, fun k => ?kind, fun l => ?lane⟩ <;> refine read_returns tag hs rfl rfl ?_
  case cue => rw [readCue, zeroBased_val, readEntry_named, hb]
  case group => rw [readGroup, oneBased_val, readEntry_named, hb]
  case position => rw [readPosition, zeroBased_val, readEntry_named, hb]
  case zone => rw [readZone, oneBased_val, readEntry_named, hb]
  case profile => rw [readProfileRequest, zeroBased_val, readEntry_named]; rfl
  case channel => rw [readChannel, oneBased_val, readEntry_named]; rfl
  case router => rfl
  case hold => rfl
  case kind => rw [readNoticeRequest, noticePlace_kind, readEntry_named]; rfl
  case lane => rw [readNoticeRequest, noticePlace_lane, readEntry_named]; rfl

end Sys2Proof.Machine
end

section
/-! WRITE_ENTRY of the four banked tables (R5, R6, R9, R85, R91, R103). -/

namespace Sys2Proof.Machine

/-- R103: what the replacement of the edit bank leaves: the live bank, and everything but the banks. -/
theorem setEdit_spec (s : State) (x : BankTables) :
    (s.setEdit x).bank s.live.other = x ∧ (s.setEdit x).bank s.live = s.bank s.live
      ∧ s.setEdit x = { s with bankA := (s.setEdit x).bankA, bankB := (s.setEdit x).bankB } := by
  unfold State.setEdit
  cases s.live <;> exact ⟨rfl, rfl, rfl⟩

theorem setEdit_reserve (s : State) (p : Port) (x : BankTables) : (s.reserve p).setEdit x = (s.setEdit x).reserve p := by
  simp only [State.setEdit, reserve_fields]
  cases s.live <;> rfl

/-- R179: a WRITE_ENTRY whose owner's answer waits for nothing is replied to, in the state the owner leaves. -/
theorem write_replied {s : State} {p : Port} (tag : Octet) {cmd : Instr} {r : Request} {u : State} {st : Status}
    (hs : MaySend s p .write) (hc : requestOf cmd = some (p, tag, 0x21, r))
    (ho : owner p r (s.reserve p) = (u.reserve p, Answer.bare st)) :
    exec cmd s = .next (u.replied p (replyOf 0xA1 tag st .nothing)) := by
  obtain ⟨hk, he⟩ := exec_requestOf (s := s) hc
  have hr : requestRight r = .write := by rw [requestRight, hk]; rfl
  rw [he, request_replied tag u st .nothing (hr ▸ hs) ho, hk]
  rfl

/-- R103: a WRITE_ENTRY whose owner replaces the edit bank's tables. -/
theorem write_stores {s : State} {p : Port} (tag : Octet) {cmd : Instr} {r : Request} {x : BankTables}
    (hs : MaySend s p .write) (hc : requestOf cmd = some (p, tag, 0x21, r))
    (ho : owner p r (s.reserve p) = ((s.reserve p).setEdit x, Answer.bare .ok)) :
    ∃ t, exec cmd s = .next t ∧ t.bank s.live.other = x ∧ t.bank s.live = s.bank s.live
      ∧ t = State.replied { s with bankA := t.bankA, bankB := t.bankB } p (replyOf 0xA1 tag .ok .nothing) := by
  rw [setEdit_reserve] at ho
  obtain ⟨hedit, hlive, hrest⟩ := setEdit_spec s x
  exact ⟨_, write_replied tag hs hc ho, hedit, hlive, congrArg (State.replied · p _) hrest⟩

/-- R103: the write of a banked table, whichever it is: `check` is the table's write rule at the entry the index names,
`change` the replacement of that entry in a bank. -/
theorem bankedWrite_spec {s : State} {p : Port} (tag : Octet) {cmd : Instr} {r : Request} {ι α : Type} {index : Option ι}
    {i : ι} {check : ι → Option α} (change : BankTables → ι → α → BankTables) (hs : MaySend s p .write)
    (hc : requestOf cmd = some (p, tag, 0x21, r)) (hi : index = some i)
    (ho : owner p r (s.reserve p) =
      writeEntry index check (fun i x => (s.reserve p).setEdit (change s.editTables i x)) (s.reserve p)) :
    (∀ x, check i = some x → ∃ t, exec cmd s = .next t ∧ t.bank s.live.other = change s.editTables i x
        ∧ t.bank s.live = s.bank s.live
        ∧ t = State.replied { s with bankA := t.bankA, bankB := t.bankB } p (replyOf 0xA1 tag .ok .nothing))
      ∧ (check i = none → exec cmd s = .next (s.replied p (replyOf 0xA1 tag .badValue .nothing))) := by
  subst hi
  refine ⟨fun x hx => write_stores tag hs hc ?_, fun hx => write_replied tag hs hc ?_⟩
  · rw [ho]
    simp only [writeEntry, hx]
  · rw [ho]
    simp only [writeEntry, hx]

/-- Settles O44: each of the four tables writes by its own rule and replacement, and so as `bankedWrite_spec` says. -/
theorem bankedWritesReplaceTheEditEntry : Obligations.BankedWritesReplaceTheEditEntry := by
  intro s p tag hs
  refine ⟨fun i w => ?cue, fun i w => ?group, fun i w => ?position, fun i w => ?zone⟩
  case cue =>
    exact bankedWrite_spec tag (check := fun i => checkCue i w) (fun b i r => { b with cues := put b.cues i r }) hs rfl
      (zeroBased_val i) rfl
  case group =>
    exact bankedWrite_spec tag (check := fun _ => checkGroup w) (fun b i g => { b with groups := put b.groups i g }) hs rfl
      (oneBased_val i) rfl
  case position =>
    exact bankedWrite_spec tag (check := fun _ => checkPosition w)
      (fun b i e => { b with positions := put b.positions i e }) hs rfl (zeroBased_val i) rfl
  case zone =>
    exact bankedWrite_spec tag (check := fun _ => checkZone w) (fun b i z => { b with zones := put b.zones i z }) hs rfl
      (oneBased_val i) rfl

end Sys2Proof.Machine
end

section
/-! SUPPORT. The write rules of the tables (R5, R6, R9, R85, R91, R114, R118, R119, R165, R189): which writes each
accepts, and that an accepted entry, put back into the form of a write, is the write as it came. -/

namespace Sys2Proof.Machine

/-! ### Cue Table -/

theorem checkSuccessor_toWrite {own : CueSlot} : ∀ {o : Option SuccessorWrite} {x : Option Successor},
    checkSuccessor own o = some x → o = x.map Successor.toWrite
  | none, x, h => by
    cases h
    rfl
  | some ⟨kind, slot, delay⟩, x, h => by
    simp only [checkSuccessor, Option.bind_eq_some_iff, zeroBased_eq_some] at h
    obtain ⟨t, rfl, h⟩ := h
    split at h
    · cases h
    · split at h
      · cases h
        rfl
      · obtain ⟨-, rfl⟩ := guarded_eq_some.1 h
        rfl
      · cases h

theorem checkSuccessor_exists {own : CueSlot} {o : Option SuccessorWrite} :
    (∃ x, checkSuccessor own o = some x) ↔ ∀ y, o = some y → y.slot ≤ 255 ∧ y.slot ≠ own.val
      ∧ ((y.kind = some .standbyNext ∧ y.delay = none)
        ∨ (y.kind = some .autofollow ∧ ∃ d, y.delay = some d ∧ d ≤ 600000)) := by
  cases o with
  | none => simp [checkSuccessor]
  | some y =>
    obtain ⟨kind, slot, delay⟩ := y
    simp only [Option.some.injEq, forall_eq']
    constructor
    · rintro ⟨x, h⟩
      simp only [checkSuccessor, Option.bind_eq_some_iff, zeroBased_eq_some] at h
      obtain ⟨t, rfl, h⟩ := h
      split at h
      · cases h
      · rename_i hown
        refine ⟨Nat.le_of_lt_succ t.isLt, fun e => hown (Fin.ext e), ?_⟩
        split at h
        · exact .inl ⟨rfl, rfl⟩
        · exact .inr ⟨rfl, _, rfl, of_decide_eq_true (guarded_eq_some.1 h).1⟩
        · cases h
    · rintro ⟨hslot, hown, h⟩
      have hz : zeroBased 256 slot = some ⟨slot, Nat.lt_succ_of_le hslot⟩ := zeroBased_eq_some.2 rfl
      have hne : (⟨slot, Nat.lt_succ_of_le hslot⟩ : CueSlot) ≠ own := fun e => hown (congrArg Fin.val e)
      simp only [checkSuccessor, hz, Option.bind_some, if_neg hne]
      obtain ⟨rfl, rfl⟩ | ⟨rfl, d, rfl, hd⟩ := h
      · exact ⟨_, rfl⟩
      · exact ⟨_, guarded_eq_some.2 ⟨decide_eq_true hd, rfl⟩⟩

theorem labelOk_iff (l : List Octet) :
    labelOk l = true ↔ 1 ≤ l.length ∧ l.length ≤ 8 ∧ ∀ c ∈ l, 32 ≤ c.toNat ∧ c.toNat ≤ 126 := by
  simp [labelOk, and_assoc]

/-- R2, R6: an accepted valid cue record holds the fields as written. -/
theorem checkCue_toWrite {own : CueSlot} {w : CueWrite} {r : CueRecord} (hv : w.valid = some true)
    (h : checkCue own w = some r) : r.toWrite = w := by
  obtain ⟨valid, label, groups, ackPolicy, ackTimeout, goPolicy, cueChannel, interlock, goDisplay, successor⟩ := w
  obtain rfl : valid = some true := hv
  simp only [checkCue, Option.bind_eq_bind, Option.bind_eq_some_iff, guarded_eq_some, listOneBased_eq_some,
    optOneBased_eq_some] at h
  obtain ⟨g, rfl, a, rfl, p, rfl, c, rfl, z, rfl, x, hx, -, rfl⟩ := h
  rw [checkSuccessor_toWrite hx]
  rfl

/-- R3, R5: the tests of a valid cue record, field by field. -/
theorem checkCue_accepts {own : CueSlot} {w : CueWrite} (hv : w.valid = some true) :
    (checkCue own w).isSome = true ↔
      (1 ≤ w.label.length ∧ w.label.length ≤ 8 ∧ ∀ c ∈ w.label, 32 ≤ c.toNat ∧ c.toNat ≤ 126)
        ∧ (1 ≤ w.groups.length ∧ w.groups.length ≤ 4 ∧ w.groups.Nodup ∧ ∀ g ∈ w.groups, 1 ≤ g ∧ g ≤ 24)
        ∧ w.ackPolicy.isSome = true ∧ w.goPolicy.isSome = true
        ∧ (w.ackTimeout = 0 ∨ (500 ≤ w.ackTimeout ∧ w.ackTimeout ≤ 60000))
        ∧ (∀ n, w.cueChannel = some n → 1 ≤ n ∧ n ≤ 16) ∧ (∀ n, w.interlock = some n → 1 ≤ n ∧ n ≤ 6)
        ∧ (100 ≤ w.goDisplay ∧ w.goDisplay ≤ 5000)
        ∧ ∀ x, w.successor = some x → x.slot ≤ 255 ∧ x.slot ≠ own.val
          ∧ ((x.kind = some .standbyNext ∧ x.delay = none)
            ∨ (x.kind = some .autofollow ∧ ∃ d, x.delay = some d ∧ d ≤ 600000)) := by
  rw [← labelOk_iff, ← listOneBased_exists, ← optOneBased_exists, ← optOneBased_exists, ← checkSuccessor_exists]
  simp only [checkCue, hv, Option.isSome_iff_exists, Option.bind_eq_bind, Option.bind_eq_some_iff, guarded_eq_some,
    Bool.and_eq_true, decide_eq_true_eq, ackTimeoutOk]
  constructor
  · rintro ⟨_, g, hg, a, ha, p, hp, c, hc, z, hz, x, hx, ⟨⟨⟨⟨hlabel, hlen⟩, hnd⟩, htimeout⟩, hdisplay⟩, -⟩
    rw [← listOneBased_length hg] at hlen
    rw [← listOneBased_nodup hg] at hnd
    exact ⟨hlabel, ⟨hlen.1, hlen.2, hnd, g, hg⟩, ⟨a, ha⟩, ⟨p, hp⟩, htimeout, ⟨c, hc⟩, ⟨z, hz⟩, hdisplay, x, hx⟩
  · rintro ⟨hlabel, ⟨hmin, hmax, hnd, g, hg⟩, ⟨a, ha⟩, ⟨p, hp⟩, htimeout, ⟨c, hc⟩, ⟨z, hz⟩, hdisplay, x, hx⟩
    rw [listOneBased_length hg] at hmin hmax
    rw [listOneBased_nodup hg] at hnd
    exact ⟨_, g, hg, a, ha, p, hp, c, hc, z, hz, x, hx, ⟨⟨⟨⟨hlabel, hmin, hmax⟩, hnd⟩, htimeout⟩, hdisplay⟩, rfl⟩

/-! ### Position Cue Lists and Zone Table -/

theorem inRange_iff (v : Int) : inRange v = true ↔ -999999 ≤ v ∧ v ≤ 999999 := decide_eq_true_iff

/-- R85: an accepted valid position entry holds the fields as written. -/
theorem checkPosition_toWrite {w : PositionWrite} {e : PositionEntry} (hv : w.valid = some true)
    (h : checkPosition w = some e) : e.toWrite = w := by
  obtain ⟨valid, target, direction, slot, action⟩ := w
  obtain rfl : valid = some true := hv
  simp only [checkPosition, Option.bind_eq_bind, Option.bind_eq_some_iff, guarded_eq_some, zeroBased_eq_some] at h
  obtain ⟨d, rfl, i, rfl, a, rfl, -, rfl⟩ := h
  rfl

/-- R85: the tests of a valid position entry. -/
theorem checkPosition_accepts {w : PositionWrite} (hv : w.valid = some true) :
    (checkPosition w).isSome = true ↔
      (-999999 ≤ w.target ∧ w.target ≤ 999999) ∧ w.direction.isSome = true ∧ w.action.isSome = true ∧ w.slot ≤ 255 := by
  rw [← inRange_iff, ← Nat.lt_succ_iff, ← zeroBased_exists]
  simp only [checkPosition, hv, Option.isSome_iff_exists, Option.bind_eq_bind, Option.bind_eq_some_iff, guarded_eq_some]
  constructor
  · rintro ⟨_, d, hd, i, hi, a, ha, ht, -⟩
    exact ⟨ht, ⟨d, hd⟩, ⟨a, ha⟩, i, hi⟩
  · rintro ⟨ht, ⟨d, hd⟩, ⟨a, ha⟩, i, hi⟩
    exact ⟨_, d, hd, i, hi, a, ha, ht, rfl⟩

/-- R91: an accepted valid zone holds the fields as written. -/
theorem checkZone_toWrite {w : ZoneWrite} {z : Zone} (hv : w.valid = some true) (h : checkZone w = some z) :
    z.toWrite = w := by
  obtain ⟨valid, counter, lower, upper, group, warn⟩ := w
  obtain rfl : valid = some true := hv
  simp only [checkZone, Option.bind_eq_bind, Option.bind_eq_some_iff, guarded_eq_some, optOneBased_eq_some] at h
  obtain ⟨c, rfl, g, rfl, x, rfl, -, rfl⟩ := h
  rfl

/-- R91: the tests of a valid zone. -/
theorem checkZone_accepts {w : ZoneWrite} (hv : w.valid = some true) :
    (checkZone w).isSome = true ↔
      (-999999 ≤ w.lower ∧ w.lower ≤ w.upper ∧ w.upper ≤ 999999) ∧ w.counter.isSome = true ∧ w.warn.isSome = true
        ∧ ∀ n, w.group = some n → 1 ≤ n ∧ n ≤ 24 := by
  have hbounds : ((inRange w.lower = true ∧ inRange w.upper = true) ∧ w.lower ≤ w.upper) ↔
      -999999 ≤ w.lower ∧ w.lower ≤ w.upper ∧ w.upper ≤ 999999 := by
    rw [inRange_iff, inRange_iff]
    omega
  rw [← optOneBased_exists]
  simp only [checkZone, hv, Option.isSome_iff_exists, Option.bind_eq_bind, Option.bind_eq_some_iff, guarded_eq_some,
    Bool.and_eq_true, decide_eq_true_eq, hbounds]
  constructor
  · rintro ⟨_, c, hc, g, hg, x, hx, hb, -⟩
    exact ⟨hb, ⟨c, hc⟩, ⟨x, hx⟩, g, hg⟩
  · rintro ⟨hb, ⟨c, hc⟩, ⟨x, hx⟩, g, hg⟩
    exact ⟨_, c, hc, g, hg, x, hx, hb, rfl⟩

/-! ### Station Profiles -/

/-- R118: an accepted key slot holds the fields as written. -/
theorem checkSlot_eq_some {w : SlotWrite} {k : SlotConfig} : checkSlot w = some k ↔ k.toWrite = w := by
  obtain ⟨channel, mode, action, callAllowed⟩ := w
  simp only [checkSlot, Option.bind_eq_bind, Option.bind_eq_some_iff, optOneBased_eq_some, Option.some.injEq]
  constructor
  · rintro ⟨c, rfl, m, rfl, a, rfl, x, rfl, rfl⟩
    rfl
  · intro h
    cases h
    exact ⟨_, rfl, _, rfl, _, rfl, _, rfl, rfl⟩

theorem checkSlot_exists {w : SlotWrite} :
    (∃ k, checkSlot w = some k) ↔ (∀ n, w.channel = some n → 1 ≤ n ∧ n ≤ 16) ∧ w.mode.isSome = true
      ∧ w.action.isSome = true ∧ w.callAllowed.isSome = true := by
  rw [← optOneBased_exists]
  simp only [checkSlot, Option.bind_eq_bind, Option.bind_eq_some_iff, Option.isSome_iff_exists, Option.some.injEq]
  constructor
  · rintro ⟨_, c, hc, m, hm, a, ha, x, hx, -⟩
    exact ⟨⟨c, hc⟩, ⟨m, hm⟩, ⟨a, ha⟩, x, hx⟩
  · rintro ⟨⟨c, hc⟩, ⟨m, hm⟩, ⟨a, ha⟩, x, hx⟩
    exact ⟨_, c, hc, m, hm, a, ha, x, hx, rfl⟩

/-- R118: no two slots of a profile name one channel. -/
theorem channelsDistinct_iff (v : Vector SlotConfig 4) :
    channelsDistinct v = true ↔ ∀ j k : KeySlot, j ≠ k → v[j].channel ≠ none → v[j].channel ≠ v[k].channel := by
  rw [channelsDistinct, decide_eq_true_iff, List.Nodup, List.pairwise_filterMap, List.pairwise_iff_getElem]
  constructor
  · intro h j k hjk hj hc
    obtain ⟨c, hc'⟩ := Option.ne_none_iff_exists'.1 hj
    have hne : ∀ a b : KeySlot, a < b → v[a].channel = some c → v[b].channel ≠ some c := fun a b hab ha hb =>
      h a.val b.val (by simp) (by simp) hab c (by simpa using ha) c (by simpa using hb) rfl
    rcases Fin.lt_or_lt_of_ne hjk with hlt | hlt
    · exact hne j k hlt hc' (hc ▸ hc')
    · exact hne k j hlt (hc ▸ hc') hc'
  · intro h i j hi hj hij a ha b hb hab
    simp only [Vector.length_toList] at hi hj
    simp only [Vector.getElem_toList] at ha hb
    refine h ⟨i, hi⟩ ⟨j, hj⟩ (Fin.ne_of_lt hij) ?_ ?_
    · exact fun e => nomatch ha.symm.trans e
    · exact ha.trans ((congrArg some hab).trans hb.symm)

/-- R165 test 2: an accepted profile holds the fields as written, slot by slot, and the channels of its slots differ. -/
theorem checkProfile_eq_some {w : ProfileWrite} {f : Profile} :
    checkProfile w = some f ↔
      (w.enabled = some f.enabled ∧ w.expected = some f.expected ∧ w.rights = some f.rights
        ∧ f.priority.val = w.priority ∧ w.sidetone = some f.sidetone)
        ∧ (∀ k : KeySlot, checkSlot w.slots[k] = some f.slots[k]) ∧ channelsDistinct f.slots = true := by
  unfold checkProfile
  simp only [Option.bind_eq_bind, Option.bind_eq_some_iff, guarded_eq_some, zeroBased_eq_some]
  constructor
  · rintro ⟨e, he, x, hx, r, hr, p, hp, t, ht, k1, h1, k2, h2, k3, h3, k4, h4, hd, rfl⟩
    refine ⟨⟨he, hx, hr, hp, ht⟩, fun k => ?_, hd⟩
    match k with
    | 0 => exact h1
    | 1 => exact h2
    | 2 => exact h3
    | 3 => exact h4
  · rintro ⟨⟨he, hx, hr, hp, ht⟩, hs, hd⟩
    have hv : #v[f.slots[(0 : KeySlot)], f.slots[(1 : KeySlot)], f.slots[(2 : KeySlot)], f.slots[(3 : KeySlot)]] = f.slots := by
      apply Vector.ext
      intro i hi
      match i, hi with
      | 0, _ => rfl
      | 1, _ => rfl
      | 2, _ => rfl
      | 3, _ => rfl
    exact ⟨_, he, _, hx, _, hr, _, hp, _, ht, _, hs 0, _, hs 1, _, hs 2, _, hs 3, by rw [hv]; exact hd, by rw [hv]⟩

/-- R118, R165 test 2: the tests of a profile. -/
theorem checkProfile_accepts {w : ProfileWrite} :
    (checkProfile w).isSome = true ↔
      w.enabled.isSome = true ∧ w.expected.isSome = true ∧ w.rights.isSome = true ∧ w.priority ≤ 3
        ∧ w.sidetone.isSome = true
        ∧ (∀ k : KeySlot, (∀ n, w.slots[k].channel = some n → 1 ≤ n ∧ n ≤ 16) ∧ w.slots[k].mode.isSome = true
          ∧ w.slots[k].action.isSome = true ∧ w.slots[k].callAllowed.isSome = true)
        ∧ ∀ j k : KeySlot, j ≠ k → w.slots[j].channel ≠ none → w.slots[j].channel ≠ w.slots[k].channel := by
  have hdistinct : ∀ v : Vector SlotConfig 4, (∀ k : KeySlot, checkSlot w.slots[k] = some v[k]) →
      (channelsDistinct v = true ↔
        ∀ j k : KeySlot, j ≠ k → w.slots[j].channel ≠ none → w.slots[j].channel ≠ w.slots[k].channel) := by
    intro v hv
    have hinj : Function.Injective (Option.map fun c : Chan => c.val + 1) :=
      Option.map_injective fun c d h => Fin.ext (Nat.succ.inj h)
    have hc : ∀ k : KeySlot, w.slots[k].channel = v[k].channel.map fun c => c.val + 1 := fun k =>
      congrArg SlotWrite.channel (checkSlot_eq_some.1 (hv k)).symm
    simp only [channelsDistinct_iff, hc, ne_eq, Option.map_eq_none_iff, hinj.eq_iff]
  simp only [← checkSlot_exists]
  rw [Option.isSome_iff_exists]
  simp only [checkProfile_eq_some, Option.isSome_iff_exists]
  constructor
  · rintro ⟨f, ⟨he, hx, hr, hp, ht⟩, hs, hd⟩
    exact ⟨⟨_, he⟩, ⟨_, hx⟩, ⟨_, hr⟩, hp ▸ Nat.le_of_lt_succ f.priority.isLt, ⟨_, ht⟩, fun k => ⟨_, hs k⟩, (hdistinct _ hs).1 hd⟩
  · rintro ⟨⟨e, he⟩, ⟨x, hx⟩, ⟨r, hr⟩, hp, ⟨t, ht⟩, hs, hd⟩
    choose k hk using hs
    have hv : ∀ i : KeySlot, checkSlot w.slots[i] = some (Vector.ofFn k)[i] := fun i => by
      rw [hk i, Fin.getElem_fin, Vector.getElem_ofFn]
    exact ⟨⟨e, x, r, ⟨w.priority, Nat.lt_succ_of_le hp⟩, t, Vector.ofFn k⟩, ⟨he, hx, hr, rfl, ht⟩, hv, (hdistinct _ hv).2 hd⟩

/-! ### Channel Table and Router Settings -/

/-- R114: the tests of a channel entry, and that an accepted one holds the fields as written. -/
theorem checkChannel_eq_some {w : ChannelWrite} {e : ChannelEntry} :
    checkChannel w = some e ↔
      e.toWrite = w ∧ (1 ≤ w.maxTalkers ∧ w.maxTalkers ≤ 4) ∧ w.level ≤ 16
        ∧ (w.idleRelease = 0 ∨ (10 ≤ w.idleRelease ∧ w.idleRelease ≤ 3600))
        ∧ 500 ≤ w.callDisplay ∧ w.callDisplay ≤ 10000 := by
  obtain ⟨maxTalkers, level, preemption, idleRelease, callDisplay⟩ := w
  simp only [checkChannel, Option.bind_eq_bind, Option.bind_eq_some_iff, guarded_eq_some, Bool.and_eq_true,
    decide_eq_true_eq]
  constructor
  · rintro ⟨p, rfl, ⟨⟨⟨hm, hl⟩, hi⟩, hc⟩, rfl⟩
    exact ⟨rfl, hm, hl, hi, hc⟩
  · rintro ⟨h, hm, hl, hi, hc⟩
    cases h
    exact ⟨_, rfl, ⟨⟨⟨hm, hl⟩, hi⟩, hc⟩, rfl⟩

/-- R119: the tests of the Router Settings, and that accepted ones hold the fields as written. -/
theorem checkRouter_eq_some {w : RouterWrite} {r : RouterSettings} :
    checkRouter w = some r ↔
      r = { threshold := w.threshold, holdoff := w.holdoff }
        ∧ (150 ≤ w.threshold ∧ w.threshold ≤ 1000) ∧ w.holdoff ≤ 2000 := by
  simp only [checkRouter, guarded_eq_some, Bool.and_eq_true, decide_eq_true_eq, eq_comm (b := r), and_comm]

end Sys2Proof.Machine
end

section
/-! The write rules field by field (R3–R6, R9, R85, R91, R114, R118, R119, R165, R189). -/

namespace Sys2Proof.Machine

/-! ### Notice Control -/

/-- R189: the write of a kind's entry, refused for a lane above L3 or an enable that is neither yes nor no. -/
theorem writeNoticeEntry_kind_none {c : NoticeControl} {k : NoticeKind} {enable : Named Bool} {lane : Nat}
    (h : 3 < lane ∨ enable = none) : writeNoticeEntry c (.kind k) (.kind enable lane) = none := by
  obtain hl | rfl := h
  · simp [writeNoticeEntry, zeroBased_eq_none.2 hl]
  · rfl

theorem writeNoticeEntry_kind_some (c : NoticeControl) (k : NoticeKind) (e : Bool) (x : Lane) :
    writeNoticeEntry c (.kind k) (.kind (some e) x.val) = some { c with kinds := put c.kinds k { enable := e, lane := x } } := by
  simp only [writeNoticeEntry, zeroBased_val, Option.bind_some, Option.map_some]

/-- R189: the write of a lane's entry, refused for a destination above P31 or a field outside its named values. -/
theorem writeNoticeEntry_lane_none {c : NoticeControl} {l : Lane} {dest : Nat} {isOpen : Named Bool}
    {mode : Named LaneMode} (h : 31 < dest ∨ isOpen = none ∨ mode = none) :
    writeNoticeEntry c (.lane l) (.lane dest isOpen mode) = none := by
  obtain hd | rfl | rfl := h
  · simp [writeNoticeEntry, zeroBased_eq_none.2 hd]
  · simp [writeNoticeEntry]
  · simp [writeNoticeEntry]

theorem writeNoticeEntry_lane_some (c : NoticeControl) (l : Lane) (d : Port) (o : Bool) (m : LaneMode) :
    writeNoticeEntry c (.lane l) (.lane d.val (some o) (some m)) =
      some { c with lanes := put c.lanes l { dest := d, isOpen := o, mode := m } } := by
  simp only [writeNoticeEntry, zeroBased_val, Option.bind_some, Option.map_some]

/-! ### What the rules say, table by table -/

theorem checkCue_rule (own : CueSlot) (w : CueWrite) (hv : w.valid = some true) (r : CueRecord)
    (h : checkCue own w = some r) :
    r.valid = true ∧ r.label = w.label ∧ r.groups.map (fun g => g.val + 1) = w.groups
      ∧ some r.ackPolicy = w.ackPolicy ∧ r.ackTimeout = w.ackTimeout ∧ some r.goPolicy = w.goPolicy
      ∧ r.cueChannel.map (fun c => c.val + 1) = w.cueChannel
      ∧ r.interlock.map (fun z => z.val + 1) = w.interlock ∧ r.goDisplay = w.goDisplay
      ∧ w.successor =
        match r.successor with
        | none => none
        | some (.standbyNext t) => some { kind := some .standbyNext, slot := t.val, delay := none }
        | some (.autofollow t d) => some { kind := some .autofollow, slot := t.val, delay := some d } := by
  obtain rfl := checkCue_toWrite hv h
  refine ⟨Option.some.inj hv, rfl, rfl, rfl, rfl, rfl, rfl, rfl, rfl, ?_⟩
  simp only [CueRecord.toWrite]
  cases r.successor with
  | none => rfl
  | some x => cases x <;> rfl

theorem checkProfile_fields {w : ProfileWrite} {f : Profile} (h : checkProfile w = some f) :
    some f.enabled = w.enabled ∧ some f.expected = w.expected ∧ some f.rights = w.rights
      ∧ f.priority.val = w.priority ∧ some f.sidetone = w.sidetone
      ∧ ∀ k : KeySlot, f.slots[k].channel.map (fun c => c.val + 1) = w.slots[k].channel
        ∧ some f.slots[k].mode = w.slots[k].mode ∧ some f.slots[k].action = w.slots[k].action
        ∧ some f.slots[k].callAllowed = w.slots[k].callAllowed := by
  obtain ⟨⟨he, hx, hr, hp, ht⟩, hs, -⟩ := checkProfile_eq_some.1 h
  refine ⟨he.symm, hx.symm, hr.symm, hp, ht.symm, fun k => ?_⟩
  rw [← checkSlot_eq_some.1 (hs k)]
  exact ⟨rfl, rfl, rfl, rfl⟩

theorem checkChannel_accepts {w : ChannelWrite} :
    (checkChannel w).isSome = true ↔
      (1 ≤ w.maxTalkers ∧ w.maxTalkers ≤ 4) ∧ w.level ≤ 16 ∧ w.preemption.isSome = true
        ∧ (w.idleRelease = 0 ∨ (10 ≤ w.idleRelease ∧ w.idleRelease ≤ 3600))
        ∧ 500 ≤ w.callDisplay ∧ w.callDisplay ≤ 10000 := by
  simp only [Option.isSome_iff_exists, checkChannel_eq_some]
  constructor
  · rintro ⟨e, rfl, hm, hl, hi, hc⟩
    exact ⟨hm, hl, ⟨_, rfl⟩, hi, hc⟩
  · rintro ⟨hm, hl, ⟨p, hp⟩, hi, hc⟩
    obtain ⟨maxTalkers, level, preemption, idleRelease, callDisplay⟩ := w
    obtain rfl : preemption = some p := hp
    exact ⟨⟨maxTalkers, level, p, idleRelease, callDisplay⟩, rfl, hm, hl, hi, hc⟩

/-- Settles O45: for each table what its rule accepts, and that what it accepts is the write as it came. -/
theorem writeRulesOfTheTables : Obligations.WriteRulesOfTheTables := by
  refine ⟨fun own w => ⟨fun hv => ⟨checkCue_accepts hv, checkCue_rule own w hv⟩, ?cueNo, ?cueUnnamed⟩,
    fun w => ⟨?groupYes, ?groupNo, ?groupUnnamed⟩,
    fun w => ⟨fun hv => ⟨checkPosition_accepts hv, fun e he => ?position⟩, ?positionNo, ?positionUnnamed⟩,
    fun w => ⟨fun hv => ⟨checkZone_accepts hv, fun z hz => ?zone⟩, ?zoneNo, ?zoneUnnamed⟩,
    fun w => ⟨checkProfile_accepts, fun f => checkProfile_fields⟩,
    fun w => ⟨checkChannel_accepts, fun e he => ?channel⟩, fun w => ⟨?router, fun r hr => (checkRouter_eq_some.1 hr).1⟩,
    fun i => rfl, fun c k l hold enable isOpen mode lane dest => ⟨rfl, writeNoticeEntry_kind_none, ?kind,
      writeNoticeEntry_lane_none, ?lane, rfl, rfl, rfl, rfl, rfl, rfl⟩⟩
  case position =>
    obtain rfl := checkPosition_toWrite hv he
    exact ⟨Option.some.inj hv, rfl, rfl, rfl, rfl⟩
  case zone =>
    obtain rfl := checkZone_toWrite hv hz
    exact ⟨Option.some.inj hv, rfl, rfl, rfl, rfl, rfl⟩
  case channel =>
    obtain ⟨rfl, -⟩ := checkChannel_eq_some.1 he
    exact ⟨rfl, rfl, rfl, rfl, rfl⟩
  case router => simp only [Option.isSome_iff_exists, checkRouter_eq_some, exists_eq_left]
  case kind =>
    rintro e x rfl rfl
    exact writeNoticeEntry_kind_some c k e x
  case lane =>
    rintro d o m rfl rfl rfl
    exact writeNoticeEntry_lane_some c l d o m
  all_goals intro hv
  case cueNo | cueUnnamed => rw [checkCue, hv]
  case groupYes | groupUnnamed => rw [checkGroup, hv]
  case groupNo => rw [checkGroup, hv, Group.cleared]
  case positionNo | positionUnnamed => rw [checkPosition, hv]
  case zoneNo | zoneUnnamed => rw [checkZone, hv]

end Sys2Proof.Machine
end

section
/-! The power-on values, table by table (R4, R8, R84, R90, R99, R113, R189, R196). -/

namespace Sys2Proof.Machine

/-- A table filled with one entry holds it everywhere. -/
theorem get_replicate {α : Type} {n : Nat} (x : α) (i : Fin n) : (Vector.replicate n x)[i] = x :=
  Vector.getElem_replicate i.isLt

/-- R196: the table of default profiles holds each port's default. -/
theorem defaults_get (p : Port) : Profile.defaults[p] = Profile.default p := by
  unfold Profile.defaults Profile.default
  exact (get_put _ 0 p _).trans (by rw [get_replicate])

/-- R117: K1 of the default slots, and the cleared K2–K4. -/
theorem slotDefaults_get (k : KeySlot) :
    SlotConfig.defaults[k] =
      if k = 0 then { channel := some 0, mode := .talkListen, action := .auto, callAllowed := true }
      else SlotConfig.cleared := by
  unfold SlotConfig.defaults
  exact (get_put _ 0 k _).trans (by rw [get_replicate])

/-- R196: the two default profiles differ in rights and priority alone. -/
theorem profileDefault_eq (p : Port) :
    Profile.default p =
      { Profile.plain with
        rights := if p = 0 then ⟨true, true, true⟩ else ⟨false, false, false⟩, priority := if p = 0 then 3 else 1 } := by
  unfold Profile.default
  split <;> rfl

/-- R189: the default lanes: L0 open, the others closed. -/
theorem laneDefaults_get (l : Lane) :
    NoticeControl.default.lanes[l] = { dest := 0, isOpen := l == 0, mode := .autoClear } := by
  refine (get_put _ 0 l _).trans ?_
  rw [get_replicate]
  cases h : l == 0 with
  | true => rw [if_pos (eq_of_beq h)]
  | false => rw [if_neg (ne_of_beq_false h)]

/-- R4, R8, R84, R90: both banks are cleared at power-on. -/
theorem reset_bank (x : Bank) : State.reset.bank x = BankTables.cleared := by cases x <;> rfl

/-- R99: both counters stand at their power-on values. -/
theorem reset_counter (c : CounterId) : State.reset.counter c = Counter.powerOn := get_replicate _ _

/-- Settles O4: each table of the reset state is filled with the one entry its rule gives, but for P0's profile, K1's slot
and lane L0. -/
theorem resetHoldsPowerOnValues : Obligations.ResetHoldsPowerOnValues := by
  refine ⟨rfl, rfl, rfl, rfl, rfl, rfl, fun p => ?ports, fun c => ?counters, fun z => get_replicate _ z, fun x => ?banks,
    fun c => ⟨get_replicate _ c, get_replicate _ c⟩, rfl, fun k => ⟨get_replicate _ k, get_replicate _ k⟩, rfl,
    laneDefaults_get⟩
  case ports =>
    have hprofile : State.reset.profiles[p] = _ := (defaults_get p).trans (profileDefault_eq p)
    rw [hprofile]
    refine ⟨get_replicate _ p, get_replicate _ p, get_replicate _ p, get_replicate _ p, get_replicate _ p, rfl, rfl, rfl, rfl,
      rfl, slotDefaults_get 0, fun k => ⟨fun hk => (slotDefaults_get k).trans (if_neg hk), ?call, ?denied⟩⟩
    case call => exact (congrArg (fun v : Vector CallRecord 4 => v[k]) (get_replicate _ p)).trans (get_replicate _ k)
    case denied => exact (congrArg (fun v : Vector (Option Time) 4 => v[k]) (get_replicate _ p)).trans (get_replicate _ k)
  case counters =>
    rw [reset_counter]
    exact ⟨rfl, rfl, rfl, rfl, rfl, rfl, rfl⟩
  case banks =>
    rw [reset_bank]
    have hgroup (g : GroupNo) : BankTables.cleared.groups[g] = Group.cleared := get_replicate _ g
    refine ⟨fun i => get_replicate _ i, fun g => ?_, fun i => get_replicate _ i, fun z => get_replicate _ z⟩
    rw [hgroup]
    exact ⟨rfl, PortSet.mem_none⟩

end Sys2Proof.Machine
end

section
/-! SUPPORT. STANDBY: target resolution (R10) and the record an accepted STANDBY appends (R14, R18, R21). -/

namespace Sys2Proof.Machine

/-! ### Target resolution -/

/-- R8, R10: a port of a group counts when the group is valid. -/
theorem groupPorts_mem (s : State) (g : GroupNo) (q : Port) :
    (s.groupPorts g).mem q = true ↔ s.liveTables.groups[g].valid = true ∧ s.liveTables.groups[g].ports.mem q = true := by
  unfold State.groupPorts
  split
  · rename_i hv
    exact ⟨fun h => ⟨hv, h⟩, fun h => h.2⟩
  · rename_i hv
    rw [PortSet.mem_none]
    exact ⟨fun h => (nomatch h), fun h => absurd h.1 hv⟩

theorem foldl_union_mem (s : State) (q : Port) : ∀ (l : List GroupNo) (x : PortSet),
    (l.foldl (fun x g => x.union (s.groupPorts g)) x).mem q = true ↔
      x.mem q = true ∨ ∃ g ∈ l, (s.groupPorts g).mem q = true
  | [], x => by simp
  | g :: l, x => by
    rw [List.foldl_cons, foldl_union_mem s q l, PortSet.mem_union, Bool.or_eq_true, or_assoc, List.exists_mem_cons_iff]

/-- R10: the targets of a record are the ports of the valid groups it names. -/
theorem resolve_mem (s : State) (r : CueRecord) (q : Port) :
    (s.resolve r).mem q = true ↔
      ∃ g ∈ r.groups, s.liveTables.groups[g].valid = true ∧ s.liveTables.groups[g].ports.mem q = true := by
  simp only [State.resolve, foldl_union_mem, PortSet.mem_none, Bool.false_eq_true, false_or, groupPorts_mem]

/-! ### The record -/

/-- R18, R21: a record with no ack yet meets its policy when it asks for none or awaits nobody. -/
theorem policyMet_standingCue (s : State) (slot : CueSlot) (o : Origin) (f : Option Time) :
    s.policyMet (s.standingCue slot o f) = true ↔
      (s.cue slot).ackPolicy = .nobody ∨ ((s.resolve (s.cue slot)).inter s.presentSet).isEmpty = true := by
  have hnone : PortSet.none.isEmpty = true := rfl
  simp only [State.policyMet, State.standingCue]
  cases (s.cue slot).ackPolicy <;> simp [hnone]

/-- R14, R18: the record that the model appends, in one piece. -/
theorem newCue_eq_stoodBy (s : State) (slot : CueSlot) (o : Origin) (f : Option Time) :
    s.newCue slot o f = s.stoodBy slot o f := by
  have hstate : (s.standingCue slot o f).state = .standby := rfl
  have hstood : s.stoodBy slot o f =
      { s.standingCue slot o f with
        state := if s.policyMet (s.standingCue slot o f) = true then .ready else .standby } := by
    simp only [policyMet_standingCue]
    rfl
  rw [hstood, State.newCue, State.testReady]
  by_cases h : s.policyMet (s.standingCue slot o f) = true
  · rw [if_pos ⟨hstate, h⟩, if_pos h]
  · rw [if_neg (fun hc => h hc.2), if_neg h, ← hstate]

/-! ### The request -/

/-- R18, R36: what follows the reply of an accepted STANDBY: the desks are told, then TARGET_ABSENT is raised. -/
def State.stoodByTold (r : ActiveCue) (t : State) : State :=
  if r.absent.isEmpty = true then t.told r (.inList r.state)
  else (t.told r (.inList r.state)).raise (.targetAbsent r.slot r.absent.count)

theorem appendCue_eq_stoodByTold (s : State) (r : ActiveCue) : s.appendCue r = State.stoodByTold r (s.joinList r) := rfl

/-- R179: the messages of an accepted STANDBY do not meet its reply. -/
theorem stoodByTold_answer (r : ActiveCue) (t : State) (p : Port) (kind tag : Octet) (a : Answer)
    (ha : a.waits ≠ .deferred) :
    (State.stoodByTold r t).answer p kind tag a = State.stoodByTold r (t.answer p kind tag a) := by
  unfold State.stoodByTold
  split
  · exact told_answer t r _ p kind tag a ha
  · rw [raise_answer _ _ p kind tag a ha, told_answer t r _ p kind tag a ha]

/-- R17, R18: the owner of a STANDBY that passes its tests. -/
theorem standbyRequest_taken {s : State} {slot : CueSlot} (p : Port) (h : s.standbyRefusal slot = none) :
    standbyRequest p slot s =
      (State.stoodByTold (s.stoodBy slot (.desk p) none) (s.joinList (s.stoodBy slot (.desk p) none)),
        Answer.with .ok (.cue slot (s.stoodBy slot (.desk p) none).state)) := by
  simp only [standbyRequest, h, newCue_eq_stoodBy, appendCue_eq_stoodByTold]

/-- Settles O25: the owner appends the record to the list, and its messages pass the reply by. -/
theorem standbyAppendsTheRecord : Obligations.StandbyAppendsTheRecord := by
  refine ⟨fun s p tag slot hs hpass => ?_, resolve_mem⟩
  have hreserved : (s.reserve p).standbyRefusal slot = none := hpass
  exact congrArg Host.Outcome.next
    (request_through tag { s with active := s.active ++ [s.stoodBy slot (.desk p) none] }
      (State.stoodByTold (s.stoodBy slot (.desk p) none)) .ok _ hs (standbyRequest_taken p hreserved)
      (fun t => stoodByTold_answer _ t p))

end Sys2Proof.Machine
end

section
/-! SUPPORT. LOAD_END (R195, R196): the tables of an image entry by entry, the guarantee of WRITE, and what the end of the
load leaves and raises. -/

namespace Sys2Proof.Machine

/-! ### The tables of an image -/

/-- An entry of a table built entry by entry. -/
theorem mapTable_get {α β : Type} {n : Nat} (f : Fin n → α → β) (v : Vector α n) (i : Fin n) :
    (mapTable f v)[i] = f i v[i] := by
  simp [mapTable]

/-- A fold over distinct places of which one alone touches a part of the value: the part is as that place leaves it. -/
theorem foldl_part {σ ι α : Type} {f : σ → ι → σ} (part : σ → α) {m : ι} {g : α → α}
    (hkeep : ∀ c n, n ≠ m → part (f c n) = part c) (hset : ∀ c, part (f c m) = g (part c)) :
    ∀ (l : List ι) (c : σ), l.Nodup → m ∈ l → part (l.foldl f c) = g (part c) := by
  have hnone : ∀ (l : List ι) (c : σ), m ∉ l → part (l.foldl f c) = part c := by
    intro l
    induction l with
    | nil => exact fun _ _ => rfl
    | cons n l ih =>
      intro c hm
      rw [List.mem_cons, not_or] at hm
      rw [List.foldl_cons, ih _ hm.2, hkeep c n (Ne.symm hm.1)]
  intro l
  induction l with
  | nil => exact fun _ _ hm => nomatch hm
  | cons n l ih =>
    intro c hn hm
    rw [List.nodup_cons] at hn
    rw [List.foldl_cons]
    rcases List.mem_cons.1 hm with rfl | hm
    · rw [hnone l _ hn.1, hset]
    · rw [ih _ hn.2 hm, hkeep c n (fun e => hn.1 (e ▸ hm))]

/-- R189: the hold that an entry written to index 0 leaves, over the one before. -/
def holdWritten (old : Bool) : NoticeEntryWrite → Bool
  | .global (some h) => h
  | _ => old

/-- R189: the control of a kind that an entry written to its index leaves, over the one before. -/
def kindWritten (old : KindControl) : NoticeEntryWrite → KindControl
  | .kind (some e) x => if h : x < 4 then { enable := e, lane := ⟨x, h⟩ } else old
  | _ => old

/-- R189: the control of a lane that an entry written to its index leaves, over the one before. -/
def laneWritten (old : LaneControl) : NoticeEntryWrite → LaneControl
  | .lane x (some o) (some m) => if h : x < 32 then { dest := ⟨x, h⟩, isOpen := o, mode := m } else old
  | _ => old

/-- R189, R195: an entry over Notice Control, refused entries changing nothing: what it leaves in each part. -/
theorem writeNoticeEntry_getD (c : NoticeControl) (x : NoticePlace) (w : NoticeEntryWrite) :
    (writeNoticeEntry c x w).getD c =
      match x with
      | .global => { c with hold := holdWritten c.hold w }
      | .kind k => { c with kinds := put c.kinds k (kindWritten c.kinds[k] w) }
      | .lane l => { c with lanes := put c.lanes l (laneWritten c.lanes[l] w) } := by
  cases x with
  | global =>
    match w with
    | .global (some h) => rfl
    | .global none | .kind _ _ | .lane _ _ _ => rfl
  | kind k =>
    match w with
    | .kind (some e) x =>
      simp only [kindWritten]
      split
      · rename_i h
        exact congrArg (Option.getD · c) (writeNoticeEntry_kind_some c k e ⟨x, h⟩)
      · rename_i h
        rw [writeNoticeEntry_kind_none (.inl (by omega)), put_get, Option.getD_none]
    | .kind none _ | .global _ | .lane _ _ _ => simp [writeNoticeEntry, kindWritten]
  | lane l =>
    match w with
    | .lane x (some o) (some m) =>
      simp only [laneWritten]
      split
      · rename_i h
        exact congrArg (Option.getD · c) (writeNoticeEntry_lane_some c l ⟨x, h⟩ o m)
      · rename_i h
        rw [writeNoticeEntry_lane_none (.inl (by omega)), put_get, Option.getD_none]
    | .lane _ none _ | .lane _ (some _) none | .global _ | .kind _ _ => simp [writeNoticeEntry, laneWritten]

/-- R189, R195: one entry of an image loaded over Notice Control. -/
def StoredImage.loadNotice (i : StoredImage) (c : NoticeControl) (n : Fin 23) : NoticeControl :=
  match noticePlace n.val with
  | some place => (writeNoticeEntry c place i.noticeControl[n]).getD c
  | none => c

theorem notices_eq_foldl (i : StoredImage) :
    i.notices = (List.finRange 23).foldl i.loadNotice NoticeControl.default := rfl

/-- R189: the place of Notice Control that each of the 23 indices names. -/
theorem noticePlace_cases (n : Fin 23) :
    n = 0 ∨ (∃ k : NoticeKind, n = ⟨k.val + 1, by omega⟩) ∨ ∃ l : Lane, n = ⟨l.val + 19, by omega⟩ := by
  obtain ⟨n, hn⟩ := n
  rcases Nat.eq_zero_or_pos n with rfl | h0
  · exact .inl rfl
  · rcases Nat.lt_or_ge 18 n with h | h
    · exact .inr (.inr ⟨⟨n - 19, by omega⟩, Fin.ext (by simp only; omega)⟩)
    · exact .inr (.inl ⟨⟨n - 1, by omega⟩, Fin.ext (by simp only; omega)⟩)

theorem loadNotice_global (i : StoredImage) (c : NoticeControl) :
    i.loadNotice c 0 = { c with hold := holdWritten c.hold i.noticeControl[(0 : Fin 23)] } :=
  writeNoticeEntry_getD c .global _

theorem loadNotice_kind (i : StoredImage) (c : NoticeControl) (k : NoticeKind) :
    i.loadNotice c ⟨k.val + 1, by omega⟩ =
      { c with kinds := put c.kinds k (kindWritten c.kinds[k] i.noticeControl[k.val + 1]) } := by
  simp only [StoredImage.loadNotice, noticePlace_kind, writeNoticeEntry_getD, Fin.getElem_fin]

theorem loadNotice_lane (i : StoredImage) (c : NoticeControl) (l : Lane) :
    i.loadNotice c ⟨l.val + 19, by omega⟩ =
      { c with lanes := put c.lanes l (laneWritten c.lanes[l] i.noticeControl[l.val + 19]) } := by
  simp only [StoredImage.loadNotice, noticePlace_lane, writeNoticeEntry_getD, Fin.getElem_fin]

/-- R195: the hold that an image gives. -/
theorem notices_hold (i : StoredImage) : i.notices.hold = holdWritten false i.noticeControl[(0 : Fin 23)] := by
  rw [notices_eq_foldl]
  refine foldl_part NoticeControl.hold (g := (holdWritten · i.noticeControl[(0 : Fin 23)])) (fun c n hn => ?_)
    (fun c => congrArg NoticeControl.hold (loadNotice_global i c)) _ _ (List.nodup_finRange 23) (List.mem_finRange 0)
  rcases noticePlace_cases n with rfl | ⟨k, rfl⟩ | ⟨l, rfl⟩
  · exact absurd rfl hn
  · rw [loadNotice_kind]
  · rw [loadNotice_lane]

/-- R195: the control of each kind that an image gives. -/
theorem notices_kinds (i : StoredImage) (k : NoticeKind) :
    i.notices.kinds[k] = kindWritten { enable := true, lane := 0 } i.noticeControl[k.val + 1] := by
  have hdefault : NoticeControl.default.kinds[k] = { enable := true, lane := 0 } := get_replicate _ k
  rw [← hdefault, notices_eq_foldl]
  refine foldl_part (fun c : NoticeControl => c.kinds[k]) (m := ⟨k.val + 1, by omega⟩)
    (g := (kindWritten · i.noticeControl[k.val + 1])) (fun c n hn => ?_) (fun c => ?_) _ _ (List.nodup_finRange 23)
    (List.mem_finRange _)
  · rcases noticePlace_cases n with rfl | ⟨j, rfl⟩ | ⟨l, rfl⟩
    · rw [loadNotice_global]
    · have hjk : ¬k = j := fun e => hn (e ▸ rfl)
      rw [loadNotice_kind]
      exact (get_put _ _ _ _).trans (if_neg hjk)
    · rw [loadNotice_lane]
  · rw [loadNotice_kind]
    exact (get_put _ _ _ _).trans (if_pos rfl)

/-- R195: the control of each lane that an image gives. -/
theorem notices_lanes (i : StoredImage) (l : Lane) :
    i.notices.lanes[l] =
      laneWritten { dest := 0, isOpen := l == 0, mode := .autoClear } i.noticeControl[l.val + 19] := by
  rw [← laneDefaults_get, notices_eq_foldl]
  refine foldl_part (fun c : NoticeControl => c.lanes[l]) (m := ⟨l.val + 19, by omega⟩)
    (g := (laneWritten · i.noticeControl[l.val + 19])) (fun c n hn => ?_) (fun c => ?_) _ _ (List.nodup_finRange 23)
    (List.mem_finRange _)
  · rcases noticePlace_cases n with rfl | ⟨k, rfl⟩ | ⟨j, rfl⟩
    · rw [loadNotice_global]
    · rw [loadNotice_kind]
    · have hjl : ¬l = j := fun e => hn (e ▸ rfl)
      rw [loadNotice_lane]
      exact (get_put _ _ _ _).trans (if_neg hjl)
  · rw [loadNotice_lane]
    exact (get_put _ _ _ _).trans (if_pos rfl)

/-! ### The guarantee of WRITE -/

theorem someWriter_iff (v : Vector Profile 32) : someWriter v = true ↔ ∃ p : Port, v[p].rights.write = true := by
  rw [someWriter, List.any_eq_true]
  constructor
  · rintro ⟨f, hf, hw⟩
    obtain ⟨j, hj, rfl⟩ := List.getElem_of_mem hf
    rw [Vector.length_toList] at hj
    exact ⟨⟨j, hj⟩, by simpa using hw⟩
  · rintro ⟨p, hp⟩
    exact ⟨v[p], Vector.mem_toList_iff.2 (Vector.getElem_mem p.isLt), hp⟩

/-- R196: the profile of P0 under the guarantee: as it stood when somebody writes, and with every right otherwise. -/
theorem guaranteeWriter_zero (s : State) :
    s.guaranteeWriter.profiles[(0 : Port)] =
      if ∃ p : Port, s.profiles[p].rights.write = true then s.profiles[(0 : Port)]
      else { s.profiles[(0 : Port)] with rights := ⟨true, true, true⟩, enabled := true } := by
  unfold State.guaranteeWriter
  by_cases h : someWriter s.profiles = true
  · rw [if_pos h, if_pos ((someWriter_iff _).1 h)]
  · rw [if_neg h, if_neg (mt (someWriter_iff _).2 h)]
    exact (get_put _ _ _ _).trans (if_pos rfl)

/-- R196: the guarantee leaves every other profile. -/
theorem guaranteeWriter_other (s : State) {p : Port} (hp : p ≠ 0) : s.guaranteeWriter.profiles[p] = s.profiles[p] := by
  unfold State.guaranteeWriter
  split
  · rfl
  · exact (get_put _ _ _ _).trans (if_neg hp)

/-- R196: the guarantee, over profiles given port by port. -/
theorem guaranteeWriter_profiles {s : State} {loaded : Port → Profile} (h : ∀ p : Port, s.profiles[p] = loaded p) :
    s.guaranteeWriter.profiles[(0 : Port)] =
        (if ∃ p : Port, (loaded p).rights.write = true then loaded 0
        else { loaded 0 with rights := ⟨true, true, true⟩, enabled := true })
      ∧ ∀ p : Port, p ≠ 0 → s.guaranteeWriter.profiles[p] = loaded p := by
  refine ⟨?_, fun p hp => (guaranteeWriter_other s hp).trans (h p)⟩
  rw [guaranteeWriter_zero]
  simp only [h]

/-- R165, R196: under the guarantee somebody writes. -/
theorem guaranteeWriter_held (s : State) : WriterHeld s.guaranteeWriter := by
  by_cases h : ∃ p : Port, s.profiles[p].rights.write = true
  · obtain ⟨p, hp⟩ := h
    by_cases h0 : p = 0
    · subst h0
      exact ⟨0, by rw [guaranteeWriter_zero, if_pos ⟨0, hp⟩, hp]⟩
    · exact ⟨p, by rw [guaranteeWriter_other s h0, hp]⟩
  · exact ⟨0, by rw [guaranteeWriter_zero, if_neg h]⟩

/-! ### The end of the load -/

/-- R196: the state before the zones are evaluated: the guarantee, the ports and the references. -/
def State.readied (s : State) : State := State.takeReferences { s.guaranteeWriter with loader := .idle }.fallPorts

theorem finishLoad_eq (s : State) (cause : StartCause) :
    s.finishLoad cause = (s.readied.evalZones allZones).raise (.started cause) := rfl

/-- R196: what is readied: the loader, the profiles, the ports and the counters. -/
theorem readied_eq (s : State) :
    s.readied =
      { s with
        loader := .idle, profiles := s.guaranteeWriter.profiles, ports := s.guaranteeWriter.profiles.map fallenPort
        counters := s.takeReferences.counters } := by
  unfold State.readied State.guaranteeWriter
  split <;> rfl

/-- R83: the references are the levels on the pins. -/
theorem takeReferences_counter (s : State) (c : CounterId) :
    s.takeReferences.counter c = { s.counter c with ref := s.pin c } := by
  unfold State.takeReferences
  cases c <;> simp

theorem readied_counter (s : State) (c : CounterId) : s.readied.counter c = { s.counter c with ref := s.pin c } := by
  rw [readied_eq]
  exact takeReferences_counter s c

/-- R196: but for the zones and the messages, the end of the load leaves what was readied. -/
theorem finishLoad_sansZones (s : State) (cause : StartCause) :
    (s.finishLoad cause).sansZones = s.readied.sansZones := by
  rw [finishLoad_eq, sansZones_of_sansMsgs (raise_sansMsgs _ _), evalZones_sansZones]

/-- R92, R196: every zone is evaluated. -/
theorem finishLoad_occupied (s : State) (cause : StartCause) (z : ZoneNo) :
    (s.finishLoad cause).occupied[z] = s.readied.zoneNow z := by
  rw [finishLoad_eq]
  simp only [raise_fields, evalZones_occupied, allZones, List.mem_finRange, if_true]

/-- R92: the evaluation of every zone: the occupancy it leaves, and the raising of the changes. -/
theorem evalZones_all (s : State) :
    s.evalZones allZones =
      State.raised { s with occupied := (s.evalZones allZones).occupied }
        (s.zoneChanges (s.evalZones allZones).occupied) := by
  have h := evalZones_raised s fun _ => true
  rwa [List.filter_true] at h

/-- R92, R196: the changes of occupancy are raised in zone order, and STARTED behind them. -/
theorem finishLoad_messages (s : State) (cause : StartCause) :
    s.finishLoad cause =
      (State.raised { s.readied with occupied := (s.finishLoad cause).occupied }
        (s.readied.zoneChanges (s.finishLoad cause).occupied)).raise (.started cause) := by
  have ho : (s.finishLoad cause).occupied = (s.readied.evalZones allZones).occupied := by
    rw [finishLoad_eq]
    simp only [raise_fields]
  rw [ho, finishLoad_eq, ← evalZones_all]

theorem finishLoad_detail (s : State) (cause : StartCause) :
    (s.finishLoad cause).notices[(16 : NoticeKind)].detail = some (.started cause) := by
  rw [finishLoad_eq, raise_detail]
  exact if_pos rfl

/-- The state s with the tables, the ports and the counters of t, and the loader idle. -/
def State.loadedAs (s t : State) : State :=
  { s with
    loader := .idle, ports := t.ports, counters := t.counters, profiles := t.profiles, bankA := t.bankA
    bankB := t.bankB, channels := t.channels, noticeControl := t.noticeControl, router := t.router }

theorem loadedAs_congr (s : State) {t u : State} (h : t.sansZones = u.sansZones) : s.loadedAs t = s.loadedAs u :=
  (congrArg s.loadedAs h :)

theorem loadedAs_loadedAs (s b t : State) : (s.loadedAs b).loadedAs t = s.loadedAs t := rfl

theorem loadedAs_readied (b : State) : b.loadedAs b.readied = b.readied := by rw [readied_eq]; rfl

/-- The state s with the tables of b. -/
def State.withTables (s b : State) : State :=
  { s with
    profiles := b.profiles, bankA := b.bankA, bankB := b.bankB, channels := b.channels
    noticeControl := b.noticeControl, router := b.router }

theorem loadedAs_withTables (s b : State) : s.loadedAs (s.withTables b) = (s.withTables b).loadedAs (s.withTables b) := rfl

/-- R196: nothing but the tables, the ports, the counters, the zones and the messages changes. -/
theorem loadedAs_finishLoad {s b t : State} (hb : s.withTables b = b) (ht : t.sansZones = b.readied.sansZones) :
    s.loadedAs t = b.readied := by
  have hloaded : s.loadedAs b = b.loadedAs b := by
    rw [← hb]
    exact loadedAs_withTables s b
  rw [loadedAs_congr s ht, ← loadedAs_loadedAs s b, hloaded, loadedAs_loadedAs, loadedAs_readied]

/-- R196: the ports, the counters and the zones in a state left by the end of the load, b being that in which the tables
stand. -/
theorem finishLoad_spec {b t : State} (ht : t.sansZones = b.readied.sansZones)
    (ho : ∀ z : ZoneNo, t.occupied[z] = b.readied.zoneNow z) :
    WriterHeld t
      ∧ (∀ p : Port, t.ports[p] =
          { PortRecord.powerOn with state := if t.profiles[p].enabled then .down else .disabled })
      ∧ (∀ c : CounterId, t.counter c = { b.counter c with ref := b.pin c })
      ∧ ∀ z : ZoneNo, t.occupied[z] =
          zoneInside t.liveTables.zones[z] (b.counter t.liveTables.zones[z].counter) := by
  obtain ⟨-, -, -, -, hports, -, -, hprofiles, -, -, -, -, -, hcounters, -⟩ := fields_of_sansZones ht
  replace hprofiles := hprofiles.trans (congrArg State.profiles (readied_eq b))
  replace hports := hports.trans (congrArg State.ports (readied_eq b))
  refine ⟨?writer, fun p => ?port, fun c => ?counter, fun z => ?zone⟩
  case writer =>
    obtain ⟨p, hp⟩ := guaranteeWriter_held b
    exact ⟨p, hprofiles ▸ hp⟩
  case port =>
    rw [hports, hprofiles, Fin.getElem_fin, Vector.getElem_map]
    rfl
  case counter => rw [State.counter, hcounters, ← readied_counter, State.counter]
  case zone =>
    rw [ho z, State.zoneNow, liveTables_of_sansZones ht, readied_counter]
    rfl

/-- R92, R196: the raising of the changes and of STARTED, told from the state s in which the load began. -/
theorem finishLoad_raises {s b t : State} {cause : StartCause} (hb : s.withTables b = b)
    (ht : b.finishLoad cause = t) :
    t = (State.raised { s.loadedAs t with occupied := t.occupied } ((s.loadedAs t).zoneChanges t.occupied)).raise
      (.started cause) := by
  subst ht
  rw [loadedAs_finishLoad hb (finishLoad_sansZones b cause)]
  exact finishLoad_messages b cause

/-- R196: the tables that the end of the load leaves, and what it does not reach. -/
theorem finishLoad_keeps {b t : State} (ht : t.sansZones = b.readied.sansZones) :
    t.loader = .idle ∧ t.profiles = b.guaranteeWriter.profiles ∧ t.bankA = b.bankA ∧ t.bankB = b.bankB
      ∧ t.channels = b.channels ∧ t.noticeControl = b.noticeControl ∧ t.router = b.router ∧ t.live = b.live
      ∧ t.swapPending = b.swapPending ∧ t.active = b.active ∧ t.store = b.store := by
  obtain ⟨-, -, -, -, -, -, -, hprofiles, hA, hB, hlive, hswap, hactive, -, -, hchannels, hrouter, -, -, -, -, -, -, hcontrol,
    hloader, -, hstore⟩ := fields_of_sansZones ht
  rw [readied_eq] at *
  exact ⟨hloader, hprofiles, hA, hB, hchannels, hcontrol, hrouter, hlive, hswap, hactive, hstore⟩

/-- R195, R196: LOAD_END with power, while the loader is LOADING. -/
theorem exec_loadEnd {s : State} (answered : Bool) (hp : s.powered = true) (hl : s.loader = .loading) :
    exec (.loadEnd answered) s = .next (s.endLoad answered) := by
  have hcond : (s.powered && s.loader == .loading) = true := by rw [hp, hl]; rfl
  exact congrArg Host.Outcome.next (if_pos hcond)

/-- R195: an image is read when the memory answers and holds one. -/
theorem readImage_eq_some {s : State} {answered : Bool} {i : StoredImage} :
    s.readImage answered = some i ↔ answered = true ∧ s.store = some i := by
  cases answered <;> simp [State.readImage]

/-- R195: the banked tables that an image gives, entry by entry. -/
theorem banked_entries (i : StoredImage) :
    (∀ x : CueSlot, i.banked.cues[x] = (checkCue x i.cues[x]).getD CueRecord.cleared)
      ∧ (∀ x : GroupNo, i.banked.groups[x] = (checkGroup i.groups[x]).getD Group.cleared)
      ∧ (∀ x : Fin 24, i.banked.positions[x] = (checkPosition i.positions[x]).getD PositionEntry.cleared)
      ∧ ∀ x : ZoneNo, i.banked.zones[x] = (checkZone i.zones[x]).getD Zone.cleared :=
  ⟨mapTable_get _ _, mapTable_get _ _, mapTable_get _ _, mapTable_get _ _⟩

/-- R195: the single tables that an image gives, entry by entry. -/
theorem loadImage_singles (s : State) (i : StoredImage) :
    (∀ p : Port, (s.loadImage i).profiles[p] = (checkProfile i.profiles[p]).getD (Profile.default p))
      ∧ ∀ c : Chan, (s.loadImage i).channels[c] = (checkChannel i.channels[c]).getD ChannelEntry.default :=
  ⟨mapTable_get _ _, mapTable_get _ _⟩

/-- R195, R196: the load ends alike over the tables of an image read whole and over those that stand. -/
theorem endLoad_cases (s : State) (answered : Bool) :
    ∃ b cause, s.endLoad answered = b.finishLoad cause ∧ s.withTables b = b
      ∧ (∀ i, answered = true → s.store = some i → b = s.loadImage i ∧ cause = .loaded)
      ∧ (answered = false ∨ s.store = none → b = s ∧ cause = .defaults) := by
  cases hr : s.readImage answered with
  | none =>
    refine ⟨s, .defaults, by simp only [State.endLoad, hr], rfl, fun i ha hi => ?_, fun _ => ⟨rfl, rfl⟩⟩
    exact nomatch hr.symm.trans (readImage_eq_some.2 ⟨ha, hi⟩)
  | some i =>
    obtain ⟨ha, hi⟩ := readImage_eq_some.1 hr
    refine ⟨s.loadImage i, .loaded, by simp only [State.endLoad, hr], rfl, fun j _ hj => ?_, fun h => ?_⟩
    · obtain rfl : i = j := Option.some.inj (hi.symm.trans hj)
      exact ⟨rfl, rfl⟩
    · rcases h with h | h
      · exact nomatch ha.symm.trans h
      · exact nomatch hi.symm.trans h

/-- Settles O7: with the tables in place, what `finishLoad` keeps, does to ports, counters and zones, and raises. -/
theorem loadEndHandsOn : Obligations.LoadEndHandsOn := by
  intro s answered hp hl
  dsimp only
  obtain ⟨b, cause, hend, hb, himage, hdefaults⟩ := endLoad_cases s answered
  rw [exec_loadEnd answered hp hl, hend]
  have hzone := finishLoad_sansZones b cause
  have hoccupied := finishLoad_occupied b cause
  have hdetail := finishLoad_detail b cause
  generalize ht : b.finishLoad cause = t at *
  obtain ⟨hloader, hprofiles, hA, hB, hchannels, hcontrol, hrouter, hlive, hswap, hactive, hstore⟩ := finishLoad_keeps hzone
  obtain ⟨hwriter, hports, hcounters, hzones⟩ := finishLoad_spec hzone hoccupied
  have hraises := finishLoad_raises hb ht
  have hcounter : b.counter = s.counter := by rw [← hb]; rfl
  have hpin : b.pin = s.pin := by rw [← hb]; rfl
  rw [hcounter] at hcounters hzones
  rw [hpin] at hcounters
  rw [← hb] at hlive hswap hactive hstore
  refine ⟨t, rfl, hloader, hwriter, hports, hcounters, hzones, hlive, hswap, hactive, hstore, fun i ha hi => ?image,
    fun h => ?defaults⟩
  case image =>
    obtain ⟨rfl, rfl⟩ := himage i ha hi
    obtain ⟨hcues, hgroups, hpositions, hzoneTable⟩ := banked_entries i
    obtain ⟨hloaded, hchannel⟩ := loadImage_singles s i
    have hguarantee := guaranteeWriter_profiles hloaded
    have hhold := notices_hold i
    have hkinds := notices_kinds i
    have hlanes := notices_lanes i
    have hbank : t.bankA = i.banked := hA
    have hnotices : t.noticeControl = i.notices := hcontrol
    rw [← hprofiles] at hguarantee
    rw [← hchannels] at hchannel
    rw [← hnotices] at hhold hkinds hlanes
    rw [← hbank] at hcues hgroups hpositions hzoneTable
    exact ⟨hB.trans hA.symm, hcues, hgroups, hpositions, hzoneTable, hhold, hkinds, hlanes, hchannel, hrouter, hguarantee,
      hraises, hdetail⟩
  case defaults =>
    obtain ⟨rfl, rfl⟩ := hdefaults h
    have hguarantee := guaranteeWriter_profiles (s := b) (loaded := fun p => b.profiles[p]) fun _ => rfl
    rw [← hprofiles] at hguarantee
    exact ⟨hA, hB, hcontrol, hchannels, hrouter, hguarantee, hraises, hdetail⟩

end Sys2Proof.Machine
end

section
/-! SUPPORT. What an event may do to the Active Cue List, to the presence of ports and to the swap-pending flag (R13, R15,
R106): the kinds of change, and what each of them keeps. -/

namespace Sys2Proof.Machine

/-- The kinds of change an event is made of, as they stand to R13, R15 and R106. -/
inductive CueChange : State → State → Prop
  /-- The list stands and no port leaves presence; a swap may begin to wait for a list that is not empty. -/
  | aside {s t : State} (active : t.active = s.active)
      (swap : t.swapPending = true → s.swapPending = true ∨ s.active ≠ [])
      (present : ∀ q : Port, s.present q = true → t.present q = true)
      (loader : t.loader = .loading → s.loader = .loading) : CueChange s t
  /-- Records of the list are replaced one after the other, each in its place and with sound sets. -/
  | replaced (s : State) (l : List ActiveCue) (f : State → ActiveCue → ActiveCue) (mem : ∀ r ∈ l, r ∈ s.active)
      (sound : ∀ t r, r ∈ l → t.present = s.present → SetsSound s r → SetsSound s (f t r)) :
      CueChange s (l.foldl (fun t r => t.changeCue (f t r)) s)
  /-- R18: a STANDBY that passes its tests. -/
  | joined (s : State) (slot : CueSlot) (o : Origin) (follow : Option Time) (passes : s.standbyRefusal slot = none) :
      CueChange s (s.joinList (s.newCue slot o follow))
  /-- R48, R108: a record leaves the list, and no swap waits for a list that has become empty. -/
  | removed {s t : State} (slot : CueSlot) (active : t.active = s.active.filter fun x => x.slot != slot)
      (swap : t.swapPending = true → t.active ≠ []) (present : t.present = s.present)
      (loader : t.loader = .loading → s.loader = .loading) : CueChange s t
  /-- R199: the list is emptied. -/
  | emptied {s t : State} (active : t.active = []) (swap : t.swapPending = false)
      (loader : t.loader = .loading → s.loader = .loading) : CueChange s t
  /-- R25: a port leaves presence, and every record is told. -/
  | left {s u : State} (p : Port) (active : u.active = s.active) (swap : u.swapPending = s.swapPending)
      (present : ∀ q : Port, s.present q = true → q ≠ p → u.present q = true)
      (loader : u.loader = .loading → s.loader = .loading) : CueChange s (u.portLost p)
  | trans {s t u : State} (first : CueChange s t) (next : CueChange t u) : CueChange s u

namespace CueChange

/-- What touches neither the list, the flag, the ports nor the loader. -/
theorem same {s t : State} (active : t.active = s.active) (swap : t.swapPending = s.swapPending)
    (ports : t.ports = s.ports) (loader : t.loader = s.loader) : CueChange s t :=
  .aside active (fun h => .inl (swap ▸ h)) (fun q h => (present_of_ports ports q).trans h) (fun h => loader ▸ h)

theorem refl (s : State) : CueChange s s := same rfl rfl rfl rfl

theorem of_sansMsgs {s t : State} (h : t.sansMsgs = s.sansMsgs) : CueChange s t := by
  obtain ⟨-, -, -, -, hports, -, -, -, -, -, -, hswap, hactive, -, -, -, -, -, -, -, -, -, -, -, -, hloader, -⟩ :=
    fields_of_sansMsgs h
  exact same hactive hswap hports hloader

theorem of_sansZones {s t : State} (h : t.sansZones = s.sansZones) : CueChange s t := by
  obtain ⟨-, -, -, -, hports, -, -, -, -, -, -, hswap, hactive, -, -, -, -, -, -, -, -, -, -, -, hloader, -⟩ :=
    fields_of_sansZones h
  exact same hactive hswap hports hloader

theorem of_sansTalk {s t : State} (h : t.sansTalk = s.sansTalk) : CueChange s t :=
  same (congrArg State.active h :) (congrArg State.swapPending h :) (congrArg State.ports h :) (congrArg State.loader h :)

theorem of_sansCalls {s t : State} (h : t.sansCalls = s.sansCalls) : CueChange s t :=
  same (congrArg State.active h :) (congrArg State.swapPending h :) (congrArg State.ports h :) (congrArg State.loader h :)

theorem foldl {β : Type} {f : State → β → State} (h : ∀ t x, CueChange t (f t x)) :
    ∀ (l : List β) (s : State), CueChange s (l.foldl f s)
  | [], s => refl s
  | x :: l, s => (h s x).trans (foldl h l (f s x))

end CueChange

/-! ### What the kinds of change keep -/

/-- Replacing records in their places keeps the slots of the list. -/
theorem changeCue_slots (s : State) (r : ActiveCue) :
    (s.changeCue r).active.map ActiveCue.slot = s.active.map ActiveCue.slot := by
  rw [changeCue_active, List.map_map]
  refine List.map_congr_left fun x _ => ?_
  simp only [Function.comp_apply]
  split
  · rename_i h
    exact h.symm
  · rfl

theorem foldl_changeCue_slots (f : State → ActiveCue → ActiveCue) :
    ∀ (l : List ActiveCue) (s : State),
      (l.foldl (fun t r => t.changeCue (f t r)) s).active.map ActiveCue.slot = s.active.map ActiveCue.slot
  | [], _ => rfl
  | _ :: l, s => (foldl_changeCue_slots f l _).trans (changeCue_slots s _)

theorem foldl_changeCue_swap (f : State → ActiveCue → ActiveCue) (l : List ActiveCue) (s : State) :
    (l.foldl (fun t r => t.changeCue (f t r)) s).swapPending = s.swapPending :=
  (congrArg State.swapPending (foldl_changeCue_sansCues f l s) :)

theorem foldl_changeCue_loader (f : State → ActiveCue → ActiveCue) (l : List ActiveCue) (s : State) :
    (l.foldl (fun t r => t.changeCue (f t r)) s).loader = s.loader :=
  (congrArg State.loader (foldl_changeCue_sansCues f l s) :)

theorem foldl_changeCue_present (f : State → ActiveCue → ActiveCue) (l : List ActiveCue) (s : State) :
    (l.foldl (fun t r => t.changeCue (f t r)) s).present = s.present :=
  present_congr (foldl_changeCue_sansCues f l s)

/-- R13, R106 read the slots of the list and the flag alone. -/
theorem CueListSound.of_slots {s t : State} (h : CueListSound s)
    (slots : t.active.map ActiveCue.slot = s.active.map ActiveCue.slot)
    (swap : t.swapPending = true → s.swapPending = true ∨ s.active ≠ []) : CueListSound t := by
  obtain ⟨hlength, hnodup, hpending⟩ := h
  have hlen : t.active.length = s.active.length := by simpa using congrArg List.length slots
  refine ⟨hlen ▸ hlength, slots ▸ hnodup, fun hs ht => ?_⟩
  have hne : s.active ≠ [] := (swap hs).elim hpending id
  rw [ht, List.length_nil] at hlen
  exact hne (List.eq_nil_of_length_eq_zero hlen.symm)

/-- R17: what the tests of an accepted STANDBY have found. -/
theorem standbyRefusal_none {s : State} {slot : CueSlot} (h : s.standbyRefusal slot = none) :
    (s.cue slot).valid = true ∧ s.swapPending = false ∧ s.findCue slot = none ∧ s.active.length < 8
      ∧ (s.resolve (s.cue slot)).isEmpty = false := by
  unfold State.standbyRefusal at h
  split at h
  · cases h
  split at h
  · cases h
  split at h
  · cases h
  split at h
  · cases h
  split at h
  · cases h
  simp_all

theorem findCue_none {s : State} {slot : CueSlot} : s.findCue slot = none ↔ ∀ r ∈ s.active, r.slot ≠ slot := by
  simp [State.findCue]

theorem findCue_some {s : State} {slot : CueSlot} {r : ActiveCue} (h : s.findCue slot = some r) :
    r ∈ s.active ∧ r.slot = slot := by
  unfold State.findCue at h
  exact ⟨List.mem_of_find?_eq_some h, by simpa using List.find?_some h⟩

@[simp] theorem newCue_slot (s : State) (slot : CueSlot) (o : Origin) (f : Option Time) : (s.newCue slot o f).slot = slot :=
  testReady_slot s _

@[simp] theorem joinList_active (s : State) (r : ActiveCue) : (s.joinList r).active = s.active ++ [r] := rfl

/-- R13, R17: a record that passes FULL and ALREADY joins a sound list. -/
theorem joinList_keeps_list {s : State} {slot : CueSlot} (o : Origin) (f : Option Time)
    (passes : s.standbyRefusal slot = none) (h : CueListSound s) : CueListSound (s.joinList (s.newCue slot o f)) := by
  obtain ⟨-, -, hnew, hroom, -⟩ := standbyRefusal_none passes
  obtain ⟨-, hnodup, -⟩ := h
  refine ⟨by simpa using hroom, ?_, fun _ => by simp⟩
  rw [joinList_active, List.map_append, List.map_cons, List.map_nil, newCue_slot, List.nodup_append]
  refine ⟨hnodup, List.nodup_singleton _, ?_⟩
  intro x hx y hy
  obtain ⟨r, hr, rfl⟩ := List.mem_map.1 hx
  rw [List.mem_singleton.1 hy]
  exact findCue_none.1 hnew r hr

/-- R13, R106: each kind of change keeps the Active Cue List sound. -/
theorem CueChange.keeps_list {s t : State} (h : CueChange s t) : CueListSound s → CueListSound t := by
  induction h with
  | aside active swap _ _ => exact fun hs => hs.of_slots (by rw [active]) swap
  | replaced s l f _ _ =>
    exact fun hs => hs.of_slots (foldl_changeCue_slots f l s) (fun h => .inl (foldl_changeCue_swap f l s ▸ h))
  | joined s slot o f passes => exact joinList_keeps_list o f passes
  | removed slot active swap _ _ =>
    rintro ⟨hlength, hnodup, -⟩
    refine ⟨?_, ?_, swap⟩ <;> rw [active]
    · exact (List.length_filter_le _ _).trans hlength
    · exact hnodup.sublist (List.filter_sublist.map _)
  | emptied active swap _ => exact fun _ => ⟨by simp [active], by simp [active], by simp [swap]⟩
  | left p active swap _ _ =>
    intro hs
    refine hs.of_slots ((foldl_changeCue_slots (fun t r => t.lostCue r p) _ _).trans (by rw [active])) fun h => .inl ?_
    rw [← swap, ← foldl_changeCue_swap (fun t r => t.lostCue r p)]
    exact h
  | trans _ _ first next => exact next ∘ first

/-! ### The sets of the records (R15) -/

/-- The sets of a record, sound as they stand to a set of present ports. -/
def SetsSoundFor (present : Port → Bool) (r : ActiveCue) : Prop :=
  ∀ p : Port,
    (r.targets.mem p = (r.awaited.mem p || r.acked.mem p || r.absent.mem p))
      ∧ (r.awaited.mem p && r.acked.mem p) = false
      ∧ (r.awaited.mem p && r.absent.mem p) = false
      ∧ (r.acked.mem p && r.absent.mem p) = false
      ∧ ((r.awaited.mem p || r.acked.mem p) = true → present p = true)

theorem setsSound_iff (s : State) (r : ActiveCue) : SetsSound s r ↔ SetsSoundFor s.present r := Iff.rfl

/-- Two records with the same four sets. -/
def SameSets (r x : ActiveCue) : Prop :=
  x.targets = r.targets ∧ x.awaited = r.awaited ∧ x.acked = r.acked ∧ x.absent = r.absent

theorem SetsSoundFor.of_sameSets {present : Port → Bool} {r x : ActiveCue} (h : SetsSoundFor present r)
    (same : SameSets r x) : SetsSoundFor present x := by
  obtain ⟨htargets, hawaited, hacked, habsent⟩ := same
  unfold SetsSoundFor
  rw [htargets, hawaited, hacked, habsent]
  exact h

theorem SetsSoundFor.mono {present present' : Port → Bool} {r : ActiveCue} (h : SetsSoundFor present r)
    (grows : ∀ p, present p = true → present' p = true) : SetsSoundFor present' r := fun p => by
  obtain ⟨hunion, h1, h2, h3, hpresent⟩ := h p
  exact ⟨hunion, h1, h2, h3, fun hp => grows p (hpresent hp)⟩

/-- R25: presence may shrink by a port that a record has absent. -/
theorem SetsSoundFor.without {present present' : Port → Bool} {r : ActiveCue} {p : Port} (h : SetsSoundFor present r)
    (keeps : ∀ q, present q = true → q ≠ p → present' q = true) (hawaited : r.awaited.mem p = false)
    (hacked : r.acked.mem p = false) : SetsSoundFor present' r := fun q => by
  obtain ⟨hunion, h1, h2, h3, hpresent⟩ := h q
  refine ⟨hunion, h1, h2, h3, fun hq => keeps q (hpresent hq) ?_⟩
  rintro rfl
  rw [hawaited, hacked] at hq
  cases hq

theorem testReady_sameSets (s : State) (r : ActiveCue) : SameSets r (s.testReady r) := by
  unfold State.testReady
  split <;> exact ⟨rfl, rfl, rfl, rfl⟩

/-- R18: the split of a new record's targets. -/
theorem newCue_sound (s : State) (slot : CueSlot) (o : Origin) (f : Option Time) : SetsSound s (s.newCue slot o f) := by
  refine SetsSoundFor.of_sameSets ?_ (testReady_sameSets s _)
  intro p
  simp only [State.standingCue, PortSet.mem_inter, PortSet.mem_diff, PortSet.mem_none, State.presentSet,
    PortSet.mem_ofTest]
  cases (s.resolve (s.cue slot)).mem p <;> cases s.present p <;> simp

/-- R22: a port that a record awaits becomes acked. -/
theorem ackedCue_sound {s : State} (t : State) {r : ActiveCue} {p : Port} (h : SetsSound s r)
    (hp : r.awaited.mem p = true) : SetsSound s (t.ackedCue r p) := by
  refine SetsSoundFor.of_sameSets ?_ (testReady_sameSets t _)
  intro q
  have hq := h q
  simp only [PortSet.mem_erase, PortSet.mem_insert]
  by_cases e : p = q
  · subst e
    simp_all
  · simpa [e] using hq

/-- R25: a port that a record awaited or held acked becomes absent. -/
theorem lostCue_sound {present : Port → Bool} (t : State) {r : ActiveCue} {p : Port} (h : SetsSoundFor present r)
    (hp : r.losesPort p = true) : SetsSoundFor present (t.lostCue r p) := by
  refine SetsSoundFor.of_sameSets ?_ (testReady_sameSets t _)
  intro q
  have hq := h q
  simp only [PortSet.mem_erase, PortSet.mem_insert]
  by_cases e : p = q
  · subst e
    have hp' : (r.awaited.mem p || r.acked.mem p) = true := hp
    simp [hq.1, hp']
  · simpa [e] using hq

/-- R26: a present port that a record had absent is awaited again. -/
theorem regained_sound {s : State} {r : ActiveCue} {p : Port} (h : SetsSound s r) (hp : r.regainsPort p = true)
    (hs : s.present p = true) : SetsSound s (r.regained p) := by
  have hp' : r.absent.mem p = true := by
    unfold ActiveCue.regainsPort at hp
    exact (Bool.and_eq_true_iff.1 hp).2
  intro q
  have hq := h q
  simp only [ActiveCue.regained, PortSet.mem_erase, PortSet.mem_insert]
  by_cases e : p = q
  · subst e
    simp_all
  · simpa [e] using hq

/-- Changes of records one after the other keep what each record keeps. -/
theorem foldl_changeCue_forall {P : ActiveCue → Prop} (f : State → ActiveCue → ActiveCue) (s : State) :
    ∀ (l : List ActiveCue) (t : State), t.present = s.present →
      (∀ t r, r ∈ l → t.present = s.present → P (f t r)) → (∀ r ∈ t.active, P r) →
      ∀ r ∈ (l.foldl (fun t r => t.changeCue (f t r)) t).active, P r
  | [], _, _, _, ht => ht
  | x :: l, t, hp, hf, ht => by
    refine foldl_changeCue_forall f s l _ ((present_congr (changeCue_sansCues t _)).trans hp)
      (fun t r hr => hf t r (List.mem_cons_of_mem x hr)) fun r hr => ?_
    rw [changeCue_active] at hr
    obtain ⟨y, hy, rfl⟩ := List.mem_map.1 hr
    split
    · exact hf t x List.mem_cons_self hp
    · exact ht y hy

/-- R15: each kind of change keeps the sets of every record sound. -/
theorem CueChange.keeps_sets {s t : State} (h : CueChange s t) :
    (∀ r ∈ s.active, SetsSound s r) → ∀ r ∈ t.active, SetsSound t r := by
  induction h with
  | aside active _ present _ =>
    intro hs r hr
    rw [active] at hr
    exact SetsSoundFor.mono (hs r hr) present
  | replaced s l f mem sound =>
    intro hs r hr
    rw [setsSound_iff, foldl_changeCue_present]
    exact foldl_changeCue_forall (P := SetsSound s) f s l s rfl (fun t r hr ht => sound t r hr ht (hs r (mem r hr))) hs r hr
  | joined s slot o f _ =>
    intro hs r hr
    rcases List.mem_append.1 hr with hr | hr
    · exact hs r hr
    · rw [List.mem_singleton.1 hr]
      exact newCue_sound s slot o f
  | removed slot active _ present _ =>
    intro hs r hr
    rw [active] at hr
    rw [setsSound_iff, present]
    exact hs r (List.mem_filter.1 hr).1
  | emptied active _ _ =>
    intro _ r hr
    rw [active] at hr
    cases hr
  | @left s u p active _ present _ =>
    intro hs r hr
    obtain ⟨hawaited, hacked⟩ := portLost_sets u p r hr
    have hsound : SetsSoundFor s.present r :=
      foldl_changeCue_forall (P := SetsSoundFor s.present) (fun t r => t.lostCue r p) u _ u rfl
        (fun t r hr _ => by
          obtain ⟨hmem, hloses⟩ := List.mem_filter.1 hr
          exact lostCue_sound t (hs r (active ▸ hmem)) hloses)
        (fun r hr => hs r (active ▸ hr)) r hr
    rw [setsSound_iff, show (u.portLost p).present = u.present from
      foldl_changeCue_present (fun t r => t.lostCue r p) _ u]
    exact hsound.without present hawaited hacked
  | trans _ _ first next => exact next ∘ first

/-- Only a power-on sets the loader LOADING (R195). -/
theorem CueChange.loader {s t : State} (h : CueChange s t) : t.loader = .loading → s.loader = .loading := by
  induction h with
  | aside _ _ _ loader => exact loader
  | replaced s l f _ _ => exact fun h => foldl_changeCue_loader f l s ▸ h
  | joined s slot o f _ => exact id
  | removed _ _ _ _ loader => exact loader
  | emptied _ _ loader => exact loader
  | left p _ _ _ loader => exact fun h => loader (foldl_changeCue_loader (fun t r => t.lostCue r p) _ _ ▸ h)
  | trans _ _ first next => exact first ∘ next

end Sys2Proof.Machine
end

section
/-! SUPPORT. The change of the Active Cue List, of presence and of the swap-pending flag that each operation makes. -/

namespace Sys2Proof.Machine

theorem raise_change (s : State) (d : NoticeDetail) : CueChange s (s.raise d) := .of_sansMsgs (raise_sansMsgs s d)

/-! ### The Cue Engine -/

/-- One record of the list is replaced by one with sound sets. -/
theorem putCue_change {s : State} {r x : ActiveCue} (hr : r ∈ s.active) (hx : SameSets r x) : CueChange s (s.putCue x) :=
  (CueChange.replaced s [r] (fun _ _ => x) (by simpa using hr)
    (fun _ y hy _ h => by rw [List.mem_singleton.1 hy] at h; exact SetsSoundFor.of_sameSets h hx)).trans
    (.same (by simp) (by simp) (by simp) (by simp))

theorem changeCue_change {s : State} {r x : ActiveCue} (hr : r ∈ s.active) (hx : SameSets r x) :
    CueChange s (s.changeCue x) :=
  (putCue_change hr hx).trans (.of_sansMsgs (deskStatus_sansMsgs _ _))

theorem appendCue_change {s : State} {slot : CueSlot} (o : Origin) (f : Option Time) (h : s.standbyRefusal slot = none) :
    CueChange s (s.appendCue (s.newCue slot o f)) :=
  (CueChange.joined s slot o f h).trans (.of_sansMsgs ((noticeAbsent_sansMsgs _ _).trans (deskStatus_sansMsgs _ _)))

/-- R39: the record a GO takes stands in the list. -/
theorem goTarget_mem {s : State} {slot : CueSlot} {r : ActiveCue} (h : s.goTarget slot = .ok r) :
    s.findCue slot = some r := by
  unfold State.goTarget at h
  split at h
  · cases h
  · rename_i x hx
    split at h
    · cases h
    split at h
    · cases h
    split at h
    · cases h
    split at h
    · cases h
    · cases h
      exact hx

theorem enterGoing_change {s : State} {r : ActiveCue} (h : r ∈ s.active) : CueChange s (s.enterGoing r) :=
  changeCue_change h ⟨rfl, rfl, rfl, rfl⟩

theorem refuseCue_change (s : State) (slot : CueSlot) (st : Status) (o : RefusedOrigin) :
    CueChange s (s.refuseCue slot st o) := .of_sansMsgs (refuseCue_sansMsgs s slot st o)

theorem linkStanding_change {s : State} {r : ActiveCue} (from_ : CueSlot) (delay : Nat) (h : r ∈ s.active) :
    CueChange s (s.linkStanding r from_ delay) := by
  unfold State.linkStanding
  cases r.state with
  | standby | ready | held => exact putCue_change h ⟨rfl, rfl, rfl, rfl⟩
  | going => exact refuseCue_change _ _ _ _

/-- R49–R53: a successor link stands records by, sends them, or refuses. -/
theorem applyLink_change : ∀ (n : Nat) (r : ActiveCue) (s : State), CueChange s (State.applyLink n r s)
  | 0, _, s => .refl s
  | n + 1, r, s => by
    unfold State.applyLink
    cases (s.cue r.slot).successor with
    | none => exact .refl s
    | some link =>
      cases link with
      | standbyNext next =>
        simp only
        cases hrefusal : s.standbyRefusal next with
        | some st => exact refuseCue_change _ _ _ _
        | none => exact appendCue_change _ _ hrefusal
      | autofollow next delay =>
        simp only
        cases hfind : s.findCue next with
        | some x =>
          simp only
          split
          · cases hgo : s.goTarget next with
            | error st => exact refuseCue_change _ _ _ _
            | ok y => exact (enterGoing_change (findCue_some (goTarget_mem hgo)).1).trans (applyLink_change n y _)
          · exact linkStanding_change _ _ (findCue_some hfind).1
        | none =>
          simp only
          cases hrefusal : s.standbyRefusal next with
          | some st => exact refuseCue_change _ _ _ _
          | none =>
            simp only
            split
            · split
              · exact (appendCue_change _ _ hrefusal).trans (refuseCue_change _ _ _ _)
              · rename_i y hgo
                have hsent := enterGoing_change (findCue_some (goTarget_mem hgo)).1
                exact ((CueChange.joined s next _ _ hrefusal).trans
                  (hsent.trans (.of_sansMsgs (noticeAbsent_sansMsgs _ _)))).trans (applyLink_change n y _)
            · exact appendCue_change _ _ hrefusal

theorem takeGo_change {s : State} {slot : CueSlot} {r : ActiveCue} (h : s.goTarget slot = .ok r) :
    CueChange s (s.takeGo r) :=
  (enterGoing_change (findCue_some (goTarget_mem h)).1).trans (applyLink_change _ _ _)

theorem standbyRequest_change (p : Port) (slot : CueSlot) (s : State) : CueChange s (standbyRequest p slot s).1 := by
  unfold standbyRequest
  cases h : s.standbyRefusal slot with
  | some st => exact .refl s
  | none => exact appendCue_change _ _ h

theorem standbyByPosition_change (s : State) (c : CounterId) (slot : CueSlot) :
    CueChange s (s.standbyByPosition c slot) := by
  unfold State.standbyByPosition
  cases h : s.standbyRefusal slot with
  | some st => exact refuseCue_change _ _ _ _
  | none => exact appendCue_change _ _ h

theorem goRequest_change (slot : CueSlot) (s : State) : CueChange s (goRequest slot s).1 := by
  unfold goRequest
  cases h : s.goTarget slot with
  | error st => exact .refl s
  | ok r => exact takeGo_change h

theorem goNextRequest_change (s : State) : CueChange s (goNextRequest s).1 := by
  unfold goNextRequest
  cases s.oldestReady with
  | none => exact .refl s
  | some r =>
    simp only
    cases h : s.goTarget r.slot with
    | error st => exact .refl s
    | ok x => exact takeGo_change h

theorem goByPosition_change (s : State) (c : CounterId) (slot : CueSlot) : CueChange s (s.goByPosition c slot) := by
  unfold State.goByPosition
  cases h : s.goTarget slot with
  | error st => exact refuseCue_change _ _ _ _
  | ok r => exact takeGo_change h

theorem holdTarget_mem {s : State} {slot : CueSlot} {r : ActiveCue} (h : s.holdTarget slot = .ok r) :
    s.findCue slot = some r := by
  unfold State.holdTarget at h
  split at h
  · cases h
  · rename_i x hx
    split at h <;> cases h
    exact hx

theorem releaseTarget_mem {s : State} {slot : CueSlot} {r : ActiveCue} (h : s.releaseTarget slot = .ok r) :
    s.findCue slot = some r := by
  unfold State.releaseTarget at h
  split at h
  · cases h
  · rename_i x hx
    split at h <;> cases h
    exact hx

theorem holdRequest_change (slot : CueSlot) (s : State) : CueChange s (holdRequest slot s).1 := by
  unfold holdRequest
  cases h : s.holdTarget slot with
  | error st => exact .refl s
  | ok r => exact changeCue_change (findCue_some (holdTarget_mem h)).1 ⟨rfl, rfl, rfl, rfl⟩

theorem releasedCue_sameSets (s : State) (r : ActiveCue) : SameSets r (s.releasedCue r) := testReady_sameSets s _

theorem releaseRequest_change (slot : CueSlot) (s : State) : CueChange s (releaseRequest slot s).1 := by
  unfold releaseRequest
  cases h : s.releaseTarget slot with
  | error st => exact .refl s
  | ok r => exact changeCue_change (findCue_some (releaseTarget_mem h)).1 (releasedCue_sameSets s r)

/-- A change of every record that passes a test, each into one with the same sets. -/
theorem changeEach_change (s : State) (P : ActiveCue → Bool) (f : State → ActiveCue → ActiveCue)
    (hf : ∀ t r, SameSets r (f t r)) : CueChange s ((s.active.filter P).foldl (fun t r => t.changeCue (f t r)) s) :=
  .replaced s _ f (fun _ hr => (List.mem_filter.1 hr).1) fun t r _ _ h => SetsSoundFor.of_sameSets h (hf t r)

theorem holdAllRequest_change (s : State) : CueChange s (holdAllRequest s).1 := by
  unfold holdAllRequest
  split
  · exact changeEach_change s _ (fun t r => t.heldCue r) fun _ _ => ⟨rfl, rfl, rfl, rfl⟩
  · split <;> [skip; split] <;> exact .refl s

theorem releaseAllRequest_change (s : State) : CueChange s (releaseAllRequest s).1 := by
  unfold releaseAllRequest
  split
  · exact changeEach_change s _ (fun t r => t.releasedCue r) releasedCue_sameSets
  · split <;> exact .refl s

/-- R109: a swap that completes touches neither the list nor the ports, and nothing waits any longer. -/
theorem completeSwap_list (s : State) (x : SwapCause) :
    (s.completeSwap x).active = s.active ∧ (s.completeSwap x).swapPending = false ∧ (s.completeSwap x).ports = s.ports
      ∧ (s.completeSwap x).loader = s.loader := by
  simp [State.completeSwap, State.rewindCounters, State.flip]

theorem completeSwap_change (s : State) (x : SwapCause) : CueChange s (s.completeSwap x) := by
  obtain ⟨hactive, hswap, hports, hloader⟩ := completeSwap_list s x
  exact .aside hactive (by simp [hswap]) (fun q h => (present_of_ports hports q).trans h)
    (fun h => hloader.symm.trans h)

/-- R108: a swap that waits completes once the list is empty. -/
theorem listEmptied_list (s : State) :
    s.listEmptied.active = s.active ∧ (s.listEmptied.swapPending = true → s.active ≠ []) := by
  unfold State.listEmptied
  split
  · obtain ⟨hactive, hswap, -⟩ := completeSwap_list s .drain
    exact ⟨hactive, fun h => absurd (hswap.symm.trans h) Bool.false_ne_true⟩
  · rename_i hc
    exact ⟨rfl, fun h he => hc (by rw [he, h]; rfl)⟩

/-- R48, R108: the record leaves, and a swap that waited for the list to become empty completes. -/
theorem removeCue_change (s : State) (r : ActiveCue) (x : DeskState) : CueChange s (s.removeCue r x) := by
  have hdropped : ((s.dropCue r.slot).deskStatus (s.deskBody r x)).active = s.active.filter fun y => y.slot != r.slot := by
    simp [State.dropCue]
  obtain ⟨hactive, hswap⟩ := listEmptied_list ((s.dropCue r.slot).deskStatus (s.deskBody r x))
  exact .removed r.slot (hactive.trans hdropped) (fun h he => hswap h (hactive.symm.trans he))
    (funext fun q => present_of_ports (by simp) q) (by simp)

theorem cancelRequest_change (slot : CueSlot) (s : State) : CueChange s (cancelRequest slot s).1 := by
  unfold cancelRequest
  cases s.cancelTarget slot with
  | error st => exact .refl s
  | ok r => exact removeCue_change s r _

theorem cancelAllRequest_change (s : State) : CueChange s (cancelAllRequest s).1 := by
  unfold cancelAllRequest
  split
  · exact .foldl (fun t r => removeCue_change t r _) _ s
  · split <;> exact .refl s

theorem ackExpiry_change (s : State) (slot : CueSlot) : CueChange s (s.ackExpiry slot) := by
  unfold State.ackExpiry
  cases h : s.findCue slot with
  | none => exact .refl s
  | some r =>
    simp only
    split
    · unfold State.ackExpired
      split
      · have hlate : SameSets r { r with ackDeadline := none, overdue := true } := ⟨rfl, rfl, rfl, rfl⟩
        exact (changeCue_change (findCue_some h).1 hlate).trans (raise_change _ _)
      · exact putCue_change (findCue_some h).1 ⟨rfl, rfl, rfl, rfl⟩
    · exact .refl s

theorem followExpiry_change (s : State) (slot : CueSlot) : CueChange s (s.followExpiry slot) := by
  unfold State.followExpiry
  cases h : s.findCue slot with
  | none => exact .refl s
  | some r =>
    simp only
    split
    · have hput : CueChange s (s.putCue { r with followDeadline := none }) :=
        putCue_change (findCue_some h).1 ⟨rfl, rfl, rfl, rfl⟩
      unfold State.followExpired
      refine hput.trans ?_
      simp only
      split
      · exact refuseCue_change _ _ _ _
      · rename_i hgo
        exact takeGo_change hgo
    · exact .refl s

theorem goDisplayExpiry_change (s : State) (slot : CueSlot) : CueChange s (s.goDisplayExpiry slot) := by
  unfold State.goDisplayExpiry
  split
  · exact .refl s
  · split
    · exact removeCue_change _ _ _
    · exact .refl s

theorem cuePress_change (s : State) (p : Port) : CueChange s (s.cuePress p) :=
  .replaced s _ (fun t r => t.ackedCue r p) (fun _ hr => (List.mem_filter.1 hr).1) fun t _ hr _ h => by
    obtain ⟨-, htakes⟩ := List.mem_filter.1 hr
    exact ackedCue_sound t h (Bool.and_eq_true_iff.1 htakes).2

/-- R26: the records take back a port that is present. -/
theorem portReturned_change {s : State} {p : Port} (hp : s.present p = true) : CueChange s (s.portReturned p) :=
  .replaced s _ (fun _ r => r.regained p) (fun _ hr => (List.mem_filter.1 hr).1) fun _ _ hr _ h =>
    regained_sound h (List.mem_filter.1 hr).2 hp

/-! ### The counters -/

theorem sendPosition_change (s : State) (c : CounterId) (e : PositionEntry) : CueChange s (s.sendPosition c e) := by
  unfold State.sendPosition
  split
  · exact standbyByPosition_change _ _ _
  · exact goByPosition_change _ _ _

theorem setCounter_change (s : State) (c : CounterId) (x : Counter) : CueChange s (s.setCounter c x) :=
  .same (by simp) (by simp) (by simp) (by simp)

theorem evalCounterZones_change (s : State) (c : CounterId) : CueChange s (s.evalCounterZones c) :=
  .of_sansZones (evalCounterZones_sansZones s c)

theorem advance_change (s : State) (c : CounterId) : CueChange s (s.advance c) := by
  unfold State.advance
  split
  · exact (setCounter_change _ _ _).trans (raise_change _ _)
  · exact setCounter_change _ _ _

theorem testPosition_change (s : State) (c : CounterId) (up : Bool) : CueChange s (s.testPosition c up) := by
  unfold State.testPosition
  split
  · split
    · split
      · exact (sendPosition_change _ _ _).trans (advance_change _ _)
      · exact .refl s
    · exact .refl s
  · exact .refl s

theorem applyStep_change (s : State) (c : CounterId) (up : Bool) : CueChange s (s.applyStep c up) := by
  unfold State.applyStep
  split
  · exact .refl s
  · split
    · exact ((setCounter_change _ _ _).trans (evalCounterZones_change _ _)).trans (testPosition_change _ _ _)
    · exact ((setCounter_change _ _ _).trans (raise_change _ _)).trans (evalCounterZones_change _ _)

theorem applyIndex_change (s : State) (c : CounterId) : CueChange s (s.applyIndex c) := by
  unfold State.applyIndex
  split
  · exact (((setCounter_change _ _ _).trans (setCounter_change _ _ _)).trans (raise_change _ _)).trans
      (evalCounterZones_change _ _)
  · exact .refl s

theorem setPins_change (s : State) (c : CounterId) (l : Levels) : CueChange s (s.setPins c l) :=
  .same (by simp) (by simp) (by simp) (by simp)

theorem levelAB_change (s : State) (c : CounterId) (a b : Bool) : CueChange s (s.levelAB c a b) := by
  unfold State.levelAB
  refine (setPins_change s c { s.pin c with a := a, b := b }).trans ?_
  simp only
  generalize s.setPins c { s.pin c with a := a, b := b } = t
  split
  · have hdrawn : CueChange t ((t.takeAB c a b).draw (drawsFree (t.counter c).mode (t.counter c).ref a b)) :=
      (setCounter_change t c { t.counter c with ref := { (t.counter c).ref with a := a, b := b } }).trans
        (.same rfl rfl rfl rfl)
    split
    · exact hdrawn
    · exact hdrawn.trans (applyStep_change _ _ _)
  · exact .refl t

theorem levelZ_change (s : State) (c : CounterId) (z : Bool) : CueChange s (s.levelZ c z) := by
  unfold State.levelZ
  refine (setPins_change s c { s.pin c with z := z }).trans ?_
  simp only
  split
  · split
    · exact (setCounter_change _ _ _).trans (applyIndex_change _ _)
    · exact setCounter_change _ _ _
  · exact .refl _

theorem changeLevel_change (s : State) (c : CounterId) (l : LevelChange) : CueChange s (s.changeLevel c l) := by
  cases l with
  | ab a b => exact levelAB_change s c a b
  | z level => exact levelZ_change s c level
  | pins a b z => exact setPins_change s c _

theorem counterControl_change {command : CounterId → State → State × Status}
    (h : ∀ c s, CueChange s (command c s).1) (c : Named CounterId) (s : State) :
    CueChange s (counterControl c command s).1 := by
  cases c with
  | none => exact .refl s
  | some x => exact h x s

theorem commandSet_change (v : Int) (c : CounterId) (s : State) : CueChange s (commandSet v c s).1 := by
  unfold commandSet
  split
  · exact (setCounter_change _ _ _).trans (evalCounterZones_change _ _)
  · exact .refl s

theorem commandPreset_change (v : Int) (c : CounterId) (s : State) : CueChange s (commandPreset v c s).1 := by
  unfold commandPreset
  split
  · exact setCounter_change _ _ _
  · exact .refl s

theorem commandStart_change (c : CounterId) (s : State) : CueChange s (commandStart c s).1 := by
  unfold commandStart
  split
  · exact .refl s
  · split
    · exact .refl s
    · exact setCounter_change _ _ _

theorem commandSeek_change (i : Nat) (c : CounterId) (s : State) : CueChange s (commandSeek i c s).1 := by
  unfold commandSeek
  split
  · exact .refl s
  · split
    · exact .refl s
    · exact setCounter_change _ _ _

theorem commandMode_change (m : Named CountMode) (c : CounterId) (s : State) : CueChange s (commandMode m c s).1 := by
  unfold commandMode
  split
  · exact .refl s
  · split
    · exact setCounter_change _ _ _
    · exact .refl s

theorem counterMisfit_change (c : Named CounterId) (s : State) : CueChange s (counterMisfit c s).1 := by
  cases c with
  | none | some x => exact .refl s

/-! ### The banks and the single tables -/

theorem setEdit_change (s : State) (x : BankTables) : CueChange s (s.setEdit x) := by
  unfold State.setEdit
  split <;> exact .same rfl rfl rfl rfl

theorem writeEntry_change {ι α : Type} {index : Option ι} {entry : ι → Option α} {store : ι → α → State} {s : State}
    (h : ∀ i x, CueChange s (store i x)) : CueChange s (writeEntry index entry store s).1 := by
  unfold writeEntry
  split
  · exact .refl s
  · split
    · exact .refl s
    · exact h _ _

theorem copyRequest_change (s : State) : CueChange s (copyRequest s).1 := by
  unfold copyRequest
  split
  · exact .refl s
  · exact setEdit_change s _

/-- R105, R106: a swap waits only for a list that is not empty. -/
theorem swapRequest_change (s : State) : CueChange s (swapRequest s).1 := by
  unfold swapRequest
  split
  · exact .refl s
  · split
    · simp only [State.bankAnswer]
      exact completeSwap_change s .request
    · rename_i he
      exact .aside rfl (fun _ => .inr fun h => he (by rw [h]; rfl)) (fun _ h => h) id

theorem cancelSwapRequest_change (s : State) : CueChange s (cancelSwapRequest s).1 := by
  unfold cancelSwapRequest
  split
  · exact .aside rfl (fun h => nomatch h) (fun _ h => h) id
  · exact .refl s

theorem storeChannel_change (s : State) (c : Chan) (e : ChannelEntry) : CueChange s (s.storeChannel c e) := by
  unfold State.storeChannel
  simp only
  split
  · exact .same (by simp) (by simp) (by simp) (by simp)
  · exact .same (by simp) (by simp) (by simp) (by simp)

theorem writeNoticeRequest_change (index : Nat) (w : NoticeEntryWrite) (s : State) :
    CueChange s (writeNoticeRequest index w s).1 := by
  unfold writeNoticeRequest
  split
  · exact .refl s
  · split
    · exact .refl s
    · exact .same (by simp) (by simp) (by simp) (by simp)

theorem noticeHoldRequest_change (x : Option Nat) (s : State) : CueChange s (noticeHoldRequest x s).1 := by
  unfold noticeHoldRequest
  split
  · exact .refl s
  · split
    · exact .refl s
    · exact .same (by simp) (by simp) (by simp) (by simp)

theorem noticeUnholdRequest_change (x : Option Nat) (s : State) : CueChange s (noticeUnholdRequest x s).1 := by
  unfold noticeUnholdRequest
  split
  · exact .refl s
  · split
    · exact .same (by simp) (by simp) (by simp) (by simp)
    · exact .refl s

theorem noticeClearRequest_change (x : Option Nat) (s : State) : CueChange s (noticeClearRequest x s).1 := by
  unfold noticeClearRequest
  split
  · exact .refl s
  · split
    · exact .refl s
    · exact .same (by simp) (by simp) (by simp) (by simp)

theorem laneCommand_change {command : Lane → State → State × Answer} (h : ∀ l s, CueChange s (command l s).1)
    (x : Option Nat) (s : State) : CueChange s (laneCommand x command s).1 := by
  unfold laneCommand
  split
  · exact .refl s
  · split
    · exact .refl s
    · exact h _ s

theorem commandOpen_change (l : Lane) (s : State) : CueChange s (commandOpen l s).1 := by
  unfold commandOpen
  split
  · exact .refl s
  · exact .same (by simp [State.setOpen]) (by simp [State.setOpen]) (by simp [State.setOpen]) (by simp [State.setOpen])

theorem commandClose_change (l : Lane) (s : State) : CueChange s (commandClose l s).1 := by
  unfold commandClose
  split
  · exact .same (by simp [State.setOpen]) (by simp [State.setOpen]) (by simp [State.setOpen]) (by simp [State.setOpen])
  · exact .refl s

end Sys2Proof.Machine
end

section
/-! SUPPORT. As the file before it, for the ports, the requests and the frames; and what one command may change. -/

namespace Sys2Proof.Machine

/-! ### The ports -/

theorem setPort_present (s : State) (p q : Port) (r : PortRecord) :
    (s.setPort p r).present q = if q = p then r.state.present else s.present q := by
  simp only [State.present, setPort_fields, get_put]
  split <;> rfl

/-- A port record may be replaced by any that leaves the port present if it was. -/
theorem setPort_change {s : State} {p : Port} {r : PortRecord} (h : s.present p = true → r.state.present = true) :
    CueChange s (s.setPort p r) := by
  refine .aside (by simp) (by simpa using Or.inl) (fun q hq => ?_) (by simp)
  rw [setPort_present]
  split
  · rename_i e
    subst e
    exact h hq
  · exact hq

theorem setAssembly_change (s : State) (p : Port) (a : Assembly) : CueChange s (s.setAssembly p a) :=
  .same (by simp) (by simp) (by simp) (by simp)

theorem setQueue_change (s : State) (p : Port) (q : List TxEntry) : CueChange s (s.setQueue p q) :=
  .same (by simp) (by simp) (by simp) (by simp)

theorem setSample_change (s : State) (p : Port) (x : Option Sample) : CueChange s (s.setSample p x) :=
  .same (by simp) (by simp) (by simp) (by simp)

theorem setProfile_change (s : State) (p : Port) (f : Profile) : CueChange s (s.setProfile p f) :=
  .same (by simp) (by simp) (by simp) (by simp)

/-- R199: a RESTART empties the list, and no swap waits. -/
theorem restart_change (s : State) : CueChange s s.restart := by
  unfold State.restart
  rw [abandonSave_eq]
  exact (CueChange.emptied rfl rfl (by simp)).trans (raise_change _ _)

theorem orphanRestart_change (s : State) (p : Port) : CueChange s (s.orphanRestart p) := by
  unfold State.orphanRestart
  split
  · exact restart_change s
  · exact .refl s

theorem clearPort_present (s : State) (p q : Port) (target : PortState) :
    (s.clearPort p target).present q = if q = p then target.present else s.present q :=
  setPort_present s p q _

/-- R158: what follows in the other blocks once the records have been told. -/
theorem leavePresence_change {s u : State} {p : Port} (active : u.active = s.active)
    (swap : u.swapPending = s.swapPending) (present : ∀ q : Port, s.present q = true → q ≠ p → u.present q = true)
    (loader : u.loader = s.loader) : CueChange s (u.leavePresence p) :=
  (CueChange.left p active swap present fun h => loader ▸ h).trans
    (.same (by simp [State.leavePresence]) (by simp [State.leavePresence]) (by simp [State.leavePresence])
      (by simp [State.leavePresence]))

/-- R154, R158, R163: a fall, of a present port or of another. -/
theorem fall_change (s : State) (p : Port) (target : PortState) (cause : Option DownCause) :
    CueChange s (s.fall p target cause) := by
  unfold State.fall
  split
  · have hleft : CueChange s ((s.clearPort p (s.fallTarget p target)).leavePresence p) := by
      refine leavePresence_change rfl rfl (fun q hq hp => ?_) rfl
      rw [clearPort_present, if_neg hp]
      exact hq
    exact (hleft.trans (.of_sansMsgs (portDown_sansMsgs _ p cause))).trans (orphanRestart_change _ p)
  · rename_i hp
    exact (setPort_change fun hp' => absurd hp' hp).trans (.same rfl rfl rfl rfl)

theorem carryOut_change (s : State) (p : Port) : CueChange s (s.carryOut p) := by
  unfold State.carryOut
  split
  · exact .refl s
  · exact fall_change s p _ _
  · exact fall_change s p _ _

theorem queueAsk_change (s : State) (p : Port) (n : Nat) : CueChange s (s.queueAsk p n) :=
  .same (by simp) (by simp) (by simp) (by simp)

/-- A port in a state that is not present may take any record. -/
theorem setPort_change_of_absent {s : State} {p : Port} {r : PortRecord} (h : s.ports[p].state.present = false) :
    CueChange s (s.setPort p r) :=
  setPort_change fun hp => nomatch h.symm.trans hp

theorem startProbing_change {s : State} {p : Port} (h : s.ports[p].state.present = false) :
    CueChange s (s.startProbing p) :=
  (setPort_change_of_absent h).trans (queueAsk_change _ _ _)

theorem enterUp_change {s : State} {p : Port} (i : Ident) (keys : Keys) (h : s.ports[p].state.present = false) :
    CueChange s (s.enterUp p i keys) := by
  have hset := setPort_change_of_absent (r := { s.ports[p] with
      state := .up, ident := some i, asksSent := 0, askDeadline := none, keyRef := some keys }) h
  have hup := setPort_present s p p { s.ports[p] with
      state := .up, ident := some i, asksSent := 0, askDeadline := none, keyRef := some keys }
  unfold State.enterUp
  generalize s.setPort p _ = t at hset hup ⊢
  have hcleared : CueChange t ((t.setAssembly p .empty).dropAsks p) := .same (by simp) (by simp) (by simp) (by simp)
  have hback : ((t.setAssembly p .empty).dropAsks p).present p = true := by
    rw [present_of_ports (s := t) (by simp), hup, if_pos rfl]
    rfl
  exact ((hset.trans hcleared).trans (portReturned_change hback)).trans
    ((CueChange.of_sansMsgs (offer_sansMsgs _ _)).trans (raise_change _ _))

theorem enterFault_change {s : State} {p : Port} (i : Option Ident) (cause : FaultCause)
    (h : s.ports[p].state.present = false) : CueChange s (s.enterFault p i cause) := by
  unfold State.enterFault
  exact (((setPort_change_of_absent h).trans (setAssembly_change _ _ _)).trans (setQueue_change _ _ _)).trans
    (raise_change _ _)

/-- R161: only a port in PROBING takes an IDENT reply. -/
theorem identOf_probing {s : State} {p : Port} {tag cls keyCount : Octet} {serial : BitVec 32} {i : Ident}
    (h : s.identOf p tag cls keyCount serial = some i) : s.ports[p].state = .probing := by
  unfold State.identOf at h
  obtain ⟨c, -, hc⟩ := Option.bind_eq_some_iff.1 h
  obtain ⟨htest, -⟩ := guarded_eq_some.1 hc
  simp only [Bool.and_eq_true, beq_iff_eq] at htest
  exact htest.1.1

theorem takeIdent_change (s : State) (p : Port) (tag cls keyCount : Octet) (serial : BitVec 32) (keys : Keys) :
    CueChange s (s.takeIdent p tag cls keyCount serial keys) := by
  unfold State.takeIdent
  split
  · exact .refl s
  · rename_i i hi
    have habsent : s.ports[p].state.present = false := by rw [identOf_probing hi]; rfl
    unfold State.judgeIdent
    split
    · exact enterUp_change _ _ habsent
    · exact enterFault_change _ _ habsent

theorem askExpiry_change (s : State) (p : Port) : CueChange s (s.askExpiry p) := by
  unfold State.askExpiry
  split
  · rename_i h
    have habsent : s.ports[p].state.present = false := by rw [h.1]; rfl
    unfold State.askExpired
    split
    · exact (setPort_change_of_absent habsent).trans (queueAsk_change _ _ _)
    · exact enterFault_change _ _ habsent
  · exact .refl s

theorem portControl_change {command : Port → State → State × Answer} (h : ∀ n s, CueChange s (command n s).1) (n : Nat)
    (s : State) : CueChange s (portControl n command s).1 := by
  unfold portControl
  split
  · exact .refl s
  · exact h _ s

theorem wake_change {s : State} {n : Port} (h : s.ports[n].state = .disabled) : CueChange s (s.wake n) :=
  setPort_change_of_absent (by rw [h]; rfl)

theorem defer_change (s : State) (n : Port) (d : Option Deferred) : CueChange s (s.defer n d) := setPort_change id

theorem commandEnable_change (n : Port) (s : State) : CueChange s (commandEnable n s).1 := by
  unfold commandEnable
  split
  · rename_i h
    exact (setProfile_change s n _).trans (wake_change h)
  · exact .refl s

theorem commandDisable_change (p n : Port) (s : State) : CueChange s (commandDisable p n s).1 := by
  unfold commandDisable
  split
  · exact .refl s
  · split
    · exact (setProfile_change s n _).trans (defer_change _ _ _)
    · exact (setProfile_change s n _).trans (fall_change _ _ _ _)

theorem commandQuiet_change (n : Port) (s : State) : CueChange s (commandQuiet n s).1 := by
  unfold commandQuiet
  split
  · exact (setPort_change fun _ => rfl).trans (.of_sansTalk (leaveUp_sansTalk _ n))
  · exact .refl s
  · exact .refl s

theorem commandUnquiet_change (n : Port) (s : State) : CueChange s (commandUnquiet n s).1 := by
  unfold commandUnquiet
  split
  · exact setPort_change fun _ => rfl
  · exact .refl s
  · exact .refl s

theorem commandRestart_change (p n : Port) (s : State) : CueChange s (commandRestart p n s).1 := by
  unfold commandRestart
  split
  · exact .refl s
  · split
    · split
      · exact .refl s
      · exact defer_change _ _ _
    · exact fall_change _ _ _ _

theorem rewriteSlots_change (s : State) (n : Port) (old new : Vector SlotConfig 4) :
    CueChange s (s.rewriteSlots n old new) :=
  .foldl (fun t k => ((CueChange.of_sansTalk (rewriteTalkSlot_sansTalk t n old new k)).trans
    (.of_sansCalls (rewriteFlash_sansCalls _ n old new k))).trans (.of_sansCalls (rewriteHoldoff_sansCalls _ n old new k)))
    allSlots s

theorem reenable_change (s : State) (n : Port) : CueChange s (s.reenable n) := by
  unfold State.reenable
  split
  · rename_i h
    exact wake_change h
  · split
    · exact defer_change _ _ _
    · exact .refl s

theorem storeProfile_change (s : State) (p n : Port) (f : Profile) : CueChange s (s.storeProfile p n f).1 := by
  unfold State.storeProfile
  have hwritten := (setProfile_change s n f).trans (rewriteSlots_change (s.setProfile n f) n s.profiles[n].slots f.slots)
  generalize (s.setProfile n f).rewriteSlots n s.profiles[n].slots f.slots = t at hwritten ⊢
  simp only
  refine hwritten.trans ?_
  split
  · exact .refl t
  split
  · exact reenable_change t n
  split
  · exact .refl t
  split
  · exact defer_change t n _
  · exact fall_change t n _ _

theorem writeProfileRequest_change (p : Port) (index : Nat) (w : ProfileWrite) (s : State) :
    CueChange s (writeProfileRequest p index w s).1 := by
  unfold writeProfileRequest
  split
  · exact .refl s
  split
  · exact .refl s
  split
  · exact storeProfile_change s p _ _
  · exact .refl s

/-! ### The loader -/

theorem endSave_change (s : State) (ok : Bool) : CueChange s (s.endSave ok) := by
  have hended : CueChange s { s with loader := .idle, save := none } :=
    .aside rfl Or.inl (fun _ h => h) (by simp)
  exact hended.trans (raise_change _ _)

theorem beginSave_change (s : State) : CueChange s s.beginSave := by
  unfold State.beginSave
  split
  · exact .aside rfl Or.inl (fun _ h => h) (by simp)
  · have hdrawn : CueChange s { s with fresh := s.fresh + 1 } := .same rfl rfl rfl rfl
    exact hdrawn.trans (endSave_change _ false)

theorem saveRequest_change (s : State) : CueChange s (saveRequest s).1 := by
  unfold saveRequest
  split
  · exact beginSave_change s
  · exact .refl s

theorem saveStep_change {event : State → Save → State} (h : ∀ s x, CueChange s (event s x)) (s : State) :
    CueChange s (s.saveStep event) := by
  unfold State.saveStep
  split
  · split
    · exact h _ _
    · exact .refl s
  · exact .refl s

theorem completeSave_change (s : State) (x : Save) : CueChange s (s.completeSave x) := by
  have hstored : CueChange s { s with store := some x.snapshot.toImage } := .same rfl rfl rfl rfl
  exact hstored.trans (endSave_change _ true)

theorem writeFailed_change (s : State) (x : Save) : CueChange s (s.writeFailed x) := by
  have hlost : CueChange s { s with store := none } := .same rfl rfl rfl rfl
  exact hlost.trans (endSave_change _ false)

theorem writeAnswered_change (s : State) (x : Save) : CueChange s (s.writeAnswered x) := by
  unfold State.writeAnswered
  split
  · exact .same rfl rfl rfl rfl
  · exact .same rfl rfl rfl rfl
  · exact completeSave_change s x

theorem saveAtMarker_change (s : State) : CueChange s s.saveAtMarker :=
  saveStep_change (fun t x => by
    split
    · exact completeSave_change t x
    · exact .refl t) s

theorem restartRequest_change (p : Port) (s : State) : CueChange s (restartRequest p s).1 := by
  unfold restartRequest
  split
  · exact .refl s
  · exact .same rfl rfl rfl rfl

/-! ### Requests and messages -/

/-- R177: the change that the owner of each request makes. -/
theorem owner_change (p : Port) (r : Request) (s : State) : CueChange s (owner p r s).1 := by
  cases r with
  | standby slot => exact standbyRequest_change p slot s
  | go slot => exact goRequest_change slot s
  | goNext => exact goNextRequest_change s
  | hold slot => exact holdRequest_change slot s
  | holdAll => exact holdAllRequest_change s
  | release slot => exact releaseRequest_change slot s
  | releaseAll => exact releaseAllRequest_change s
  | cancel slot => exact cancelRequest_change slot s
  | cancelAll => exact cancelAllRequest_change s
  | writeCueEntry | writeGroupEntry | writePositionEntry | writeZoneEntry =>
    exact writeEntry_change fun _ _ => setEdit_change s _
  | writeProfile index entry => exact writeProfileRequest_change p index entry s
  | writeChannelEntry => exact writeEntry_change fun c e => storeChannel_change s c e
  | writeNoticeControl index entry => exact writeNoticeRequest_change index entry s
  | writeRouterSettings => exact writeEntry_change fun _ _ => .same rfl rfl rfl rfl
  | copyLiveToEdit => exact copyRequest_change s
  | swap => exact swapRequest_change s
  | cancelSwap => exact cancelSwapRequest_change s
  | set c v => exact counterControl_change (commandSet_change v) c s
  | preset c v => exact counterControl_change (commandPreset_change v) c s
  | armIndex c | disarmIndex c | stop c => exact counterControl_change (fun c s => setCounter_change s c _) c s
  | start c => exact counterControl_change commandStart_change c s
  | seek c i => exact counterControl_change (commandSeek_change i) c s
  | mode c m => exact counterControl_change (commandMode_change m) c s
  | misfit c => exact counterMisfit_change c s
  | enable n => exact portControl_change commandEnable_change n s
  | disable n => exact portControl_change (commandDisable_change p) n s
  | quiet n => exact portControl_change commandQuiet_change n s
  | unquiet n => exact portControl_change commandUnquiet_change n s
  | portRestart n => exact portControl_change (commandRestart_change p) n s
  | noticeHold x => exact noticeHoldRequest_change x s
  | noticeUnhold x => exact noticeUnholdRequest_change x s
  | noticeClear x => exact noticeClearRequest_change x s
  | noticeOpen x => exact laneCommand_change commandOpen_change x s
  | noticeClose x => exact laneCommand_change commandClose_change x s
  | save => exact saveRequest_change s
  | restart => exact restartRequest_change p s
  | unnamed what =>
    cases what with
    | counter c => exact counterMisfit_change c s
    | status | port | notice => exact .refl s
  | _ => exact .refl s

/-- R177: the acceptance of a message adds messages to what its owner does. -/
theorem accept_change {o : State → State × Answer} (h : ∀ s, CueChange s (o s).1) (s : State) (p : Port)
    (kind tag : Octet) (right : Right) : CueChange s (s.accept p kind tag right o) := by
  have hreserved : CueChange s (s.reserve p) := .of_sansMsgs (reserve_sansMsgs s p)
  unfold State.accept
  split
  · split
    · split
      · exact (hreserved.trans (h _)).trans (.of_sansMsgs (answer_sansMsgs _ _ _ _ _))
      · exact hreserved.trans (.of_sansMsgs (answer_sansMsgs _ _ _ _ _))
    · exact raise_change _ _
  · exact .refl s

theorem request_change (s : State) (p : Port) (tag : Octet) (r : Request) : CueChange s (s.request p tag r) :=
  accept_change (owner_change p r) s p _ tag _

theorem acceptMessage_change (s : State) (p : Port) (kind tag : Octet) (payload : List Octet) :
    CueChange s (s.acceptMessage p kind tag payload) := by
  unfold State.acceptMessage
  split
  · exact .of_sansMsgs (acceptUnknown_sansMsgs s p kind tag)
  · refine accept_change (fun t => ?_) s p kind tag _
    unfold payloadOwner
    split
    · exact .refl t
    · exact owner_change p _ t

theorem completeMessage_change (s : State) (p : Port) (kind tag : Octet) (payload : List Octet) (keys : Keys) :
    CueChange s (s.completeMessage p kind tag payload keys) := by
  have haccepted : CueChange s (if kind = identReplyKind then s else s.acceptMessage p kind tag payload) := by
    split
    · exact .refl s
    · exact acceptMessage_change s p kind tag payload
  unfold State.completeMessage
  split
  · unfold State.probingMessage
    split
    · split
      · exact takeIdent_change s p _ _ _ _ _
      · exact .refl s
    · exact .refl s
  · exact haccepted
  · exact haccepted
  · exact .refl s

/-! ### The frames -/

theorem laneOctet_change (s : State) (p : Port) (start : Bool) (o : Octet) (keys : Keys) :
    CueChange s (s.laneOctet p start o keys) := by
  unfold State.laneOctet
  split
  · exact setAssembly_change _ _ _
  · exact .refl s
  · exact (setAssembly_change _ _ _).trans (raise_change _ _)
  · unfold State.storeOctet
    split
    · exact (setAssembly_change _ _ _).trans (raise_change _ _)
    split
    · refine (setAssembly_change s p .empty).trans ?_
      unfold State.finishAssembly
      split
      · split
        · exact completeMessage_change _ _ _ _ _ _
        · exact .refl _
      · exact raise_change _ _
    · exact setAssembly_change _ _ _

theorem frameOctet_change (s : State) (p : Port) (f : UpFrame) : CueChange s (s.frameOctet p f) := by
  unfold State.frameOctet
  split
  · exact laneOctet_change _ _ _ _ _
  · exact .refl s

theorem talkEdge_change (s : State) (p : Port) (old new : Keys) (k : KeySlot) : CueChange s (s.talkEdge p old new k) := by
  unfold State.talkEdge
  split
  · exact (CueChange.of_sansTalk (talkPress_sansTalk s p k)).trans (.of_sansCalls (stopFlash_sansCalls _ p k))
  split
  · exact .of_sansTalk (talkRelease_sansTalk s p k)
  · exact .refl s

theorem callEdge_change (s : State) (p : Port) (old new : Keys) (k : KeySlot) : CueChange s (s.callEdge p old new k) := by
  unfold State.callEdge
  split
  · unfold State.callPress
    split
    · exact .refl s
    · exact .same (by simp [State.takeCall]) (by simp [State.takeCall]) (by simp [State.takeCall])
        (by simp [State.takeCall])
  · exact .refl s

theorem cueEdge_change (s : State) (p : Port) (old new : Keys) : CueChange s (s.cueEdge p old new) := by
  unfold State.cueEdge
  split
  · exact cuePress_change s p
  · exact .refl s

theorem edges_change (s : State) (p : Port) (old new : Keys) : CueChange s (s.edges p old new) := by
  unfold State.edges
  split
  · exact ((CueChange.foldl (fun t k => talkEdge_change t p old new k) allSlots s).trans
      (.foldl (fun t k => callEdge_change t p old new k) allSlots _)).trans (cueEdge_change _ p old new)
  · exact cueEdge_change s p old new
  · exact .refl s

theorem takeKeys_change (s : State) (p : Port) (new : Keys) : CueChange s (s.takeKeys p new) := by
  have hset : CueChange s (s.setPort p { s.ports[p] with keyRef := some new }) := setPort_change id
  unfold State.takeKeys
  simp only
  split
  · exact hset.trans (edges_change _ _ _ _)
  · exact hset

theorem clearLoss_change (s : State) (p : Port) : CueChange s (s.clearLoss p) := setPort_change id

theorem takeGood_change (s : State) (p : Port) (f : UpFrame) : CueChange s (s.takeGood p f) := by
  have hcleared := (setSample_change s p (some (UpFrame.sample f))).trans (clearLoss_change _ p)
  unfold State.takeGood
  simp only
  split
  · exact .refl s
  · rename_i hdown
    refine (setSample_change s p (some (UpFrame.sample f))).trans (startProbing_change ?_)
    have hports : (s.setSample p (some (UpFrame.sample f))).ports = s.ports := by simp
    rw [hports, hdown]
    rfl
  · exact hcleared.trans (frameOctet_change _ _ _)
  · exact (hcleared.trans (takeKeys_change _ _ _)).trans (frameOctet_change _ _ _)
  · exact (hcleared.trans (takeKeys_change _ _ _)).trans (frameOctet_change _ _ _)
  · exact hcleared

theorem takeMissing_change (s : State) (p : Port) : CueChange s (s.takeMissing p) := by
  have hvoid := setSample_change s p none
  unfold State.takeMissing
  simp only
  split
  · exact .refl s
  · exact hvoid
  · split
    · exact hvoid.trans (fall_change _ _ _ _)
    · exact hvoid.trans (setPort_change id)

theorem takeFrame_change (s : State) (p : Port) (f : UpFrame) : CueChange s (s.takeFrame p f) := by
  unfold State.takeFrame
  split
  · split
    · exact takeGood_change s p f
    · exact takeMissing_change s p
  · exact .refl s

theorem frameMissed_change (s : State) (p : Port) : CueChange s (s.frameMissed p) := by
  unfold State.frameMissed
  split
  · exact takeMissing_change s p
  · exact .refl s

theorem linkLossEvent_change (s : State) (p : Port) : CueChange s (s.linkLossEvent p) := by
  unfold State.linkLossEvent
  split
  · exact takeMissing_change s p
  · exact .refl s

theorem askSent_change (s : State) (p : Port) (e : TxEntry) : CueChange s (s.askSent p e) := by
  unfold State.askSent
  split
  · split
    · exact setPort_change id
    · exact .refl s
  · exact .refl s

theorem replyGone_change (s : State) (p : Port) (w : Waits) : CueChange s (s.replyGone p w) := by
  cases w with
  | nothing => exact .refl s
  | deferred => exact carryOut_change s p
  | restart => exact restart_change s

theorem octetSent_change (s : State) (p : Port) : CueChange s (s.octetSent p) := by
  unfold State.octetSent
  split
  · exact .refl s
  · split
    · exact setQueue_change _ _ _
    · exact ((setQueue_change _ _ _).trans (askSent_change _ _ _)).trans (replyGone_change _ _ _)

theorem setLine_change (s : State) (p : Port) (f : Option DownFrame) : CueChange s (s.setLine p f) :=
  .same (by simp) (by simp) (by simp) (by simp)

theorem downstream_change (s : State) (p : Port) : CueChange s (s.downstream p) := by
  have hshown : ∀ (t : State) (x : ShownLamps), CueChange t (t.setShown p x) :=
    fun t x => .same (by simp) (by simp) (by simp) (by simp)
  unfold State.downstream State.sendFrame
  split
  · split
    · exact setLine_change _ _ _
    · exact setLine_change _ _ _
    · exact setLine_change _ _ _
    · exact (setLine_change _ _ _).trans (octetSent_change _ _)
    · exact ((setLine_change _ _ _).trans (hshown _ _)).trans (octetSent_change _ _)
    · exact ((setLine_change _ _ _).trans (hshown _ _)).trans (octetSent_change _ _)
  · exact .refl s

theorem deferredEvent_change (s : State) (p : Port) : CueChange s (s.deferredEvent p) := by
  unfold State.deferredEvent
  split
  · exact carryOut_change s p
  · exact .refl s

theorem restartEvent_change (s : State) : CueChange s s.restartEvent := by
  unfold State.restartEvent
  split
  · exact .refl s
  · split
    · exact restart_change s
    · exact .refl s

theorem unknownMessage_change (s : State) (p : Port) (tag kind : Octet) : CueChange s (s.unknownMessage p tag kind) := by
  unfold State.unknownMessage
  split
  · exact .of_sansMsgs (acceptUnknown_sansMsgs s p kind tag)
  · exact .refl s

theorem badTableRequest_change (s : State) (p : Port) (tag : Octet) (isWrite : Bool) (table : Nat) :
    CueChange s (s.badTableRequest p tag isWrite table) := by
  unfold State.badTableRequest
  split
  · exact .refl s
  · exact request_change s p tag _

theorem tick_change (s : State) : CueChange s s.tick := by
  unfold State.tick
  split
  · exact .same rfl rfl rfl rfl
  · exact .refl s

/-! ### One command -/

/-- The commands that are no step of a running part: POWER_ON, POWER_LOSS and LOAD_END. -/
def Instr.startsUp : Instr → Bool
  | .powerOn | .powerLoss | .loadEnd _ => true
  | _ => false

/-- What a command of a running part does to the list, to presence and to the swap-pending flag. -/
theorem exec_change {c : Instr} {s t : State} (hc : Instr.startsUp c = false) (h : exec c s = .next t) : CueChange s t := by
  cases hr : requestOf c with
  | some x =>
    obtain ⟨p, tag, kind, r⟩ := x
    rw [(exec_requestOf hr).2] at h
    cases h
    exact request_change s p tag r
  | none =>
    cases c <;> try (first | (cases hr; done) | (cases hc; done))
    case goodFrame p f => cases h; exact takeFrame_change s p f
    case frameDiscarded p f => cases h; exact takeFrame_change s p f
    case frameMissing p => cases h; exact frameMissed_change s p
    case linkLoss p => cases h; exact linkLossEvent_change s p
    case downstreamFrame p => cases h; exact downstream_change s p
    case deferredAction p => cases h; exact deferredEvent_change s p
    case restartCarriedOut => cases h; exact restartEvent_change s
    case identReply p tag cls n serial keys => cases h; exact takeIdent_change s p tag cls n serial keys
    case askDeadlineExpiry p => cases h; exact askExpiry_change s p
    case step k a b => cases h; exact levelAB_change s k a b
    case indexPulse k => cases h; exact levelZ_change s k true
    case ackDeadlineExpiry slot => cases h; exact ackExpiry_change s slot
    case followDeadlineExpiry slot => cases h; exact followExpiry_change s slot
    case goDisplayExpiry slot => cases h; exact goDisplayExpiry_change s slot
    case noticeBuild k => cases h; exact .of_sansMsgs (buildNotice_sansMsgs s k)
    case idleTimerExpiry k => cases h; exact .of_sansTalk (idleExpiry_sansTalk s k)
    case deniedPeriodExpiry p k => cases h; exact .of_sansTalk (deniedExpiry_sansTalk s p k)
    case displayDeadlineExpiry p k => cases h; exact .of_sansCalls (displayExpiry_sansCalls s p k)
    case holdoffDeadlineExpiry p k => cases h; exact .of_sansCalls (holdoffExpiry_sansCalls s p k)
    case unknownKind p tag kind => cases h; exact unknownMessage_change s p tag kind
    case saveWriteAnswered => cases h; exact saveStep_change writeAnswered_change s
    case saveCompletion => cases h; exact saveAtMarker_change s
    case saveFailure => cases h; exact saveStep_change writeFailed_change s
    case changeOfLevel k l => cases h; exact changeLevel_change s k l
    case badTable p tag isWrite table => cases h; exact badTableRequest_change s p tag isWrite table
    case unnamedSubjectOrCommand p tag what => cases h; exact request_change s p tag _

end Sys2Proof.Machine
end

section
/-! Every step keeps the Active Cue List sound (R13, R106) and the sets of its records (R15), the quiet of a part that
loads with them (R170, R195). -/

namespace Sys2Proof.Machine

/-! ### What a step is -/

/-- A step is a command on the state with some queue, or one advance of the show clock. -/
theorem step_cases {s t : State} (h : step s = .next t) :
    (∃ c l, exec c (s.withPending l) = .next t) ∨ t = s.tick := by
  unfold step at h
  split at h
  · exact .inl ⟨_, _, h⟩
  · unfold State.idle at h
    split at h
    · exact .inl ⟨_, s.pending, h⟩
    · cases h
      exact .inr rfl

/-- A law that each command keeps, that the advance of the clock keeps and that does not read the queue, is kept by
every step. -/
theorem step_keeps {I : State → Prop} (queue : ∀ s l, I s → I (s.withPending l)) (tick : ∀ s, I s → I s.tick)
    (command : ∀ c s t, I s → exec c s = .next t → I t) {s t : State} (hs : I s) (h : step s = .next t) : I t := by
  obtain ⟨c, l, hc⟩ | rfl := step_cases h
  · exact command c _ t (queue s l hs) hc
  · exact tick s hs

/-! ### LOAD_END and power-on -/

/-- LOAD_END leaves the list and the flag (R196). -/
theorem loadEnd_list {s t : State} {answered : Bool} (h : exec (.loadEnd answered) s = .next t) :
    t = s ∨ (s.loader = .loading ∧ t.active = s.active ∧ t.swapPending = s.swapPending ∧ t.loader = .idle) := by
  change Host.Outcome.next (if (s.powered && s.loader == .loading) = true then s.endLoad answered else s) = _ at h
  split at h
  · rename_i hl
    cases h
    obtain ⟨b, cause, hb, hwith, -⟩ := endLoad_cases s answered
    have hactive := congrArg State.active hwith
    have hswap := congrArg State.swapPending hwith
    obtain ⟨hloader, -, -, -, -, -, -, -, hswap', hactive', -⟩ := finishLoad_keeps (finishLoad_sansZones b cause)
    rw [hb]
    simp only [Bool.and_eq_true, beq_iff_eq] at hl
    exact .inr ⟨hl.2, hactive'.trans hactive.symm, hswap'.trans hswap.symm, hloader⟩
  · cases h
    exact .inl rfl

theorem exec_powerOn {c : Instr} {s t : State} (hc : c = .powerOn ∨ c = .powerLoss) (h : exec c s = .next t) :
    ∃ power, t = s.atPowerOn power := by
  rcases hc with rfl | rfl <;> cases h <;> exact ⟨_, rfl⟩

theorem startsUp_cases {c : Instr} (h : Instr.startsUp c = true) :
    (c = .powerOn ∨ c = .powerLoss) ∨ ∃ answered, c = .loadEnd answered := by
  cases c <;> first | (cases h; done) | skip
  case powerOn => exact .inl (.inl rfl)
  case powerLoss => exact .inl (.inr rfl)
  case loadEnd answered => exact .inr ⟨answered, rfl⟩

/-! ### R13 and R106 -/

theorem exec_keeps_list (c : Instr) (s t : State) (hs : CueListSound s) (h : exec c s = .next t) : CueListSound t := by
  cases hc : Instr.startsUp c with
  | false => exact (exec_change hc h).keeps_list hs
  | true =>
    obtain hpower | ⟨answered, rfl⟩ := startsUp_cases hc
    · obtain ⟨power, rfl⟩ := exec_powerOn hpower h
      exact ⟨by simp [State.atPowerOn, State.reset], List.nodup_nil, fun h => nomatch h⟩
    · obtain rfl | ⟨-, hactive, hswap, -⟩ := loadEnd_list h
      · exact hs
      · exact hs.of_slots (by rw [hactive]) fun h => .inl (hswap.symm.trans h)

/-- Settles O56: each command is made of changes that keep the list sound. -/
theorem stepKeepsTheCueListSound : Obligations.StepKeepsTheCueListSound := fun _ _ hs h =>
  step_keeps (fun _ _ => id) (fun s => (tick_change s).keeps_list) exec_keeps_list hs h

/-! ### R170 and R195 -/

/-- A part that loads: every port DOWN, no record, nobody talking, each comparison at the start of its list. -/
def Quiet (s : State) : Prop :=
  (∀ p : Port, s.ports[p] = PortRecord.powerOn) ∧ s.active = [] ∧ (∀ c : Chan, s.talk[c] = ChannelTalk.powerOn)
    ∧ ∀ c : CounterId, (s.counter c).index = 0 ∧ (s.counter c).comparison = .stopped

theorem loadingQuiet_iff (s : State) : LoadingQuiet s ↔ (s.loader = .loading → Quiet s) := Iff.rfl

/-- The quiet of a part that loads reads nothing but ports, records, talk lists and counters. -/
theorem Quiet.of_fields {s t : State} (h : Quiet s) (ports : t.ports = s.ports) (active : t.active = s.active)
    (talk : t.talk = s.talk) (counters : t.counters = s.counters) : Quiet t := by
  unfold Quiet State.counter at *
  rw [ports, active, talk, counters]
  exact h

theorem atPowerOn_quiet (s : State) (power : Bool) : Quiet (s.atPowerOn power) := by
  refine ⟨fun p => get_replicate _ _, rfl, fun c => get_replicate _ _, fun c => ?_⟩
  have hcounter : (s.atPowerOn power).counter c = Counter.powerOn := reset_counter c
  rw [hcounter]
  exact ⟨rfl, rfl⟩

theorem not_loaded {s : State} (hl : s.loader = .loading) : s.loaded = false := by
  unfold State.loaded
  rw [hl]
  rfl

theorem saveStep_loading {s : State} (hl : s.loader = .loading) (event : State → Save → State) : s.saveStep event = s := by
  unfold State.saveStep
  rw [if_neg (by simp [hl])]

section
variable {s : State} (hq : Quiet s) (hl : s.loader = .loading)
include hq

theorem Quiet.present (p : Port) : s.present p = false := by
  unfold State.present
  rw [hq.1 p]
  rfl

theorem Quiet.findCue (slot : CueSlot) : s.findCue slot = none := by
  simp [State.findCue, hq.2.1]

theorem Quiet.request (p : Port) (tag : Octet) (r : Request) : s.request p tag r = s :=
  request_absent tag r (hq.present p)

theorem Quiet.carryOut (p : Port) : s.carryOut p = s := by
  unfold State.carryOut
  rw [hq.1 p]
  rfl

theorem Quiet.takeIdent (p : Port) (tag cls n : Octet) (serial : BitVec 32) (keys : Keys) :
    s.takeIdent p tag cls n serial keys = s := by
  unfold State.takeIdent
  cases hi : s.identOf p tag cls n serial with
  | none => rfl
  | some i =>
    have := identOf_probing hi
    rw [hq.1 p] at this
    cases this

theorem Quiet.askExpiry (p : Port) : s.askExpiry p = s := by
  unfold State.askExpiry
  rw [hq.1 p]
  rfl

theorem Quiet.idleExpiry (c : Chan) : s.idleExpiry c = s := by
  unfold State.idleExpiry
  rw [hq.2.2.1 c]
  rfl

include hl

theorem Quiet.setPins (c : CounterId) (l : Levels) : (s.setPins c l).loaded = false ∧ Quiet (s.setPins c l) :=
  ⟨by simp [State.loaded, hl], hq.of_fields (by simp) (by simp) (by simp) (by simp)⟩

theorem Quiet.levelAB (c : CounterId) (a b : Bool) : Quiet (s.levelAB c a b) := by
  obtain ⟨hloaded, hquiet⟩ := hq.setPins hl c { s.pin c with a := a, b := b }
  simpa only [State.levelAB, hloaded, Bool.false_eq_true, if_false] using hquiet

theorem Quiet.levelZ (c : CounterId) (z : Bool) : Quiet (s.levelZ c z) := by
  obtain ⟨hloaded, hquiet⟩ := hq.setPins hl c { s.pin c with z := z }
  simpa only [State.levelZ, hloaded, Bool.false_eq_true, if_false] using hquiet

theorem Quiet.changeLevel (c : CounterId) (l : LevelChange) : Quiet (s.changeLevel c l) := by
  cases l with
  | ab a b => exact hq.levelAB hl c a b
  | z level => exact hq.levelZ hl c level
  | pins a b z => exact (hq.setPins hl c _).2

end

theorem restart_loader (s : State) : s.restart.loader = .idle := by
  unfold State.restart
  rw [abandonSave_eq]
  simp

/-- R170, R195: while the part loads, a command leaves it quiet or, a RESTART, ends the load. -/
theorem exec_quiet {c : Instr} {s t : State} (hc : Instr.startsUp c = false) (hq : Quiet s) (hl : s.loader = .loading)
    (h : exec c s = .next t) : Quiet t ∨ t.loader = .idle := by
  cases hr : requestOf c with
  | some x =>
    obtain ⟨p, tag, kind, r⟩ := x
    rw [(exec_requestOf hr).2, hq.request] at h
    cases h
    exact .inl hq
  | none =>
    have hloaded := not_loaded hl
    cases c <;> try (first | (cases hr; done) | (cases hc; done))
    case goodFrame p f => cases h; left; simpa [State.takeFrame, hloaded] using hq
    case frameDiscarded p f => cases h; left; simpa [State.takeFrame, hloaded] using hq
    case frameMissing p => cases h; left; simpa [State.frameMissed, hloaded] using hq
    case linkLoss p => cases h; left; simpa [State.linkLossEvent, hloaded] using hq
    case downstreamFrame p => cases h; left; simpa [State.downstream, hloaded] using hq
    case deferredAction p => cases h; left; simpa [State.deferredEvent, hq.carryOut] using hq
    case restartCarriedOut =>
      cases h
      unfold State.restartEvent
      split
      · exact .inl hq
      · split
        · exact .inr (restart_loader s)
        · exact .inl hq
    case identReply p tag cls n serial keys => cases h; left; rwa [hq.takeIdent]
    case askDeadlineExpiry p => cases h; left; rwa [hq.askExpiry]
    case step k a b => cases h; exact .inl (hq.levelAB hl k a b)
    case indexPulse k => cases h; exact .inl (hq.levelZ hl k true)
    case ackDeadlineExpiry slot => cases h; left; simpa only [State.ackExpiry, hq.findCue] using hq
    case followDeadlineExpiry slot => cases h; left; simpa only [State.followExpiry, hq.findCue] using hq
    case goDisplayExpiry slot => cases h; left; simpa only [State.goDisplayExpiry, hq.findCue] using hq
    case noticeBuild k => cases h; exact .inl (hq.of_fields (by simp) (by simp) (by simp) (by simp))
    case idleTimerExpiry k => cases h; left; rwa [hq.idleExpiry]
    case deniedPeriodExpiry p k =>
      cases h
      unfold State.deniedExpiry
      split
      · exact .inl (hq.of_fields (by simp) (by simp) (by simp) (by simp))
      · exact .inl hq
    case displayDeadlineExpiry p k => cases h; exact .inl (hq.of_fields (by simp) (by simp) (by simp) (by simp))
    case holdoffDeadlineExpiry p k => cases h; exact .inl (hq.of_fields (by simp) (by simp) (by simp) (by simp))
    case unknownKind p tag kind =>
      cases h
      unfold State.unknownMessage
      split
      · exact .inl (hq.of_fields (by simp) (by simp) (by simp) (by simp))
      · exact .inl hq
    case saveWriteAnswered => cases h; left; rwa [saveStep_loading hl]
    case saveCompletion => cases h; left; rwa [State.saveAtMarker, saveStep_loading hl]
    case saveFailure => cases h; left; rwa [saveStep_loading hl]
    case changeOfLevel k l => cases h; exact .inl (hq.changeLevel hl k l)
    case badTable p tag isWrite table => cases h; left; simpa [State.badTableRequest, hq.request] using hq
    case unnamedSubjectOrCommand p tag what => cases h; left; rwa [hq.request]

/-- R170, R195: every command keeps a part that loads quiet. -/
theorem exec_keeps_loadingQuiet (c : Instr) (s t : State) (hs : LoadingQuiet s) (h : exec c s = .next t) :
    LoadingQuiet t := by
  intro hload
  cases hc : Instr.startsUp c with
  | false =>
    have hl := (exec_change hc h).loader hload
    obtain hquiet | hidle := exec_quiet hc (hs hl) hl h
    · exact hquiet
    · exact nomatch hidle.symm.trans hload
  | true =>
    obtain hpower | ⟨answered, rfl⟩ := startsUp_cases hc
    · obtain ⟨power, rfl⟩ := exec_powerOn hpower h
      exact atPowerOn_quiet s power
    · obtain rfl | ⟨-, -, -, hidle⟩ := loadEnd_list h
      · exact hs hload
      · exact nomatch hidle.symm.trans hload

/-! ### R15 -/

theorem exec_keeps_sets (c : Instr) (s t : State) (hs : CueSetsSound s) (h : exec c s = .next t) : CueSetsSound t := by
  obtain ⟨hquiet, hsets⟩ := hs
  refine ⟨exec_keeps_loadingQuiet c s t hquiet h, ?_⟩
  cases hc : Instr.startsUp c with
  | false => exact (exec_change hc h).keeps_sets hsets
  | true =>
    have hempty : t = s ∨ t.active = [] := by
      obtain hpower | ⟨answered, rfl⟩ := startsUp_cases hc
      · obtain ⟨power, rfl⟩ := exec_powerOn hpower h
        exact .inr rfl
      · obtain rfl | ⟨hload, hactive, -, -⟩ := loadEnd_list h
        · exact .inl rfl
        · exact .inr (hactive.trans (hquiet hload).2.1)
    rcases hempty with rfl | hempty
    · exact hsets
    · rw [hempty]
      exact fun r hr => nomatch hr

theorem tick_keeps_sets (s : State) (hs : CueSetsSound s) : CueSetsSound s.tick := by
  refine ⟨fun hload => ?_, (tick_change s).keeps_sets hs.2⟩
  have hquiet : Quiet s := hs.1 ((tick_change s).loader hload)
  unfold State.tick
  split
  · exact hquiet
  · exact hquiet

/-- Settles O57: each command is made of changes that keep the sets sound. -/
theorem stepKeepsTheCueSetsSound : Obligations.StepKeepsTheCueSetsSound := fun _ _ _ hs h =>
  step_keeps (fun _ _ => id) tick_keeps_sets exec_keeps_sets hs h

end Sys2Proof.Machine
end

section
/-! The step itself (R36, R179) and the laws right after reset (R195). -/

namespace Sys2Proof.Machine

/-- Settles O1: the front command runs on the state with the queue's rest. -/
theorem stepRunsFrontCommand : Obligations.StepRunsFrontCommand := fun _ _ => rfl

/-- With no command waiting a step is the first event due, or an advance of the clock (log 1). -/
theorem step_of_empty {s : State} (h : s.pending = []) : step s = s.idle := by
  unfold step
  rw [h]

/-- Settles O2. -/
theorem emptyQueueTakesDueExpiryOrTicks : Obligations.EmptyQueueTakesDueExpiryOrTicks := by
  intro s hs
  rw [step_of_empty hs, State.idle]
  refine ⟨fun hnone => ?_, fun c hsome => ?_⟩
  · rw [hnone]
    rfl
  · rw [hsome]

/-! ### The laws right after reset -/

theorem reset_queue (p : Port) : State.reset.queues[p] = [] := get_replicate _ _

theorem reset_notice (k : NoticeKind) : State.reset.notices[k] = NoticeRecord.empty := get_replicate _ _

theorem reset_profile (p : Port) : State.reset.profiles[p] = Profile.default p := defaults_get p

theorem reset_talk (c : Chan) : State.reset.talk[c] = ChannelTalk.powerOn := get_replicate _ _

theorem reset_loadingQuiet : LoadingQuiet State.reset := fun _ =>
  ⟨fun _ => get_replicate _ _, rfl, reset_talk, fun c => by rw [reset_counter]; exact ⟨rfl, rfl⟩⟩

theorem reset_cueListSound : CueListSound State.reset := ⟨Nat.zero_le _, List.nodup_nil, fun h => nomatch h⟩

/-- Settles O5: every list is empty, P0 holds WRITE, and every counter stands at 0, stopped at the start of its list. -/
theorem resetMeetsTheLaws : Obligations.ResetMeetsTheLaws := by
  refine ⟨fun p => ?queues, fun p e he => ?reserved, fun k => ?counts, ⟨0, ?writer⟩, fun c => ?ranges, reset_cueListSound,
    ⟨reset_loadingQuiet, fun r hr => nomatch hr⟩, ⟨reset_loadingQuiet, fun c => ?comparisons⟩,
    ⟨reset_loadingQuiet, fun c => ?talk⟩⟩
  case queues => rw [reset_queue]; exact Nat.zero_le _
  case reserved => rw [reset_queue] at he; cases he
  case counts => rw [reset_notice]; exact Nat.zero_le _
  case writer => rw [reset_profile]; rfl
  case ranges => rw [reset_counter]; decide
  case comparisons =>
    rw [reset_counter]
    exact ⟨Nat.zero_le _, fun h => (nomatch h), fun h => nomatch h⟩
  case talk => rw [reset_talk]; exact ⟨Nat.zero_le _, Nat.zero_le _⟩

end Sys2Proof.Machine
end

section
/-! SUPPORT. The Cue Engine's tests and changes, each said once: STANDBY and GO as they are tested (R17, R39), a change of
one record or of several, and a removal, as the list they leave and the desk status they send (R36, R48, R70). -/

namespace Sys2Proof.Machine

/-! ### One record after a change of another -/

/-- A list with the record of a slot replaced. -/
def replaceCue (l : List ActiveCue) (r : ActiveCue) : List ActiveCue := l.map fun x => if x.slot = r.slot then r else x

theorem putCue_eq (s : State) (r : ActiveCue) : s.putCue r = s.setActive (replaceCue s.active r) := by
  simp only [State.putCue, replaceCue, beq_iff_eq]

/-- R36: a record changed is put in its place, and the desks are told. -/
theorem changeCue_eq_told (s : State) (r : ActiveCue) :
    s.changeCue r = (s.setActive (replaceCue s.active r)).told r (.inList r.state) := by
  rw [State.changeCue, putCue_eq]
  rfl

theorem findCue_setActive (s : State) (l : List ActiveCue) (slot : CueSlot) :
    (s.setActive l).findCue slot = l.find? fun r => r.slot == slot := rfl

theorem replaceCue_find_other (r : ActiveCue) {slot : CueSlot} (h : slot ≠ r.slot) :
    ∀ l : List ActiveCue, (replaceCue l r).find? (fun x => x.slot == slot) = l.find? fun x => x.slot == slot
  | [] => rfl
  | x :: l => by
    have ih := replaceCue_find_other r h l
    simp only [replaceCue, List.map_cons, List.find?_cons] at ih ⊢
    by_cases hx : x.slot = r.slot
    · have hr : (r.slot == slot) = false := by simpa using fun e => h e.symm
      rw [if_pos hx, hx, hr]
      exact ih
    · rw [if_neg hx, ih]

theorem replaceCue_find_same (r : ActiveCue) :
    ∀ {l : List ActiveCue}, (∃ x ∈ l, x.slot = r.slot) → (replaceCue l r).find? (fun x => x.slot == r.slot) = some r
  | [], h => by simp at h
  | x :: l, h => by
    simp only [replaceCue, List.map_cons, List.find?_cons]
    by_cases hx : x.slot = r.slot
    · simp [hx]
    · have hl : ∃ y ∈ l, y.slot = r.slot := by
        obtain ⟨y, hy, e⟩ := h
        rcases List.mem_cons.1 hy with rfl | hy
        · exact absurd e hx
        · exact ⟨y, hy, e⟩
      have hne : (x.slot == r.slot) = false := by simpa using hx
      rw [if_neg hx, hne]
      exact replaceCue_find_same r hl

/-- A second change of the same record stands in the place of the first. -/
theorem replaceCue_replaceCue (l : List ActiveCue) {r x : ActiveCue} (h : x.slot = r.slot) :
    replaceCue (replaceCue l r) x = replaceCue l x := by
  unfold replaceCue
  rw [List.map_map]
  refine List.map_congr_left fun y _ => ?_
  simp only [Function.comp_apply]
  by_cases hy : y.slot = r.slot
  · rw [if_pos hy, if_pos h.symm, if_pos (hy.trans h.symm)]
  · rw [if_neg hy]

theorem mem_replaceCue {l : List ActiveCue} {r : ActiveCue} (h : ∃ x ∈ l, x.slot = r.slot) : r ∈ replaceCue l r := by
  obtain ⟨x, hx, e⟩ := h
  exact List.mem_map.2 ⟨x, hx, if_pos e⟩

theorem mem_replaceCue_of_ne {l : List ActiveCue} {r x : ActiveCue} (hx : x ∈ l) (h : x.slot ≠ r.slot) :
    x ∈ replaceCue l r := List.mem_map.2 ⟨x, hx, if_neg h⟩

theorem replaceCue_slots (l : List ActiveCue) (r : ActiveCue) :
    (replaceCue l r).map ActiveCue.slot = l.map ActiveCue.slot := by
  unfold replaceCue
  rw [List.map_map]
  refine List.map_congr_left fun x _ => ?_
  simp only [Function.comp_apply]
  split
  · rename_i h
    exact h.symm
  · rfl

/-! ### The tests of GO (R39, R44) -/

theorem goTarget_none {s : State} {slot : CueSlot} (h : s.findCue slot = none) : s.goTarget slot = .error .notStoodBy := by
  simp only [State.goTarget, h]

theorem goTarget_some {s : State} {slot : CueSlot} {r : ActiveCue} (h : s.findCue slot = some r) :
    s.goTarget slot =
      if r.state = .going then .error .alreadyGoing
      else if r.state = .held then .error .held
      else if r.state = .standby ∧ (s.cue slot).goPolicy = .readyOnly then .error .notReady
      else if s.blocked slot then .error .zoneBlocked
      else .ok r := by
  simp only [State.goTarget, h]

theorem blocked_iff (s : State) (slot : CueSlot) :
    s.blocked slot = true ↔ ∃ z, (s.cue slot).interlock = some z ∧ s.liveTables.zones[z].valid = true ∧ s.occupied[z] = true := by
  unfold State.blocked
  cases (s.cue slot).interlock with
  | none => simp
  | some z => simp

/-- R39: the record a GO takes is READY, or in STANDBY with the policy ANY_STATE, and not blocked. -/
theorem goTarget_ok {s : State} {slot : CueSlot} {r : ActiveCue} :
    s.goTarget slot = .ok r ↔
      s.findCue slot = some r ∧ r.state ≠ .going ∧ r.state ≠ .held
        ∧ ¬(r.state = .standby ∧ (s.cue slot).goPolicy = .readyOnly) ∧ s.blocked slot = false := by
  cases hfind : s.findCue slot with
  | none => simp [goTarget_none hfind]
  | some x =>
    rw [goTarget_some hfind, Option.some.injEq]
    constructor
    · intro h
      split at h
      · cases h
      split at h
      · cases h
      split at h
      · cases h
      split at h
      · cases h
      · rename_i hgoing hheld hready hblocked
        cases h
        exact ⟨rfl, hgoing, hheld, hready, Bool.eq_false_iff.2 hblocked⟩
    · rintro ⟨rfl, hgoing, hheld, hready, hblocked⟩
      rw [if_neg hgoing, if_neg hheld, if_neg hready, hblocked, if_neg Bool.false_ne_true]

/-! ### Requests that change one record -/

/-- R36, R179: a request that changes one record: the reply, then the desks. -/
theorem request_changes {s : State} {p : Port} (tag : Octet) {r : Request} {x : ActiveCue} {d : ReplyData}
    (hs : MaySend s p (requestRight r)) (ho : owner p r (s.reserve p) = ((s.reserve p).changeCue x, Answer.with .ok d)) :
    s.request p tag r =
      ((s.setActive (replaceCue s.active x)).replied p (replyOf (replyKind (requestKind r)) tag .ok d)).told x
        (.inList x.state) :=
  request_through tag (s.setActive (replaceCue s.active x)) (fun t => t.told x (.inList x.state)) .ok d hs
    (ho.trans (congrArg (·, _) (changeCue_eq_told (s.reserve p) x)))
    fun t kind tag a => told_answer t x _ p kind tag a

/-! ### Several records in one event -/

/-- R36, R72: an event that changes each record that passes a test, in list order. -/
theorem changeEach_eq (s : State) (P : ActiveCue → Bool) (f : State → ActiveCue → ActiveCue) (g : ActiveCue → ActiveCue)
    (hf : ∀ t r, t.sansCues = s.sansCues → f t r = g r) (hg : ∀ r, (g r).slot = r.slot)
    (hn : (s.active.map ActiveCue.slot).Nodup) :
    (s.active.filter P).foldl (fun t r => t.changeCue (f t r)) s =
      (s.setActive (s.active.map fun r => if P r then g r else r)).toldAll ((s.active.filter P).map g) := by
  rw [foldl_changeCue_told s f g hf _ s rfl, filter_changeCue_active s P f g hf hg hn]

/-! ### Removals (R48, R108) -/

theorem told_active (s : State) (r : ActiveCue) (x : DeskState) : (s.told r x).active = s.active :=
  (congrArg State.active (told_sansMsgs s r x) :)

theorem told_swapPending (s : State) (r : ActiveCue) (x : DeskState) : (s.told r x).swapPending = s.swapPending :=
  (congrArg State.swapPending (told_sansMsgs s r x) :)

/-- A list that is not empty, or no swap that waits: nothing completes. -/
theorem listEmptied_eq {s : State} (h : s.swapPending = false ∨ s.active ≠ []) : s.listEmptied = s := by
  unfold State.listEmptied
  rw [if_neg]
  rintro hc
  obtain ⟨hempty, hswap⟩ := Bool.and_eq_true_iff.1 hc
  rcases h with h | h
  · rw [h] at hswap
    cases hswap
  · exact h (List.isEmpty_iff.1 hempty)

/-- The list without the record of a slot. -/
def withoutCue (l : List ActiveCue) (slot : CueSlot) : List ActiveCue := l.filter fun x => x.slot ≠ slot

theorem dropCue_eq (s : State) (slot : CueSlot) : s.dropCue slot = s.setActive (withoutCue s.active slot) := by
  simp only [State.dropCue, withoutCue, ne_eq, decide_not, bne, beq_eq_decide]

/-- R48: a removal that completes no swap. -/
theorem removeCue_eq_told {s : State} {r : ActiveCue} (x : DeskState)
    (h : s.swapPending = false ∨ ∃ y ∈ s.active, y.slot ≠ r.slot) :
    s.removeCue r x = (s.setActive (withoutCue s.active r.slot)).told r x := by
  rw [State.removeCue, dropCue_eq]
  have htold : (s.setActive (withoutCue s.active r.slot)).deskStatus (s.deskBody r x) =
      (s.setActive (withoutCue s.active r.slot)).told r x := rfl
  rw [htold, listEmptied_eq]
  rw [told_active, told_swapPending]
  refine h.imp id fun ⟨y, hy, hne⟩ hnil => ?_
  have : y ∈ withoutCue s.active r.slot := List.mem_filter.2 ⟨hy, by simpa using hne⟩
  rw [show withoutCue s.active r.slot = [] from hnil] at this
  cases this

/-- R48, R58: removals one after the other that complete no swap. -/
theorem foldl_removeCue_eq : ∀ (l : List ActiveCue) (s : State),
    (s.swapPending = false ∨ ∃ y ∈ s.active, ∀ r ∈ l, y.slot ≠ r.slot) →
    l.foldl (fun t r => t.removeCue r .cancelled) s =
      (s.setActive (s.active.filter fun y => ∀ r ∈ l, y.slot ≠ r.slot)).toldCancelled l
  | [], s, _ => by simp [State.toldCancelled]
  | r :: l, s, h => by
    have hone : s.swapPending = false ∨ ∃ y ∈ s.active, y.slot ≠ r.slot :=
      h.imp id fun ⟨y, hy, hne⟩ => ⟨y, hy, hne r List.mem_cons_self⟩
    rw [List.foldl_cons, removeCue_eq_told _ hone, foldl_removeCue_eq l, told_setActive, told_active]
    · have hlists : (withoutCue s.active r.slot).filter (fun y => ∀ x ∈ l, y.slot ≠ x.slot) =
          s.active.filter fun y => ∀ x ∈ r :: l, y.slot ≠ x.slot := by
        rw [withoutCue, List.filter_filter]
        refine List.filter_congr fun y _ => ?_
        simp [Bool.and_comm]
      have hset : (s.setActive (withoutCue s.active r.slot)).active = withoutCue s.active r.slot := rfl
      rw [hset, setActive_setActive, hlists]
      rfl
    · rw [told_active, told_swapPending]
      refine h.imp id fun ⟨y, hy, hne⟩ => ⟨y, ?_, fun x hx => hne x (List.mem_cons_of_mem r hx)⟩
      exact List.mem_filter.2 ⟨hy, by simpa using hne r List.mem_cons_self⟩

end Sys2Proof.Machine
end

section
/-! STANDBY and GO as they are tested, HOLD and RELEASE, the ALL forms, removals and cue-key presses (R17, R22, R30–R34,
R39–R42, R47, R48, R57, R58). -/

namespace Sys2Proof.Machine

/-! ### Refusals -/

/-- R17: a STANDBY that fails a test is answered with its code, and nothing else changes. -/
theorem standby_refused {s : State} {p : Port} (tag : Octet) {slot : CueSlot} {st : Status} (hs : MaySend s p .cue)
    (h : s.standbyRefusal slot = some st) :
    exec (.standby p tag slot) s = .next (s.replied p (replyOf 0x90 tag st .nothing)) := by
  have hreserved : (s.reserve p).standbyRefusal slot = some st := h
  have ho : owner p (.standby slot) (s.reserve p) = (s.reserve p, Answer.with st .nothing) := by
    simp only [owner, standbyRequest, hreserved]
    rfl
  exact congrArg Host.Outcome.next (request_refused (r := .standby slot) tag st .nothing hs ho)

/-- R39: a GO that fails a test is answered with its code, and nothing else changes. -/
theorem go_refused {s : State} {p : Port} (tag : Octet) {slot : CueSlot} {st : Status} (hs : MaySend s p .cue)
    (h : s.goTarget slot = .error st) :
    exec (.go p tag slot) s = .next (s.replied p (replyOf 0x91 tag st .nothing)) := by
  have hreserved : (s.reserve p).goTarget slot = .error st := h
  have ho : owner p (.go slot) (s.reserve p) = (s.reserve p, Answer.with st .nothing) := by
    simp only [owner, goRequest, hreserved]
    rfl
  exact congrArg Host.Outcome.next (request_refused (r := .go slot) tag st .nothing hs ho)

theorem findCue_isSome (s : State) (slot : CueSlot) :
    (s.findCue slot).isSome = true ↔ slot ∈ s.active.map ActiveCue.slot := by
  simp [State.findCue]

/-- Settles O24: each refusal is the first test that fails. -/
theorem standbyAndGoTestsInOrder : Obligations.StandbyAndGoTestsInOrder := by
  refine ⟨fun s p tag slot hs => ?_, fun s p tag slot hs => ?_⟩
  · have hmember : (¬∀ r ∈ s.active, r.slot ≠ slot) ↔ (s.findCue slot).isSome = true := by
      rw [← findCue_none, Option.isSome_iff_ne_none]
    refine ⟨fun h => ?badCue, fun hv hsw => ?swap, fun hv hsw ha => ?already, fun hv hsw ha hf => ?full,
      fun hv hsw ha hf hn => ?none⟩ <;> refine standby_refused tag hs ?_ <;> unfold State.standbyRefusal
    case badCue => exact if_pos (Bool.eq_false_iff.2 h)
    all_goals rw [if_neg (show ¬(s.cue slot).valid = false from fun h => Bool.false_ne_true (h.symm.trans hv))]
    case swap => rw [if_pos hsw]
    all_goals rw [if_neg (show ¬s.swapPending = true from fun h => Bool.false_ne_true (hsw.symm.trans h))]
    case already => rw [if_pos (hmember.1 ha)]
    all_goals rw [if_neg (fun h => hmember.2 h ha)]
    case full => rw [if_pos hf]
    case none => exact (if_neg (Nat.not_le.2 hf)).trans (if_pos ((PortSet.isEmpty_iff _).2 hn))
  · refine ⟨fun h => go_refused tag hs (goTarget_none (findCue_none.2 h)), fun r hfind => ?_⟩
    have hgo := goTarget_some hfind
    refine ⟨fun h => ?going, fun h => ?held, fun h hp => ?notReady, fun h z hz hv ho => ?blocked⟩ <;>
      refine go_refused tag hs (hgo.trans ?_)
    case going => rw [if_pos h]
    case held => rw [if_neg (by simp [h]), if_pos h]
    case notReady => rw [if_neg (by simp [h]), if_neg (by simp [h]), if_pos ⟨h, hp⟩]
    case blocked =>
      have hpolicy : ¬(r.state = .standby ∧ (s.cue slot).goPolicy = .readyOnly) := by
        rintro ⟨hstandby, hready⟩
        rcases h with h | ⟨-, h⟩
        · exact nomatch hstandby.symm.trans h
        · exact nomatch hready.symm.trans h
      have hstate : r.state ≠ .going ∧ r.state ≠ .held := by
        rcases h with h | ⟨h, -⟩ <;> rw [h] <;> exact ⟨nofun, nofun⟩
      rw [if_neg hstate.1, if_neg hstate.2, if_neg hpolicy, if_pos ((blocked_iff s slot).2 ⟨z, hz, hv, ho⟩)]

/-! ### GO -/

theorem cue_congr {s t : State} (h : t.sansCues = s.sansCues) (slot : CueSlot) : t.cue slot = s.cue slot := by
  simp only [State.cue, liveTables_congr h]

/-- R40: without a successor a GO is the entry to GOING. -/
theorem takeGo_of_no_successor {s : State} {r : ActiveCue} (h : (s.cue r.slot).successor = none) :
    s.takeGo r = s.enterGoing r := by
  have hsame : ((s.enterGoing r).cue r.slot).successor = none := by rw [cue_congr (enterGoing_sansCues s r), h]
  show State.applyLink (s.active.length + 8 + 1) r (s.enterGoing r) = _
  rw [State.applyLink, hsame]

/-- Settles O26: the owner enters GOING, and the telling of the desks does not meet the reply. -/
theorem goTakesTheRecordToGoing : Obligations.GoTakesTheRecordToGoing := by
  intro s p tag slot r hs hgo hlink
  obtain ⟨-, rfl⟩ := findCue_some (goTarget_mem hgo)
  have hreserved : (s.reserve p).goTarget r.slot = .ok r := hgo
  have ho : owner p (.go r.slot) (s.reserve p) =
      ((s.reserve p).changeCue (s.goingCue r), Answer.with .ok (.cue r.slot .going)) := by
    simp only [owner, goRequest, hreserved, takeGo_of_no_successor (s := s.reserve p) hlink]
    rfl
  exact congrArg Host.Outcome.next (request_changes (r := .go r.slot) tag hs ho)

/-! ### HOLD and RELEASE -/

theorem hold_refused {s : State} {p : Port} (tag : Octet) {slot : CueSlot} {st : Status} (hs : MaySend s p .cue)
    (h : s.holdTarget slot = .error st) :
    exec (.hold p tag slot) s = .next (s.replied p (replyOf 0x93 tag st .nothing)) := by
  have hreserved : (s.reserve p).holdTarget slot = .error st := h
  have ho : owner p (.hold slot) (s.reserve p) = (s.reserve p, Answer.with st .nothing) := by
    simp only [owner, holdRequest, hreserved]
    rfl
  exact congrArg Host.Outcome.next (request_refused (r := .hold slot) tag st .nothing hs ho)

theorem release_refused {s : State} {p : Port} (tag : Octet) {slot : CueSlot} {st : Status} (hs : MaySend s p .cue)
    (h : s.releaseTarget slot = .error st) :
    exec (.release p tag slot) s = .next (s.replied p (replyOf 0x94 tag st .nothing)) := by
  have hreserved : (s.reserve p).releaseTarget slot = .error st := h
  have ho : owner p (.release slot) (s.reserve p) = (s.reserve p, Answer.with st .nothing) := by
    simp only [owner, releaseRequest, hreserved]
    rfl
  exact congrArg Host.Outcome.next (request_refused (r := .release slot) tag st .nothing hs ho)

theorem hold_taken {s : State} {p : Port} (tag : Octet) {r : ActiveCue} (hs : MaySend s p .cue)
    (h : s.holdTarget r.slot = .ok r) :
    exec (.hold p tag r.slot) s =
      .next (((s.setActive (replaceCue s.active (s.heldCue r))).replied p (replyOf 0x93 tag .ok (.slot r.slot))).told
        (s.heldCue r) (.inList .held)) := by
  have hreserved : (s.reserve p).holdTarget r.slot = .ok r := h
  have ho : owner p (.hold r.slot) (s.reserve p) =
      ((s.reserve p).changeCue (s.heldCue r), Answer.with .ok (.slot r.slot)) := by
    simp only [owner, holdRequest, hreserved]
    rfl
  exact congrArg Host.Outcome.next (request_changes (r := .hold r.slot) tag hs ho)

theorem release_taken {s : State} {p : Port} (tag : Octet) {r : ActiveCue} (hs : MaySend s p .cue)
    (h : s.releaseTarget r.slot = .ok r) :
    exec (.release p tag r.slot) s =
      .next (((s.setActive (replaceCue s.active (s.releasedCue r))).replied p
        (replyOf 0x94 tag .ok (.cue r.slot (s.releasedCue r).state))).told (s.releasedCue r)
          (.inList (s.releasedCue r).state)) := by
  have hreserved : (s.reserve p).releaseTarget r.slot = .ok r := h
  have ho : owner p (.release r.slot) (s.reserve p) =
      ((s.reserve p).changeCue (s.releasedCue r), Answer.with .ok (.cue r.slot (s.releasedCue r).state)) := by
    simp only [owner, releaseRequest, hreserved]
    rfl
  exact congrArg Host.Outcome.next (request_changes (r := .release r.slot) tag hs ho)

/-- R33, R34: the record that RELEASE leaves, from the state it was held in. -/
theorem releasedCue_eq (s : State) {r : ActiveCue} {before : CueState} (h : r.prior = some before) :
    s.releasedCue r =
      let back : ActiveCue :=
        { r with
          state := before, prior := none, followDeadline := r.remaining.map fun d => s.clock + d, remaining := none }
      { back with state := if before = .standby ∧ s.policyMet back = true then .ready else before } := by
  simp only [State.releasedCue, h, Option.getD_some, State.testReady]
  split <;> rfl

theorem holdTarget_some {s : State} {slot : CueSlot} {r : ActiveCue} (h : s.findCue slot = some r) :
    s.holdTarget slot =
      match r.state with
      | .held => .error .already
      | .going => .error .tooLate
      | _ => .ok r := by
  simp only [State.holdTarget, h] <;> rfl

theorem releaseTarget_some {s : State} {slot : CueSlot} {r : ActiveCue} (h : s.findCue slot = some r) :
    s.releaseTarget slot = if r.state = .held then .ok r else .error .notHeld := by
  simp only [State.releaseTarget, h]

/-- Settles O29: by the tests of HOLD and of RELEASE and the record each leaves. -/
theorem holdAndReleaseOneRecord : Obligations.HoldAndReleaseOneRecord := by
  intro s p tag slot hs
  refine ⟨fun h => ?_, fun r hfind => ?_⟩
  · have hnone := findCue_none.2 h
    exact ⟨hold_refused tag hs (by simp only [State.holdTarget, hnone]),
      release_refused tag hs (by simp only [State.releaseTarget, hnone])⟩
  · obtain ⟨-, rfl⟩ := findCue_some hfind
    have hhold := holdTarget_some hfind
    have hrelease := releaseTarget_some hfind
    refine ⟨fun h => ?_, fun h => ?_, fun h => ?_, fun h => ?_, fun before h hprior => ?_⟩
    · exact hold_refused tag hs (by rw [hhold, h])
    · exact hold_refused tag hs (by rw [hhold, h])
    · exact release_refused tag hs (by rw [hrelease, if_neg h])
    · exact hold_taken tag hs (by rcases h with h | h <;> rw [hhold, h])
    · have htaken := release_taken tag hs (hrelease.trans (if_pos h))
      rw [releasedCue_eq s hprior] at htaken
      exact htaken

/-! ### The ALL forms -/

/-- A request that only answers. -/
theorem cueRequest_refused {s : State} {p : Port} (tag : Octet) {r : Request} {st : Status}
    (hs : MaySend s p (requestRight r)) (ho : owner p r (s.reserve p) = (s.reserve p, Answer.bare st)) :
    s.request p tag r = s.replied p (replyOf (replyKind (requestKind r)) tag st .nothing) :=
  request_refused tag st .nothing hs ho

theorem holdable_iff (r : ActiveCue) : r.holdable = true ↔ r.state = .standby ∨ r.state = .ready := by
  simp [ActiveCue.holdable]

theorem isHeld_iff (r : ActiveCue) : r.isHeld = true ↔ r.state = .held := by
  simp [ActiveCue.isHeld]

theorem cancellable_iff (r : ActiveCue) : r.cancellable = true ↔ r.state ≠ .going := by
  simp [ActiveCue.cancellable]

/-- R31, R34: a request that changes each record that passes a test: the reply, then the desks, in list order. -/
theorem request_changesEach {s : State} {p : Port} (tag : Octet) {r : Request} (P : ActiveCue → Bool)
    (f : State → ActiveCue → ActiveCue) (hs : MaySend s p (requestRight r))
    (ho : owner p r (s.reserve p) =
      (((s.reserve p).active.filter P).foldl (fun t r => t.changeCue (f t r)) (s.reserve p), Answer.with .ok .nothing))
    (hf : ∀ t r, t.sansCues = s.sansCues → f t r = f s r) (hslot : ∀ r, (f s r).slot = r.slot)
    (hn : (s.active.map ActiveCue.slot).Nodup) :
    s.request p tag r =
      ((s.setActive (s.active.map fun r => if P r then f s r else r)).replied p
        (replyOf (replyKind (requestKind r)) tag .ok .nothing)).toldAll ((s.active.filter P).map (f s)) :=
  request_through tag (s.setActive (s.active.map fun r => if P r then f s r else r))
    (fun t => t.toldAll ((s.active.filter P).map (f s))) .ok .nothing hs
    (ho.trans (congrArg (·, _) (changeEach_eq (s.reserve p) P f (f s) hf hslot hn)))
    fun t kind tag a ha => toldAll_answer p kind tag a ha _ t

/-- R58: CANCEL(ALL) that completes no swap. -/
theorem cancelAll_taken {s : State} {p : Port} (tag : Octet) (hs : MaySend s p .cue)
    (hn : (s.active.map ActiveCue.slot).Nodup) (hany : ∃ r ∈ s.active, r.state ≠ .going)
    (hstays : s.swapPending = false ∨ ∃ r ∈ s.active, r.state = .going) :
    s.request p tag .cancelAll =
      ((s.setActive (s.active.filter fun r => r.state = .going)).replied p (replyOf 0x95 tag .ok .nothing)).toldCancelled
        (s.active.filter fun r => r.state ≠ .going) := by
  have huniq : ∀ y ∈ s.active, ∀ x ∈ s.active, y.slot = x.slot → y = x := fun y hy x hx e =>
    List.inj_on_of_nodup_map hn hy hx e
  have htaken : (s.active.filter ActiveCue.cancellable) = s.active.filter fun r => r.state ≠ .going :=
    List.filter_congr fun r _ => by rw [Bool.eq_iff_iff, cancellable_iff, decide_eq_true_iff]
  have hother : ∀ y ∈ s.active, (y.state = .going ↔ ∀ r ∈ s.active.filter fun r => r.state ≠ .going, y.slot ≠ r.slot) := by
    intro y hy
    constructor
    · intro hgoing r hr e
      obtain ⟨hr, hstate⟩ := List.mem_filter.1 hr
      rw [← huniq y hy r hr e, hgoing] at hstate
      cases hstate
    · intro h
      by_contra hgoing
      exact h y (List.mem_filter.2 ⟨hy, by simpa using hgoing⟩) rfl
  have hleft : (s.active.filter fun y : ActiveCue =>
        decide (∀ r ∈ s.active.filter fun r : ActiveCue => r.state ≠ .going, y.slot ≠ r.slot)) =
      s.active.filter fun r => r.state = .going :=
    List.filter_congr fun y hy => decide_eq_decide.2 (hother y hy).symm
  have hfold := foldl_removeCue_eq (s.active.filter fun r => r.state ≠ .going) (s.reserve p)
    (hstays.imp id fun ⟨y, hy, hgoing⟩ => ⟨y, hy, (hother y hy).1 hgoing⟩)
  have hactive : (s.reserve p).active = s.active := rfl
  have hany' : s.active.any ActiveCue.cancellable = true := by
    obtain ⟨r, hr, h⟩ := hany
    exact List.any_eq_true.2 ⟨r, hr, (cancellable_iff r).2 h⟩
  refine request_through (r := .cancelAll) tag (s.setActive (s.active.filter fun r => r.state = .going))
    (fun t => t.toldCancelled (s.active.filter fun r => r.state ≠ .going)) .ok .nothing hs ?_
    fun t kind tag a ha => toldCancelled_answer p kind tag a ha _ t
  rw [hactive, hleft] at hfold
  simp only [owner, cancelAllRequest, hactive, if_pos hany', htaken, hfold]
  rfl

/-- Settles O30: by the tests of each form, and the records each takes one after the other. -/
theorem allFormsTakeEveryRecordTheyMay : Obligations.AllFormsTakeEveryRecordTheyMay := by
  intro s p tag hs hsound
  obtain ⟨-, hn, -⟩ := hsound
  have hactive : (s.reserve p).active = s.active := rfl
  have hempty : ∀ f : ActiveCue → Bool, s.active = [] → s.active.any f = false := fun f h => by rw [h]; rfl
  have hnone : ∀ {f : ActiveCue → Bool}, (∀ r ∈ s.active, ¬f r = true) → s.active.any f = false := fun h =>
    Bool.eq_false_iff.2 fun hany => by
      obtain ⟨r, hr, hf⟩ := List.any_eq_true.1 hany
      exact h r hr hf
  have hsome : s.active ≠ [] → s.active.isEmpty = false := fun h => by simpa using h
  refine ⟨fun h => ⟨?_, ?_, ?_⟩, fun h hgoing => ⟨?_, ?_⟩, fun h hheld => ?_, fun h hheld => ?_, fun h => ?_, fun h => ?_,
    fun hany hstays => congrArg Host.Outcome.next (cancelAll_taken tag hs hn hany hstays)⟩
  · refine congrArg Host.Outcome.next (cueRequest_refused (r := .holdAll) tag hs ?_)
    simp only [owner, holdAllRequest, hactive, h]
    rfl
  · refine congrArg Host.Outcome.next (cueRequest_refused (r := .releaseAll) tag hs ?_)
    simp only [owner, releaseAllRequest, hactive, h]
    rfl
  · refine congrArg Host.Outcome.next (cueRequest_refused (r := .cancelAll) tag hs ?_)
    simp only [owner, cancelAllRequest, hactive, h]
    rfl
  · refine congrArg Host.Outcome.next (cueRequest_refused (r := .holdAll) tag hs ?_)
    have h1 := hnone fun r hr => by rw [holdable_iff, hgoing r hr]; exact nofun
    have h2 : s.active.any (fun r => r.state == .held) = false := hnone fun r hr => by rw [hgoing r hr]; exact nofun
    simp only [owner, holdAllRequest, hactive, h1, h2, hsome h, Bool.false_eq_true, if_false]
  · refine congrArg Host.Outcome.next (cueRequest_refused (r := .cancelAll) tag hs ?_)
    have h1 := hnone fun r hr => by rw [cancellable_iff, not_not]; exact hgoing r hr
    simp only [owner, cancelAllRequest, hactive, h1, hsome h, Bool.false_eq_true, if_false]
  · refine congrArg Host.Outcome.next (cueRequest_refused (r := .holdAll) tag hs ?_)
    have h1 := hnone fun r hr => by rw [holdable_iff]; rcases h r hr with e | e <;> rw [e] <;> exact nofun
    obtain ⟨r, hr, e⟩ := hheld
    have h2 : s.active.any (fun r => r.state == .held) = true := List.any_eq_true.2 ⟨r, hr, by rw [e]; rfl⟩
    simp only [owner, holdAllRequest, hactive, h1, h2, hsome (List.ne_nil_of_mem hr), Bool.false_eq_true, if_false, if_true]
  · refine congrArg Host.Outcome.next (cueRequest_refused (r := .releaseAll) tag hs ?_)
    have h1 := hnone fun r hr => by rw [isHeld_iff]; exact hheld r hr
    simp only [owner, releaseAllRequest, hactive, h1, hsome h, Bool.false_eq_true, if_false]
  · obtain ⟨r, hr, e⟩ := h
    have hany : s.active.any ActiveCue.holdable = true := List.any_eq_true.2 ⟨r, hr, (holdable_iff r).2 e⟩
    have htaken := request_changesEach (r := .holdAll) tag ActiveCue.holdable State.heldCue hs
      (by simp only [owner, holdAllRequest, hactive, if_pos hany]; rfl)
      (fun t r ht => (congrArg (fun u : State => u.heldCue r) ht :)) (fun _ => rfl) hn
    have hfilter : s.active.filter ActiveCue.holdable = s.active.filter fun r => r.state = .standby ∨ r.state = .ready :=
      List.filter_congr fun r _ => by rw [Bool.eq_iff_iff, holdable_iff, decide_eq_true_iff]
    simp only [holdable_iff, hfilter] at htaken
    exact congrArg Host.Outcome.next htaken
  · obtain ⟨r, hr, e⟩ := h
    have hany : s.active.any ActiveCue.isHeld = true := List.any_eq_true.2 ⟨r, hr, (isHeld_iff r).2 e⟩
    have htaken := request_changesEach (r := .releaseAll) tag ActiveCue.isHeld State.releasedCue hs
      (by simp only [owner, releaseAllRequest, hactive, if_pos hany]; rfl)
      (fun t r ht => (congrArg (fun u : State => u.releasedCue r) ht :)) (fun r => testReady_slot s _) hn
    have hfilter : s.active.filter ActiveCue.isHeld = s.active.filter fun r => r.state = .held :=
      List.filter_congr fun r _ => by rw [Bool.eq_iff_iff, isHeld_iff, decide_eq_true_iff]
    simp only [isHeld_iff, hfilter] at htaken
    exact congrArg Host.Outcome.next htaken

/-! ### Removals -/

theorem cancel_refused {s : State} {p : Port} (tag : Octet) {slot : CueSlot} {st : Status} (hs : MaySend s p .cue)
    (h : s.cancelTarget slot = .error st) :
    exec (.cancel p tag slot) s = .next (s.replied p (replyOf 0x95 tag st .nothing)) := by
  have hreserved : (s.reserve p).cancelTarget slot = .error st := h
  have ho : owner p (.cancel slot) (s.reserve p) = (s.reserve p, Answer.with st .nothing) := by
    simp only [owner, cancelRequest, hreserved]
    rfl
  exact congrArg Host.Outcome.next (request_refused (r := .cancel slot) tag st .nothing hs ho)

theorem cancel_taken {s : State} {p : Port} (tag : Octet) {r : ActiveCue} (hs : MaySend s p .cue)
    (h : s.cancelTarget r.slot = .ok r) (hstays : s.swapPending = false ∨ ∃ x ∈ s.active, x.slot ≠ r.slot) :
    exec (.cancel p tag r.slot) s =
      .next (((s.setActive (withoutCue s.active r.slot)).replied p (replyOf 0x95 tag .ok (.slot r.slot))).told r
        .cancelled) := by
  have hreserved : (s.reserve p).cancelTarget r.slot = .ok r := h
  have ho : owner p (.cancel r.slot) (s.reserve p) =
      ((((s.setActive (withoutCue s.active r.slot)).reserve p).told r .cancelled), Answer.with .ok (.slot r.slot)) := by
    simp only [owner, cancelRequest, hreserved, removeCue_eq_told (s := s.reserve p) .cancelled hstays]
    rfl
  exact congrArg Host.Outcome.next (request_through (r := .cancel r.slot) tag (s.setActive (withoutCue s.active r.slot))
    (fun t => t.told r .cancelled) .ok (.slot r.slot) hs ho fun t kind tag a => told_answer t r _ p kind tag a)

theorem reached_some (s : State) (d : Time) : s.reached (some d) = true ↔ d ≤ s.clock := decide_eq_true_iff

/-- R47: a go-display deadline of a record. -/
theorem goDisplayExpiry_some {s : State} {slot : CueSlot} {r : ActiveCue} (h : s.findCue slot = some r) :
    exec (.goDisplayExpiry slot) s = .next (if s.reached r.goDisplay then s.removeCue r .done else s) := by
  show Host.Outcome.next (s.goDisplayExpiry slot) = _
  simp only [State.goDisplayExpiry, h]

/-- Settles O31: by the tests of CANCEL, and a removal that completes no swap. -/
theorem removalClosesUpTheList : Obligations.RemovalClosesUpTheList := by
  refine ⟨fun s p tag slot h => ?_, fun s p tag slot r _ hfind => ?_⟩
  · have hnone := findCue_none.2 h
    refine ⟨fun hs => cancel_refused tag hs (by simp only [State.cancelTarget, hnone]), ?_⟩
    show Host.Outcome.next (s.goDisplayExpiry slot) = _
    simp only [State.goDisplayExpiry, hnone]
  · obtain ⟨-, rfl⟩ := findCue_some hfind
    have htarget : s.cancelTarget r.slot = if r.state = .going then .error .tooLate else .ok r := by
      simp only [State.cancelTarget, hfind]
    refine ⟨fun h hs => cancel_refused tag hs (htarget.trans (if_pos h)), fun hstays => ⟨fun h hs => ?_, fun d hd hdue => ?_⟩,
      fun d hd hlate => ?_⟩
    · exact cancel_taken tag hs (htarget.trans (if_neg h)) hstays
    · rw [goDisplayExpiry_some hfind, hd, if_pos ((reached_some s d).2 hdue), removeCue_eq_told _ hstays]
      rfl
    · rw [goDisplayExpiry_some hfind, hd, if_neg fun h => Nat.not_le.2 hlate ((reached_some s d).1 h)]

/-! ### Cue keys and the READY policy -/

theorem takesAck_iff (r : ActiveCue) (p : Port) :
    r.takesAck p = true ↔ (r.state = .standby ∨ r.state = .held) ∧ r.awaited.mem p = true := by
  simp [ActiveCue.takesAck]

/-- Settles O33: a press changes each record it reaches, and the policy of R21 is as its table says. -/
theorem cueKeyPressAcknowledges : Obligations.CueKeyPressAcknowledges := by
  refine ⟨fun s p hsound => ?_, fun s r => ⟨fun h => ?_, fun h => ?_, fun h => ?_⟩⟩
  · obtain ⟨-, hn, -⟩ := hsound
    have heach := changeEach_eq s (fun r => r.takesAck p) (fun t r => t.ackedCue r p) (fun r => s.ackedCue r p)
      (fun t r ht => testReady_congr ht _) (fun r => testReady_slot s _) hn
    have hfilter : (s.active.filter fun r => r.takesAck p) =
        s.active.filter fun r => (r.state = .standby ∨ r.state = .held) ∧ r.awaited.mem p = true :=
      List.filter_congr fun r _ => by rw [Bool.eq_iff_iff, takesAck_iff, decide_eq_true_iff]
    rw [hfilter] at heach
    simp only [takesAck_iff] at heach
    rw [State.cuePress, hfilter]
    exact heach
  · have h' : (s.cue r.slot).ackPolicy = .all := h
    simp only [State.policyMet, h', PortSet.isEmpty_iff]
  · have h' : (s.cue r.slot).ackPolicy = .any := h
    have hacked : r.acked.isEmpty = false ↔ ∃ q : Port, r.acked.mem q = true := by
      rw [← Bool.not_eq_true, PortSet.isEmpty_iff, not_forall]
      exact exists_congr fun q => by rw [Bool.not_eq_false]
    simp only [State.policyMet, h', Bool.or_eq_true, Bool.not_eq_true', hacked, PortSet.isEmpty_iff, PortSet.mem_inter,
      State.presentSet, PortSet.mem_ofTest, Bool.and_eq_false_imp]
  · have h' : (s.cue r.slot).ackPolicy = .nobody := h
    simp only [State.policyMet, h']

end Sys2Proof.Machine
end

section
/-! The successor link of a sent cue, and the deadlines of a record (R29, R40–R42, R45, R49–R55). -/

namespace Sys2Proof.Machine

/-! ### A record in GOING stays -/

/-- R39: no GO takes a record that is GOING, so a chain of sends leaves it. -/
theorem enterGoing_keeps_going {s : State} {slot : CueSlot} {x y : ActiveCue} (hs : CueListSound s)
    (hgo : s.goTarget slot = .ok y) (hx : x ∈ s.active) (hgoing : x.state = .going) : x ∈ (s.enterGoing y).active := by
  obtain ⟨hfind, hstate, -⟩ := goTarget_ok.1 hgo
  obtain ⟨-, hnodup, -⟩ := hs
  have hne : x.slot ≠ y.slot := fun e =>
    hstate (List.inj_on_of_nodup_map hnodup hx (findCue_some hfind).1 e ▸ hgoing)
  rw [State.enterGoing, changeCue_eq_told, told_active]
  exact mem_replaceCue_of_ne hx hne

theorem linkStanding_keeps_going {s : State} {slot : CueSlot} {x y : ActiveCue} (hs : CueListSound s)
    (hfind : s.findCue slot = some y) (hx : x ∈ s.active) (hgoing : x.state = .going) (q : CueSlot) (d : Nat) :
    x ∈ (s.linkStanding y q d).active := by
  obtain ⟨-, hnodup, -⟩ := hs
  have hne : y.state ≠ .going → x.slot ≠ y.slot := fun hstate e =>
    hstate (List.inj_on_of_nodup_map hnodup hx (findCue_some hfind).1 e ▸ hgoing)
  have hput : ∀ z : ActiveCue, z.slot = y.slot → y.state ≠ .going → x ∈ (s.putCue z).active := fun z hz hstate => by
    rw [putCue_eq]
    exact mem_replaceCue_of_ne hx fun e => hne hstate (e.trans hz)
  unfold State.linkStanding
  cases hy : y.state with
  | going => simpa using hx
  | standby | ready => exact hput _ rfl (by rw [hy]; exact nofun)
  | held => exact hput _ rfl (by rw [hy]; exact nofun)

theorem applyLink_keeps_going {x : ActiveCue} (hgoing : x.state = .going) :
    ∀ (n : Nat) (r : ActiveCue) (s : State), CueListSound s → x ∈ s.active → x ∈ (State.applyLink n r s).active
  | 0, _, _, _, hx => hx
  | n + 1, r, s, hs, hx => by
    unfold State.applyLink
    cases (s.cue r.slot).successor with
    | none => exact hx
    | some link =>
      cases link with
      | standbyNext next =>
        simp only
        cases s.standbyRefusal next with
        | some st => simpa using hx
        | none => simp [hx]
      | autofollow next delay =>
        simp only
        cases hfind : s.findCue next with
        | some y =>
          simp only
          split
          · cases hgo : s.goTarget next with
            | error st => simpa using hx
            | ok z =>
              exact applyLink_keeps_going hgoing n z _
                ((enterGoing_change (findCue_some (goTarget_mem hgo)).1).keeps_list hs)
                (enterGoing_keeps_going hs hgo hx hgoing)
          · exact linkStanding_keeps_going hs hfind hx hgoing _ _
        | none =>
          simp only
          cases hrefusal : s.standbyRefusal next with
          | some st => simpa using hx
          | none =>
            simp only
            split
            · split
              · simp [hx]
              · rename_i z hgo
                have hjoined : CueListSound (s.joinList (s.newCue next (.follow r.slot) none)) :=
                  joinList_keeps_list _ _ hrefusal hs
                have hsent := (enterGoing_change (findCue_some (goTarget_mem hgo)).1).keeps_list hjoined
                refine applyLink_keeps_going hgoing n z _ (hsent.of_slots (by simp) fun h => .inl (by simpa using h)) ?_
                simp only [noticeAbsent_fields]
                exact enterGoing_keeps_going hjoined hgo (by simp [hx]) hgoing
            · simp [hx]

/-- R40: a sent record is GOING when its chain has been sent. -/
theorem takeGo_mem {s : State} {slot : CueSlot} {r : ActiveCue} (hs : CueListSound s) (hgo : s.goTarget slot = .ok r) :
    s.goingCue r ∈ (s.takeGo r).active := by
  have hmem := (findCue_some (goTarget_mem hgo)).1
  refine applyLink_keeps_going rfl _ _ _ ((enterGoing_change hmem).keeps_list hs) ?_
  rw [State.enterGoing, changeCue_eq_told, told_active]
  exact mem_replaceCue ⟨r, hmem, rfl⟩

/-! ### The deadlines of a record -/

theorem ackExpiry_some {s : State} {slot : CueSlot} {r : ActiveCue} (h : s.findCue slot = some r) :
    exec (.ackDeadlineExpiry slot) s = .next (if s.reached r.ackDeadline then s.ackExpired r else s) := by
  show Host.Outcome.next (s.ackExpiry slot) = _
  simp only [State.ackExpiry, h]

theorem followExpiry_some {s : State} {slot : CueSlot} {r : ActiveCue} (h : s.findCue slot = some r) :
    exec (.followDeadlineExpiry slot) s = .next (if s.reached r.followDeadline then s.followExpired r else s) := by
  show Host.Outcome.next (s.followExpiry slot) = _
  simp only [State.followExpiry, h]

/-- R39: the tests of GO read of a record its state alone. -/
theorem goTarget_replaced {s : State} {r x : ActiveCue} (h : s.findCue r.slot = some r) (hslot : x.slot = r.slot)
    (hstate : x.state = r.state) :
    (s.setActive (replaceCue s.active x)).goTarget r.slot = (s.goTarget r.slot).map fun _ => x := by
  have hx : (s.setActive (replaceCue s.active x)).findCue r.slot = some x := by
    rw [findCue_setActive, ← hslot]
    exact replaceCue_find_same x ⟨r, (findCue_some h).1, hslot.symm⟩
  have hblocked : (s.setActive (replaceCue s.active x)).blocked r.slot = s.blocked r.slot := rfl
  have hcue : (s.setActive (replaceCue s.active x)).cue r.slot = s.cue r.slot := rfl
  rw [goTarget_some hx, goTarget_some h, hstate, hblocked, hcue]
  split
  · rfl
  split
  · rfl
  split
  · rfl
  split <;> rfl

/-- R45: the origin a refused follow GO carries. -/
theorem followOrigin_eq (r : ActiveCue) :
    r.followOrigin = .follow (match r.origin with
      | .follow q => some q
      | _ => none) := by
  unfold ActiveCue.followOrigin
  cases r.origin <;> rfl

/-- R55: a follow deadline that is due: the record without it, then GO. -/
theorem followExpired_eq {s : State} {r : ActiveCue} (h : s.findCue r.slot = some r) :
    s.followExpired r =
      let x : ActiveCue := { r with followDeadline := none }
      match s.goTarget r.slot with
      | .error st => (s.setActive (replaceCue s.active x)).refuseCue r.slot st r.followOrigin
      | .ok _ => (s.setActive (replaceCue s.active x)).takeGo x := by
  have htarget := goTarget_replaced (x := { r with followDeadline := none }) h rfl rfl
  simp only [State.followExpired, putCue_eq, htarget]
  cases s.goTarget r.slot <;> rfl

/-- Settles O32: a deadline that is due leaves the record; the ack makes it overdue, the follow applies GO. -/
theorem cueDeadlinesExpire : Obligations.CueDeadlinesExpire := by
  refine ⟨fun s slot r d hfind hd => ?_, fun s slot r d hsound hfind hd hdue => ?_⟩
  · obtain ⟨-, rfl⟩ := findCue_some hfind
    have hexec := ackExpiry_some hfind
    rw [hd] at hexec
    refine ⟨fun hdue h => ?_, fun hdue h => ?_, fun hlate => ?_⟩
    · rw [hexec, if_pos ((reached_some s d).2 hdue), State.ackExpired, if_pos h, changeCue_eq_told]
      rfl
    · have hother : ¬(r.state = .standby ∨ (r.state = .held ∧ r.prior = some .standby)) := by
        rcases h with h | ⟨h, hp⟩
        · simp [h]
        · simp [h, hp]
      rw [hexec, if_pos ((reached_some s d).2 hdue), State.ackExpired, if_neg hother, putCue_eq]
      rfl
    · rw [hexec, if_neg fun h => Nat.not_le.2 hlate ((reached_some s d).1 h)]
  · obtain ⟨hmem, rfl⟩ := findCue_some hfind
    have hexec := followExpiry_some hfind
    rw [hd, if_pos ((reached_some s d).2 hdue), followExpired_eq hfind] at hexec
    refine ⟨fun x hgo => ?_, fun st hrefused => ?_⟩
    · have htarget := goTarget_replaced (x := { r with followDeadline := none }) hfind rfl rfl
      rw [hgo] at htarget hexec
      have hlist : CueListSound (s.setActive (replaceCue s.active { r with followDeadline := none })) :=
        hsound.of_slots (replaceCue_slots s.active _) .inl
      refine ⟨⟨_, hexec, takeGo_mem hlist htarget⟩, fun hlink => ?_⟩
      rw [hexec]
      simp only
      rw [takeGo_of_no_successor (s := s.setActive (replaceCue s.active { r with followDeadline := none }))
        (r := { r with followDeadline := none }) hlink, State.enterGoing, changeCue_eq_told]
      have htwice := replaceCue_replaceCue s.active (r := { r with followDeadline := none })
        (x := s.goingCue { r with followDeadline := none }) rfl
      exact congrArg (fun l => Host.Outcome.next
        ((s.setActive l).told (s.goingCue { r with followDeadline := none }) (.inList .going))) htwice
    · rw [hrefused] at hexec
      refine hexec.trans ?_
      simp only [State.refuseCue, followOrigin_eq] <;> rfl

end Sys2Proof.Machine
end

section
/-! GO_NEXT (R43). -/

namespace Sys2Proof.Machine

/-- R43: nothing is READY. -/
theorem oldestReady_none {s : State} (h : ∀ r ∈ s.active, r.state ≠ .ready) : s.oldestReady = none :=
  List.find?_eq_none.2 fun r hr => by simpa using h r hr

/-- R43: the record that GO_NEXT names is the first that is READY. -/
theorem oldestReady_first {s : State} {before after : List ActiveCue} {r : ActiveCue}
    (hactive : s.active = before ++ r :: after) (hbefore : ∀ x ∈ before, x.state ≠ .ready)
    (hready : r.state = .ready) : s.oldestReady = some r :=
  List.find?_eq_some_iff_append.2
    ⟨by rw [hready]; rfl, before, after, hactive, fun x hx => by simpa using hbefore x hx⟩

/-- R13: in a list without two records of one slot a record is the one of its slot. -/
theorem findCue_of_mem {s : State} {r : ActiveCue} (hs : CueListSound s) (hr : r ∈ s.active) :
    s.findCue r.slot = some r := by
  obtain ⟨-, hn, -⟩ := hs
  cases hfind : s.findCue r.slot with
  | none => exact absurd rfl (findCue_none.1 hfind r hr)
  | some x =>
    obtain ⟨hx, hslot⟩ := findCue_some hfind
    rw [List.inj_on_of_nodup_map hn hx hr hslot]

/-- R39: of the tests of GO a READY record meets that of its interlock zone alone. -/
theorem goTarget_ready {s : State} {r : ActiveCue} (hfind : s.findCue r.slot = some r) (hready : r.state = .ready) :
    s.goTarget r.slot = if s.blocked r.slot then .error .zoneBlocked else .ok r := by
  rw [goTarget_some hfind, hready, if_neg nofun, if_neg nofun, if_neg fun h => nomatch h.1]

theorem goNextRequest_none {s : State} (h : s.oldestReady = none) : goNextRequest s = (s, Answer.bare .nothingReady) := by
  simp only [goNextRequest, h]

theorem goNextRequest_refused {s : State} {r : ActiveCue} {st : Status} (h : s.oldestReady = some r)
    (hgo : s.goTarget r.slot = .error st) : goNextRequest s = (s, Answer.with st (.slot r.slot)) := by
  simp only [goNextRequest, h, hgo]

theorem goNextRequest_taken {s : State} {r x : ActiveCue} (h : s.oldestReady = some r) (hgo : s.goTarget r.slot = .ok x) :
    goNextRequest s = (s.takeGo x, Answer.with .ok (.cue r.slot .going)) := by
  simp only [goNextRequest, h, hgo]

theorem goRequest_taken {s : State} {slot : CueSlot} {x : ActiveCue} (hgo : s.goTarget slot = .ok x) :
    goRequest slot s = (s.takeGo x, Answer.with .ok (.cue slot .going)) := by
  simp only [goRequest, hgo]

/-- R40, R43: GO_NEXT that is taken: GO of the record it names but for messages, the reply with the slot, and the record
GOING. -/
theorem goNext_taken {s : State} {p : Port} (tag : Octet) {r : ActiveCue} (hs : MaySend s p .cue) (hsound : CueListSound s)
    (h : s.oldestReady = some r) (hgo : s.goTarget r.slot = .ok r) :
    MessagesAside (s.request p tag .goNext) (s.request p tag (.go r.slot))
      ∧ replyOf 0x92 tag .ok (.cue r.slot .going) ∈ (s.request p tag .goNext).queues[p]
      ∧ s.goingCue r ∈ (s.request p tag .goNext).active := by
  have honext : owner p .goNext (s.reserve p) = ((s.reserve p).takeGo r, Answer.with .ok (.cue r.slot .going)) :=
    goNextRequest_taken h hgo
  have hogo : owner p (.go r.slot) (s.reserve p) = ((s.reserve p).takeGo r, Answer.with .ok (.cue r.slot .going)) :=
    goRequest_taken hgo
  have hnext := request_sansMsgs (r := .goNext) tag hs
  have hdirect := request_sansMsgs (r := .go r.slot) tag hs
  rw [honext] at hnext
  rw [hogo] at hdirect
  refine ⟨(messagesAside_iff _ _).2 (hnext.trans hdirect.symm), ?reply, ?going⟩
  case reply =>
    have hreply := request_mem (r := .goNext) tag hs (by rw [honext]; rfl) (by rw [honext]; exact takeGo_keeps _ r)
    rw [honext] at hreply
    exact hreply
  case going =>
    have hactive : (s.request p tag .goNext).active = ((s.reserve p).takeGo r).active := (congrArg State.active hnext :)
    rw [hactive]
    exact takeGo_mem (s := s.reserve p) hsound hgo

/-- Settles O28: the oldest READY record meets no test of GO but that of its zone, and behind it GO_NEXT and GO do the
same. -/
theorem goNextSendsTheOldestReady : Obligations.GoNextSendsTheOldestReady := by
  intro s p tag hs hsound
  refine ⟨fun hnone => ?nothing, fun before r after hactive hbefore hready => ?oldest⟩
  case nothing =>
    exact congrArg Host.Outcome.next (request_refused (r := .goNext) tag .nothingReady .nothing hs
      (goNextRequest_none (s := s.reserve p) (oldestReady_none hnone)))
  case oldest =>
    have hfirst := oldestReady_first hactive hbefore hready
    have hgo := goTarget_ready (findCue_of_mem hsound (by rw [hactive]; simp)) hready
    refine ⟨fun hblocked => ?_, fun hfree => ?_⟩
    · rw [hblocked, if_pos rfl] at hgo
      exact congrArg Host.Outcome.next (request_refused (r := .goNext) tag .zoneBlocked (.slot r.slot) hs
        (goNextRequest_refused (s := s.reserve p) hfirst hgo))
    · rw [hfree, if_neg Bool.false_ne_true] at hgo
      obtain ⟨haside, hreply, hgoing⟩ := goNext_taken tag hs hsound hfirst hgo
      exact ⟨_, _, rfl, rfl, haside, hreply, s.goingCue r, hgoing, rfl, rfl⟩

end Sys2Proof.Machine
end

section
/-! The completion of a swap (R92, R100, R109), and what completes it: SWAP over an empty list (R105), and the removals that
empty the list (R108). -/

namespace Sys2Proof.Machine

/-! ### The completion -/

/-- R92, R109: the occupancy of the zones under the tables that a swap brings to serve. -/
def State.occupiedUnderOther (s : State) : Vector Bool 6 :=
  Vector.ofFn fun z : ZoneNo =>
    zoneInside (s.bank s.live.other).zones[z] (s.counter (s.bank s.live.other).zones[z].counter)

theorem occupiedUnderOther_get (s : State) (z : ZoneNo) :
    s.occupiedUnderOther[z] =
      zoneInside (s.bank s.live.other).zones[z] (s.counter (s.bank s.live.other).zones[z].counter) := by
  rw [State.occupiedUnderOther, Fin.getElem_fin, Vector.getElem_ofFn]

theorem zoneInside_iff (z : Zone) (c : Counter) :
    zoneInside z c = true ↔ z.valid = true ∧ (c.state = .overrange ∨ (z.lower ≤ c.value ∧ c.value ≤ z.upper)) := by
  simp [zoneInside]

theorem occupiedUnderOther_congr {s t : State} (h : t.sansCues = s.sansCues) :
    t.occupiedUnderOther = s.occupiedUnderOther := (congrArg State.occupiedUnderOther h :)

theorem rewindCounters_eq (s : State) : s.rewindCounters = { s with counters := s.counters.map Counter.rewound } := by
  have hcounters : s.rewindCounters.counters = s.counters.map Counter.rewound := by
    refine Vector.ext fun i hi => ?_
    match i, hi with
    | 0, _ => simp [State.rewindCounters, State.setCounter, State.counter, State.counterIdx]
    | 1, _ => simp [State.rewindCounters, State.setCounter, State.counter, State.counterIdx]
  rw [← hcounters]
  rfl

/-- R100: the rewinding of a comparison keeps what zones read of its counter. -/
theorem zoneInside_rewound (z : Zone) (c : Counter) : zoneInside z c.rewound = zoneInside z c := rfl

theorem counter_rewindCounters (s : State) (c : CounterId) : s.rewindCounters.counter c = (s.counter c).rewound := by
  rw [rewindCounters_eq]
  exact Vector.getElem_map _ _

/-- R92, R109: the zones as the completion of a swap evaluates them. -/
theorem completeSwap_occupied (s : State) :
    (s.flip.rewindCounters.evalZones allZones).occupied = s.occupiedUnderOther := by
  refine Vector.ext fun i hi => ?_
  have hzone := evalZones_occupied s.flip.rewindCounters ⟨i, hi⟩ allZones
  rw [if_pos (show (⟨i, hi⟩ : ZoneNo) ∈ allZones from List.mem_finRange _), State.zoneNow,
    counter_rewindCounters, zoneInside_rewound] at hzone
  exact hzone.trans (occupiedUnderOther_get s ⟨i, hi⟩).symm

/-- R109: a swap that completes. -/
theorem completeSwap_eq_swappedTo (s : State) (cause : SwapCause) :
    s.completeSwap cause = s.swappedTo s.occupiedUnderOther cause := by
  rw [State.completeSwap, evalZones_all, completeSwap_occupied, rewindCounters_eq]
  rfl

/-- R179: the completion of a swap and the filling of a reply do not meet. -/
theorem swappedTo_answer (s : State) (o : Vector Bool 6) (cause : SwapCause) (p : Port) (kind tag : Octet) (a : Answer)
    (ha : a.waits ≠ .deferred) : (s.swappedTo o cause).answer p kind tag a = (s.answer p kind tag a).swappedTo o cause := by
  simp only [State.swappedTo]
  rw [deskStatus_answer _ _ _ _ _ _ ha, raise_answer _ _ _ _ _ _ ha, State.raised, raised_answer _ _ _ _ ha]
  rfl

/-- R109 step 1: the selector has moved and the flag is clear. -/
theorem completeSwap_bankData (s : State) (cause : SwapCause) :
    (s.completeSwap cause).bankData = .bank s.live.other false := by
  simp only [State.bankData, State.completeSwap, deskStatus_fields, raise_fields, evalZones_fields]
  rfl

/-! ### SWAP -/

theorem swapRequest_pending {s : State} (h : s.swapPending = true) :
    swapRequest s = (s, Answer.with .already (.bank s.live true)) := by
  simp only [swapRequest, h, if_true, State.bankAnswer, State.bankData]

theorem swapRequest_waits {s : State} (h : s.swapPending = false) (hactive : s.active ≠ []) :
    swapRequest s = ({ s with swapPending := true }, Answer.with .ok (.bank s.live true)) := by
  have hempty : s.active.isEmpty = false := by simpa using hactive
  simp only [swapRequest, h, hempty, Bool.false_eq_true, if_false, State.bankAnswer, State.bankData]

theorem swapRequest_completes {s : State} (h : s.swapPending = false) (hactive : s.active = []) :
    swapRequest s =
      (s.swappedTo s.occupiedUnderOther .request, Answer.with .ok (.bank s.live.other false)) := by
  have hempty : s.active.isEmpty = true := by rw [hactive]; rfl
  rw [← completeSwap_eq_swappedTo, ← completeSwap_bankData s .request]
  simp only [swapRequest, h, hempty, Bool.false_eq_true, if_false, if_true, State.bankAnswer]

/-! ### Removals that empty the list -/

/-- R108: the list is empty and a swap is pending. -/
theorem listEmptied_completes {s : State} (hactive : s.active = []) (hswap : s.swapPending = true) :
    s.listEmptied = s.swappedTo s.occupiedUnderOther .drain := by
  rw [State.listEmptied, hactive, hswap, ← completeSwap_eq_swappedTo]
  rfl

theorem told_setActive_sansCues (s : State) (l : List ActiveCue) (r : ActiveCue) (x : DeskState) :
    ((s.setActive l).told r x).sansCues = s.sansCues :=
  (sansCues_of_sansMsgs (told_sansMsgs _ r x)).trans (setActive_sansCues s l)

/-- R48, R108: the removal of the only record, with a swap pending. -/
theorem removeCue_completes {s : State} {r : ActiveCue} (x : DeskState) (hactive : s.active = [r])
    (hswap : s.swapPending = true) :
    s.removeCue r x = ((s.setActive []).told r x).swappedTo s.occupiedUnderOther .drain := by
  have hdrop : s.dropCue r.slot = s.setActive [] := by
    rw [dropCue_eq, hactive]
    simp [withoutCue]
  rw [State.removeCue, hdrop, ← occupiedUnderOther_congr (told_setActive_sansCues s [] r x)]
  exact listEmptied_completes (told_active _ r x) ((told_swapPending _ r x).trans hswap)

/-- R58, R108: the removal of every record, one after the other; the last one completes the swap that is pending. -/
theorem foldl_removeCue_completes : ∀ (l : List ActiveCue) (s : State), s.active = l → l ≠ [] →
    (l.map ActiveCue.slot).Nodup → s.swapPending = true →
    l.foldl (fun t r => t.removeCue r .cancelled) s =
      ((s.setActive []).toldCancelled l).swappedTo s.occupiedUnderOther .drain
  | [], _, _, hl, _, _ => absurd rfl hl
  | [_], _, hactive, _, _, hswap => removeCue_completes .cancelled hactive hswap
  | r :: y :: l, s, hactive, _, hn, hswap => by
    obtain ⟨hr, hn⟩ := List.nodup_cons.1 hn
    have hother : ∀ x ∈ y :: l, x.slot ≠ r.slot := fun x hx e => hr (List.mem_map.2 ⟨x, hx, e⟩)
    have hleft : withoutCue s.active r.slot = y :: l := by
      rw [hactive, withoutCue, List.filter_cons_of_neg (by simp)]
      exact List.filter_eq_self.2 fun x hx => by simpa using hother x hx
    have hy : y ∈ s.active := by rw [hactive]; simp
    rw [List.foldl_cons, removeCue_eq_told .cancelled (.inr ⟨y, hy, hother y List.mem_cons_self⟩), hleft,
      foldl_removeCue_completes (y :: l) ((s.setActive (y :: l)).told r .cancelled) (told_active _ r _)
        (List.cons_ne_nil y l) hn ((told_swapPending _ r _).trans hswap),
      occupiedUnderOther_congr (told_setActive_sansCues s (y :: l) r .cancelled), told_setActive]
    rfl

/-- R57, R108: CANCEL of the only record, with a swap pending. -/
theorem cancel_completes {s : State} {p : Port} (tag : Octet) {r : ActiveCue} (hs : MaySend s p .cue)
    (hactive : s.active = [r]) (hstate : r.state ≠ .going) (hswap : s.swapPending = true) :
    s.request p tag (.cancel r.slot) =
      (((s.setActive []).replied p (replyOf 0x95 tag .ok (.slot r.slot))).told r .cancelled).swappedTo s.occupiedUnderOther
        .drain := by
  have hfind : (s.reserve p).findCue r.slot = some r := by
    show s.active.find? _ = _
    rw [hactive]
    simp
  have htarget : (s.reserve p).cancelTarget r.slot = .ok r := by simp only [State.cancelTarget, hfind, if_neg hstate]
  refine request_through (r := .cancel r.slot) tag (s.setActive [])
    (fun t => (t.told r .cancelled).swappedTo s.occupiedUnderOther .drain) .ok (.slot r.slot) hs ?_
    fun t kind tag a ha => by rw [swappedTo_answer _ _ _ _ _ _ _ ha, told_answer _ _ _ _ _ _ _ ha]
  simp only [owner, cancelRequest, htarget, removeCue_completes (s := s.reserve p) .cancelled hactive hswap]
  rfl

/-- R58, R108: CANCEL(ALL) that takes every record, with a swap pending. -/
theorem cancelAll_completes {s : State} {p : Port} (tag : Octet) (hs : MaySend s p .cue)
    (hn : (s.active.map ActiveCue.slot).Nodup) (hactive : s.active ≠ []) (hstate : ∀ r ∈ s.active, r.state ≠ .going)
    (hswap : s.swapPending = true) :
    s.request p tag .cancelAll =
      (((s.setActive []).replied p (replyOf 0x95 tag .ok .nothing)).toldCancelled s.active).swappedTo s.occupiedUnderOther
        .drain := by
  have hall : (s.reserve p).active.filter ActiveCue.cancellable = s.active :=
    List.filter_eq_self.2 fun r hr => (cancellable_iff r).2 (hstate r hr)
  have hany : (s.reserve p).active.any ActiveCue.cancellable = true := by
    obtain ⟨r, hr⟩ := List.exists_mem_of_ne_nil _ hactive
    exact List.any_eq_true.2 ⟨r, hr, (cancellable_iff r).2 (hstate r hr)⟩
  refine request_through (r := .cancelAll) tag (s.setActive [])
    (fun t => (t.toldCancelled s.active).swappedTo s.occupiedUnderOther .drain) .ok .nothing hs ?_
    fun t kind tag a ha => by rw [swappedTo_answer _ _ _ _ _ _ _ ha, toldCancelled_answer _ _ _ _ ha]
  simp only [owner, cancelAllRequest, if_pos hany, hall,
    foldl_removeCue_completes s.active (s.reserve p) rfl hactive hn hswap]
  rfl

/-- Settles O50: each case leaves the occupancy of the zones under the tables of the other bank. -/
theorem swapCompletesOrWaits : Obligations.SwapCompletesOrWaits := by
  intro s new inside emptied
  have hinside : inside s.occupiedUnderOther := fun z => by rw [occupiedUnderOther_get, zoneInside_iff]
  refine ⟨fun p tag hs => ⟨fun hswap => ?already, fun hswap hactive => ?waits, fun hswap hactive => ⟨_, hinside, ?completes⟩⟩,
    fun slot r d hactive hslot hd hdue hswap => ⟨_, hinside, ?expiry⟩,
    fun p tag r hs hactive hstate hswap => ⟨_, hinside, ?cancel⟩,
    fun p tag hs hsound hactive hstate hswap => ⟨_, hinside, ?cancelAll⟩⟩
  case already =>
    exact congrArg Host.Outcome.next (request_refused (r := .swap) tag .already (.bank s.live true) hs
      (swapRequest_pending (s := s.reserve p) hswap))
  case waits =>
    exact congrArg Host.Outcome.next (request_replied (r := .swap) tag { s with swapPending := true } .ok
      (.bank s.live true) hs (swapRequest_waits (s := s.reserve p) hswap hactive))
  case completes =>
    exact congrArg Host.Outcome.next (request_through (r := .swap) tag s
      (fun t => t.swappedTo s.occupiedUnderOther .request) .ok (.bank s.live.other false) hs
      (swapRequest_completes (s := s.reserve p) hswap hactive) fun t kind tag a ha => swappedTo_answer t _ _ p kind tag a ha)
  case expiry =>
    subst hslot
    have hfind : s.findCue r.slot = some r := by
      rw [State.findCue, hactive]
      simp
    rw [goDisplayExpiry_some hfind, hd, if_pos ((reached_some s d).2 hdue), removeCue_completes .done hactive hswap]
    rfl
  case cancel => exact congrArg Host.Outcome.next (cancel_completes tag hs hactive hstate hswap)
  case cancelAll =>
    obtain ⟨-, hnodup, -⟩ := hsound
    exact congrArg Host.Outcome.next (cancelAll_completes tag hs hnodup hactive hstate hswap)

end Sys2Proof.Machine
end

section
/-! The cue lamp of a port: its contributions, and the highest of them (R64–R68). -/

namespace Sys2Proof.Machine

/-! ### The order of the lamp states -/

theorem CueLamp.rank_injective : Function.Injective CueLamp.rank := by
  intro a b
  cases a <;> cases b <;> simp [CueLamp.rank]

theorem CueLamp.higher_mem (a b : CueLamp) : a.higher b = a ∨ a.higher b = b := by
  unfold CueLamp.higher
  split
  · exact .inr rfl
  · exact .inl rfl

theorem CueLamp.rank_higher (a b : CueLamp) : (a.higher b).rank = max a.rank b.rank := by
  unfold CueLamp.higher
  split <;> omega

theorem foldl_higher_mem : ∀ (l : List CueLamp) (a : CueLamp), l.foldl CueLamp.higher a ∈ a :: l
  | [], _ => List.mem_cons_self
  | b :: l, a => by
    rcases List.mem_cons.1 (foldl_higher_mem l (a.higher b)) with h | h
    · rw [List.foldl_cons, h]
      rcases CueLamp.higher_mem a b with h | h <;> simp [h]
    · exact List.mem_cons_of_mem _ (List.mem_cons_of_mem _ h)

theorem rank_le_foldl_higher : ∀ (l : List CueLamp) (a : CueLamp), ∀ x ∈ a :: l, x.rank ≤ (l.foldl CueLamp.higher a).rank
  | [], _, _, hx => by rw [List.mem_singleton.1 hx]; rfl
  | b :: l, a, x, hx => by
    have ih := rank_le_foldl_higher l (a.higher b)
    have hhead := ih _ List.mem_cons_self
    rw [CueLamp.rank_higher] at hhead
    rw [List.foldl_cons]
    rcases List.mem_cons.1 hx with rfl | hx
    · omega
    · rcases List.mem_cons.1 hx with rfl | hx
      · omega
      · exact ih x (List.mem_cons_of_mem _ hx)

/-- R68: the highest of some lamp states is the one that none of them stands above. -/
theorem foldl_higher_eq {l : List CueLamp} {a x : CueLamp} (hx : x ∈ a :: l) (h : ∀ y ∈ a :: l, y.rank ≤ x.rank) :
    l.foldl CueLamp.higher a = x :=
  CueLamp.rank_injective (Nat.le_antisymm (h _ (foldl_higher_mem l a)) (rank_le_foldl_higher l a x hx))

/-! ### What records and zones contribute -/

section
variable {r : ActiveCue} {p : Port}

theorem recordLamp_of_waiting (h : r.state = .standby ∨ r.state = .ready) :
    recordLamp r p =
      if r.targets.mem p = true then
        if r.acked.mem p = true then .standbySteady
        else if r.awaited.mem p = true ∧ r.overdue = true then .warn else .standbyFlash
      else .dark := by
  rcases h with h | h <;> simp only [recordLamp, h, Bool.and_eq_true]

theorem recordLamp_of_held (h : r.state = .held) : recordLamp r p = if r.targets.mem p = true then .hold else .dark := by
  simp only [recordLamp, h]

theorem recordLamp_of_going (h : r.state = .going) : recordLamp r p = if r.targets.mem p = true then .go else .dark := by
  simp only [recordLamp, h]

theorem CueState.waiting_or_held_or_going (x : CueState) : (x = .standby ∨ x = .ready) ∨ x = .held ∨ x = .going := by
  cases x <;> simp

theorem recordLamp_eq_go_iff : recordLamp r p = .go ↔ r.targets.mem p = true ∧ r.state = .going := by
  rcases r.state.waiting_or_held_or_going with h | h | h
  · rw [recordLamp_of_waiting h]
    rcases h with h | h <;> split_ifs <;> simp [h]
  · rw [recordLamp_of_held h]
    split_ifs <;> simp [h]
  · rw [recordLamp_of_going h]
    split_ifs with htarget <;> simp [h, htarget]

theorem recordLamp_eq_hold_iff : recordLamp r p = .hold ↔ r.targets.mem p = true ∧ r.state = .held := by
  rcases r.state.waiting_or_held_or_going with h | h | h
  · rw [recordLamp_of_waiting h]
    rcases h with h | h <;> split_ifs <;> simp [h]
  · rw [recordLamp_of_held h]
    split_ifs with htarget <;> simp [h, htarget]
  · rw [recordLamp_of_going h]
    split_ifs <;> simp [h]

/-- R65: the record stands by for the port. -/
def ActiveCue.waitsFor (r : ActiveCue) (p : Port) : Prop :=
  r.targets.mem p = true ∧ (r.state = .standby ∨ r.state = .ready)

theorem recordLamp_of_waitsFor (h : r.waitsFor p) :
    recordLamp r p =
      if r.acked.mem p = true then .standbySteady
      else if r.awaited.mem p = true ∧ r.overdue = true then .warn else .standbyFlash := by
  obtain ⟨htarget, hstate⟩ := h
  rw [recordLamp_of_waiting hstate, if_pos htarget]

/-- R65, R66: a record that does not stand by for the port contributes none of the three lamps of a standby. -/
theorem recordLamp_of_not_waitsFor (h : ¬r.waitsFor p) :
    recordLamp r p = .dark ∨ recordLamp r p = .hold ∨ recordLamp r p = .go := by
  rcases r.state.waiting_or_held_or_going with hstate | hstate | hstate
  · rw [recordLamp_of_waiting hstate, if_neg fun htarget => h ⟨htarget, hstate⟩]
    exact .inl rfl
  · rw [recordLamp_of_held hstate]
    split_ifs <;> simp
  · rw [recordLamp_of_going hstate]
    split_ifs <;> simp

theorem recordLamp_eq_warn_iff : recordLamp r p = .warn ↔
    r.waitsFor p ∧ r.awaited.mem p = true ∧ r.acked.mem p = false ∧ r.overdue = true := by
  by_cases h : r.waitsFor p
  · rw [recordLamp_of_waitsFor h]
    split_ifs <;> simp_all
  · rcases recordLamp_of_not_waitsFor h with hlamp | hlamp | hlamp <;> simp [h, hlamp]

theorem recordLamp_eq_standbyFlash_iff : recordLamp r p = .standbyFlash ↔
    r.waitsFor p ∧ r.acked.mem p = false ∧ ¬(r.awaited.mem p = true ∧ r.overdue = true) := by
  by_cases h : r.waitsFor p
  · rw [recordLamp_of_waitsFor h]
    split_ifs <;> simp_all
  · rcases recordLamp_of_not_waitsFor h with hlamp | hlamp | hlamp <;> simp [h, hlamp]

theorem recordLamp_eq_standbySteady_iff : recordLamp r p = .standbySteady ↔ r.waitsFor p ∧ r.acked.mem p = true := by
  by_cases h : r.waitsFor p
  · rw [recordLamp_of_waitsFor h]
    split_ifs <;> simp_all
  · rcases recordLamp_of_not_waitsFor h with hlamp | hlamp | hlamp <;> simp [h, hlamp]

end

section
variable {s : State} {z : ZoneNo} {p : Port}

/-- R67: a zone contributes WARN or nothing. -/
theorem zoneLamp_warn_or_dark : s.zoneLamp z p = .warn ∨ s.zoneLamp z p = .dark := by
  unfold State.zoneLamp
  split
  · split
    · split_ifs <;> simp
    · simp
  · simp

theorem zoneLamp_eq_warn_iff : s.zoneLamp z p = .warn ↔
    s.liveTables.zones[z].valid = true ∧ s.occupied[z] = true ∧ s.liveTables.zones[z].warn = true
      ∧ ∃ g, s.liveTables.zones[z].group = some g ∧ s.liveTables.groups[g].valid = true
        ∧ s.liveTables.groups[g].ports.mem p = true := by
  cases hgroup : s.liveTables.zones[z].group with
  | none =>
    simp only [State.zoneLamp, hgroup]
    split_ifs <;> simp
  | some g =>
    simp only [State.zoneLamp, hgroup, Bool.and_eq_true, groupPorts_mem]
    split_ifs <;> simp_all

end

/-! ### The highest contribution -/

/-- R64: what the records and the zones contribute to a present port. -/
def State.lampsFor (s : State) (p : Port) : List CueLamp :=
  s.active.map (recordLamp · p) ++ allZones.map (s.zoneLamp · p)

section
variable {s : State} {p : Port}

theorem mem_lampsFor {x : CueLamp} :
    x ∈ s.lampsFor p ↔ (∃ r ∈ s.active, recordLamp r p = x) ∨ ∃ z : ZoneNo, s.zoneLamp z p = x := by
  simp [State.lampsFor, allZones]

/-- R67: every lamp but DARK and WARN comes from a record. -/
theorem mem_lampsFor_of_record {x : CueLamp} (hdark : x ≠ .dark) (hwarn : x ≠ .warn) :
    x ∈ s.lampsFor p ↔ ∃ r ∈ s.active, recordLamp r p = x := by
  rw [mem_lampsFor, or_iff_left]
  rintro ⟨z, rfl⟩
  exact zoneLamp_warn_or_dark.elim hwarn hdark

theorem cueLamp_of_absent (h : s.present p = false) : s.cueLamp p = .dark := by
  simp [State.cueLamp, h]

/-- R68: a present port shows the contribution that no other stands above, and DARK stands below them all. -/
theorem cueLamp_eq {x : CueLamp} (h : s.present p = true) (hx : x = .dark ∨ x ∈ s.lampsFor p)
    (habove : ∀ y, x.rank < y.rank → y ∉ s.lampsFor p) : s.cueLamp p = x := by
  rw [State.cueLamp, if_pos h]
  refine foldl_higher_eq (List.mem_cons.2 hx) fun y hy => not_lt.1 fun hlt => ?_
  rcases List.mem_cons.1 hy with rfl | hy
  · exact absurd hlt (Nat.not_lt_zero _)
  · exact habove y hlt hy

end

/-- Settles O34: each clause names the contribution that stands and refutes those of higher rank. -/
theorem cueLampIsTheHighestContribution : Obligations.CueLampIsTheHighestContribution := by
  intro s p waits going late danger held asked answered
  have hgo : .go ∈ s.lampsFor p ↔ going := by
    simp only [mem_lampsFor_of_record (x := .go) nofun nofun, recordLamp_eq_go_iff, going]
  have hwarn : .warn ∈ s.lampsFor p ↔ late ∨ danger := by
    simp only [mem_lampsFor, recordLamp_eq_warn_iff, zoneLamp_eq_warn_iff, ActiveCue.waitsFor, late, danger, waits]
  have hhold : .hold ∈ s.lampsFor p ↔ held := by
    simp only [mem_lampsFor_of_record (x := .hold) nofun nofun, recordLamp_eq_hold_iff, held]
  have hsteady : .standbySteady ∈ s.lampsFor p ↔ answered := by
    simp only [mem_lampsFor_of_record (x := .standbySteady) nofun nofun, recordLamp_eq_standbySteady_iff,
      ActiveCue.waitsFor, answered, waits]
  have hflash : ¬late → (.standbyFlash ∈ s.lampsFor p ↔ asked) := by
    intro hlate
    simp only [mem_lampsFor_of_record (x := .standbyFlash) nofun nofun, recordLamp_eq_standbyFlash_iff]
    refine exists_congr fun r => and_congr_right fun hr => and_congr_right fun hwaits => and_iff_left_of_imp ?_
    rintro hacked ⟨hawaited, hoverdue⟩
    exact hlate ⟨r, hr, hwaits, hawaited, hacked, hoverdue⟩
  refine ⟨cueLamp_of_absent, fun hpresent => ⟨fun h => ?go, fun hng h => ?warn, fun hng hnl hnd h => ?hold,
    fun hng hnl hnd hnh h => ?flash, fun hng hnl hnd hnh hna h => ?steady, fun hng hnl hnd hnh hna hnw => ?dark⟩⟩
  case go =>
    refine cueLamp_eq hpresent (.inr (hgo.2 h)) fun y hy => ?_
    cases y with
    | _ => exact absurd hy (by decide)
  case warn =>
    refine cueLamp_eq hpresent (.inr (hwarn.2 h)) fun y hy => ?_
    cases y with
    | go => exact mt hgo.1 hng
    | _ => exact absurd hy (by decide)
  case hold =>
    refine cueLamp_eq hpresent (.inr (hhold.2 h)) fun y hy => ?_
    cases y with
    | go => exact mt hgo.1 hng
    | warn => exact mt hwarn.1 (not_or.2 ⟨hnl, hnd⟩)
    | _ => exact absurd hy (by decide)
  case flash =>
    refine cueLamp_eq hpresent (.inr ((hflash hnl).2 h)) fun y hy => ?_
    cases y with
    | go => exact mt hgo.1 hng
    | warn => exact mt hwarn.1 (not_or.2 ⟨hnl, hnd⟩)
    | hold => exact mt hhold.1 hnh
    | _ => exact absurd hy (by decide)
  case steady =>
    refine cueLamp_eq hpresent (.inr (hsteady.2 h)) fun y hy => ?_
    cases y with
    | go => exact mt hgo.1 hng
    | warn => exact mt hwarn.1 (not_or.2 ⟨hnl, hnd⟩)
    | hold => exact mt hhold.1 hnh
    | standbyFlash => exact mt (hflash hnl).1 hna
    | _ => exact absurd hy (by decide)
  case dark =>
    refine cueLamp_eq hpresent (.inl rfl) fun y hy => ?_
    cases y with
    | go => exact mt hgo.1 hng
    | warn => exact mt hwarn.1 (not_or.2 ⟨hnl, hnd⟩)
    | hold => exact mt hhold.1 hnh
    | standbyFlash => exact mt (hflash hnl).1 hna
    | standbySteady => exact mt hsteady.1 hnw
    | _ => exact absurd hy (by decide)

end Sys2Proof.Machine
end

section
/-! Desk status: who receives a copy, and where a copy goes (R70, R73, R74). -/

namespace Sys2Proof.Machine

theorem isWaitingDesk_iff (e : TxEntry) : e.isWaitingDesk = true ↔ e.sent = 0 ∧ ∃ b g, e.content = .desk b g := by
  obtain ⟨content, sent, waits⟩ := e
  cases content <;> simp [TxEntry.isWaitingDesk]

/-! ### The oldest copy not begun -/

theorem dropOldestDesk_eq_some {e : TxEntry} {rest : List TxEntry} (he : e.isWaitingDesk = true) :
    ∀ {front : List TxEntry}, (∀ x ∈ front, x.isWaitingDesk = false) →
      dropOldestDesk (front ++ e :: rest) = some (front ++ rest)
  | [], _ => by simp [dropOldestDesk, he]
  | x :: front, h => by
    obtain ⟨hx, hfront⟩ := List.forall_mem_cons.1 h
    simp [dropOldestDesk, hx, dropOldestDesk_eq_some he hfront]

theorem dropOldestDesk_eq_none : ∀ {q : List TxEntry}, (∀ x ∈ q, x.isWaitingDesk = false) → dropOldestDesk q = none
  | [], _ => rfl
  | x :: q, h => by
    obtain ⟨hx, hq⟩ := List.forall_mem_cons.1 h
    simp [dropOldestDesk, hx, dropOldestDesk_eq_none hq]

/-! ### One copy -/

section
variable {s : State} {b : DeskBody} {p : Port}

/-- R74: a free entry takes the copy, and the copy takes the gap mark. -/
theorem deskCopy_of_room (h : s.queues[p].length < 8) :
    s.deskCopy b p = (s.setQueue p (s.queues[p] ++ [TxEntry.fresh (.desk b s.gaps[p])])).setGap p false :=
  if_pos h

/-- R74: the copy takes the place of one not begun. -/
theorem deskCopy_of_dropped {q : List TxEntry} (h : 8 ≤ s.queues[p].length) (hq : dropOldestDesk s.queues[p] = some q) :
    s.deskCopy b p = (s.setQueue p (q ++ [TxEntry.fresh (.desk b true)])).setGap p false := by
  rw [State.deskCopy, if_neg (not_lt.2 h), hq]

/-- R74: the copy is lost. -/
theorem deskCopy_of_lost (h : 8 ≤ s.queues[p].length) (hq : dropOldestDesk s.queues[p] = none) :
    s.deskCopy b p = s.setGap p true := by
  rw [State.deskCopy, if_neg (not_lt.2 h), hq]

end

/-- What a port is sent and the gap flag of its queue. -/
def State.mailOf (s : State) (p : Port) : List TxEntry × Bool := (s.queues[p], s.gaps[p])

theorem mailOf_eq_iff {s t : State} {p : Port} :
    t.mailOf p = s.mailOf p ↔ t.queues[p] = s.queues[p] ∧ t.gaps[p] = s.gaps[p] :=
  Prod.ext_iff

/-- A copy reads and writes the queue and the gap flag of its own port. -/
theorem deskCopy_mailOf_congr {s t : State} {p : Port} (b : DeskBody) (h : t.mailOf p = s.mailOf p) :
    (t.deskCopy b p).mailOf p = (s.deskCopy b p).mailOf p := by
  obtain ⟨hqueue, hgap⟩ := mailOf_eq_iff.1 h
  rw [mailOf_eq_iff]
  rcases lt_or_ge s.queues[p].length 8 with hroom | hfull
  · rw [deskCopy_of_room hroom, deskCopy_of_room (hqueue ▸ hroom)]
    simp [hqueue, hgap]
  · cases hdrop : dropOldestDesk s.queues[p] with
    | some q =>
      rw [deskCopy_of_dropped hfull hdrop, deskCopy_of_dropped (hqueue ▸ hfull) (hqueue ▸ hdrop)]
      simp
    | none =>
      rw [deskCopy_of_lost hfull hdrop, deskCopy_of_lost (hqueue ▸ hfull) (hqueue ▸ hdrop)]
      simp [hqueue]

theorem deskCopy_mailOf_other (s : State) (b : DeskBody) {p q : Port} (h : p ≠ q) :
    (s.deskCopy b p).mailOf q = s.mailOf q :=
  mailOf_eq_iff.2 (deskCopy_other s b p q h)

/-! ### A copy for each port of a list -/

theorem foldl_deskCopy_mailOf_not_mem (b : DeskBody) {p : Port} : ∀ {l : List Port} (t : State), p ∉ l →
    (l.foldl (fun t q => t.deskCopy b q) t).mailOf p = t.mailOf p
  | [], _, _ => rfl
  | q :: l, t, hp => by
    rw [List.foldl_cons, foldl_deskCopy_mailOf_not_mem b _ (List.not_mem_of_not_mem_cons hp),
      deskCopy_mailOf_other t b (Ne.symm (List.ne_of_not_mem_cons hp))]

theorem foldl_deskCopy_mailOf_mem (b : DeskBody) {p : Port} {l : List Port} (t : State) (hn : l.Nodup) (hp : p ∈ l) :
    (l.foldl (fun t q => t.deskCopy b q) t).mailOf p = (t.deskCopy b p).mailOf p := by
  induction l generalizing t with
  | nil => exact absurd hp List.not_mem_nil
  | cons q l ih =>
    obtain ⟨hq, hl⟩ := List.nodup_cons.1 hn
    rw [List.foldl_cons]
    by_cases h : p = q
    · rw [h, foldl_deskCopy_mailOf_not_mem b _ hq]
    · rw [ih _ hl ((List.mem_cons.1 hp).resolve_left h),
        deskCopy_mailOf_congr b (deskCopy_mailOf_other t b (Ne.symm h))]

theorem mem_desks {s : State} {p : Port} :
    p ∈ allPorts.filter s.isDesk ↔ s.present p = true ∧ s.profiles[p].rights.cue = true := by
  simp [allPorts, State.isDesk]

theorem deskStatus_mailOf_desk {s : State} {p : Port} (b : DeskBody) (hpresent : s.present p = true)
    (hright : s.profiles[p].rights.cue = true) : (s.deskStatus b).mailOf p = (s.deskCopy b p).mailOf p :=
  foldl_deskCopy_mailOf_mem b s ((List.nodup_finRange 32).filter _) (mem_desks.2 ⟨hpresent, hright⟩)

theorem deskStatus_mailOf_other {s : State} {p : Port} (b : DeskBody)
    (h : s.present p = false ∨ s.profiles[p].rights.cue = false) : (s.deskStatus b).mailOf p = s.mailOf p := by
  refine foldl_deskCopy_mailOf_not_mem b s fun hp => ?_
  obtain ⟨hpresent, hright⟩ := mem_desks.1 hp
  rcases h with h | h
  · exact Bool.false_ne_true (h.symm.trans hpresent)
  · exact Bool.false_ne_true (h.symm.trans hright)

/-- R73: desk status changes nothing but the queues and the gap flags. -/
theorem deskStatus_queuesAside (s : State) (b : DeskBody) : QueuesAside (s.deskStatus b) s :=
  (queuesAside_iff _ _).2 ⟨deskStatus_sansMsgs s b, deskStatus_notices s b⟩

/-- Settles O36: the recipients by the list of the desks, the copy by what its port's queue holds. -/
theorem deskStatusCopyFindsItsEntry : Obligations.DeskStatusCopyFindsItsEntry := by
  refine ⟨fun s b => ⟨deskStatus_queuesAside s b, fun p => ⟨fun hpresent hright => ?desk, fun h => ?other⟩⟩,
    fun s b p => ⟨fun hroom => ?room, fun front e rest hqueue hfull hfront he => ?replaced, fun hnone hfull => ?lost⟩,
    fun _ _ _ => rfl, isWaitingDesk_iff⟩
  case desk => exact mailOf_eq_iff.1 (deskStatus_mailOf_desk b hpresent hright)
  case other => exact mailOf_eq_iff.1 (deskStatus_mailOf_other b h)
  case room => exact deskCopy_of_room hroom
  case replaced => exact deskCopy_of_dropped hfull (hqueue ▸ dropOldestDesk_eq_some he hfront)
  case lost => exact deskCopy_of_lost hfull (dropOldestDesk_eq_none hnone)

end Sys2Proof.Machine
end

section
/-! SUPPORT. What keeps the laws of the notice records, the profiles and the counters (R76, R78, R86, R165, R187): the
kinds of change, the messages, the Cue Engine, the counters and the banks. -/

namespace Sys2Proof.Machine

/-- R76, R78: a counter's value and preset within the range. -/
def Counter.InRange (r : Counter) : Prop := inRange r.value = true ∧ inRange r.preset = true

/-- R86: a counter's index over a list of length n, which it equals in EXHAUSTED and is below in RUNNING. -/
def Counter.IndexSound (r : Counter) (n : Nat) : Prop :=
  r.index ≤ n ∧ (r.comparison = .exhausted → r.index = n) ∧ (r.comparison = .running → r.index < n)

def IndexesSound (s : State) : Prop := ∀ c : CounterId, (s.counter c).IndexSound (s.listLength c)

theorem comparisonsSound_iff (s : State) : ComparisonsSound s ↔ LoadingQuiet s ∧ IndexesSound s := Iff.rfl

theorem countersInRange_iff (s : State) : CountersInRange s ↔ ∀ c : CounterId, (s.counter c).InRange := Iff.rfl

/-- R86: a comparison that stands STOPPED at the start of its list is sound over any list. -/
theorem Counter.indexSound_of_stopped {r : Counter} {n : Nat} (hindex : r.index ≤ n) (hstopped : r.comparison = .stopped) :
    r.IndexSound n :=
  ⟨hindex, fun h => (nomatch hstopped.symm.trans h), fun h => nomatch hstopped.symm.trans h⟩

/-- The lengths of the lists are read from the live bank alone. -/
theorem listLength_congr {s t : State} (h : t.liveTables = s.liveTables) : t.listLength = s.listLength := by
  funext c
  unfold State.listLength State.positionList
  rw [h]

theorem liveTables_of_banks {s t : State} (hA : t.bankA = s.bankA) (hB : t.bankB = s.bankB) (hlive : t.live = s.live) :
    t.liveTables = s.liveTables := by
  unfold State.liveTables
  rw [hlive]
  cases s.live with
  | a => exact hA
  | b => exact hB

theorem CountsBounded.of_notices {s t : State} (h : t.notices = s.notices) (hs : CountsBounded s) : CountsBounded t := by
  unfold CountsBounded
  rw [h]
  exact hs

theorem WriterHeld.of_profiles {s t : State} (h : t.profiles = s.profiles) (hs : WriterHeld s) : WriterHeld t := by
  unfold WriterHeld
  rw [h]
  exact hs

/-! ### The kinds of change -/

/-- A change of state that keeps the four laws, each for its own sake. -/
structure KeepsLaws (s t : State) : Prop where
  counts : CountsBounded s → CountsBounded t
  writer : WriterHeld s → WriterHeld t
  ranges : CountersInRange s → CountersInRange t
  indexes : IndexesSound s → IndexesSound t

namespace KeepsLaws

theorem refl (s : State) : KeepsLaws s s := ⟨id, id, id, id⟩

theorem trans {s t u : State} (first : KeepsLaws s t) (next : KeepsLaws t u) : KeepsLaws s u :=
  ⟨next.counts ∘ first.counts, next.writer ∘ first.writer, next.ranges ∘ first.ranges, next.indexes ∘ first.indexes⟩

theorem foldl {β : Type} {f : State → β → State} (h : ∀ t x, KeepsLaws t (f t x)) :
    ∀ (l : List β) (s : State), KeepsLaws s (l.foldl f s)
  | [], s => refl s
  | x :: l, s => (h s x).trans (foldl h l (f s x))

/-- A change that leaves the notice records and the profiles as sound as they were, and each counter over its list. -/
theorem of_counters {s t : State} (counts : CountsBounded s → CountsBounded t) (writer : WriterHeld s → WriterHeld t)
    (ranges : ∀ c, (s.counter c).InRange → (t.counter c).InRange)
    (indexes : ∀ c, (s.counter c).IndexSound (s.listLength c) → (t.counter c).IndexSound (t.listLength c)) :
    KeepsLaws s t :=
  ⟨counts, writer, fun h c => ranges c (h c), fun h c => indexes c (h c)⟩

/-- A change that touches neither the counters nor the live tables. -/
theorem of_tables {s t : State} (counts : CountsBounded s → CountsBounded t) (writer : WriterHeld s → WriterHeld t)
    (counters : t.counters = s.counters) (tables : t.liveTables = s.liveTables) : KeepsLaws s t := by
  have hcounter : t.counter = s.counter := by
    unfold State.counter
    rw [counters]
  refine of_counters counts writer (fun c => ?_) (fun c => ?_)
  · rw [hcounter]
    exact id
  · rw [hcounter, listLength_congr tables]
    exact id

/-- A change that touches neither the counters nor the banks nor the profiles. -/
theorem aside {s t : State} (counts : CountsBounded s → CountsBounded t)
    (kept : t.counters = s.counters ∧ t.bankA = s.bankA ∧ t.bankB = s.bankB ∧ t.live = s.live ∧ t.profiles = s.profiles) :
    KeepsLaws s t :=
  have ⟨counters, bankA, bankB, live, profiles⟩ := kept
  of_tables counts (.of_profiles profiles) counters (liveTables_of_banks bankA bankB live)

/-- A change that touches none of what the laws read. -/
theorem same {s t : State}
    (kept : t.counters = s.counters ∧ t.bankA = s.bankA ∧ t.bankB = s.bankB ∧ t.live = s.live ∧ t.profiles = s.profiles)
    (notices : t.notices = s.notices) : KeepsLaws s t :=
  aside (.of_notices notices) kept

end KeepsLaws

/-! ### Messages -/

/-- R187: one record replaced by another within its bound. -/
theorem setNotice_keepsLaws {s : State} {k : NoticeKind} {r : NoticeRecord}
    (h : s.notices[k].count ≤ 255 → r.count ≤ 255) : KeepsLaws s (s.setNotice k r) := by
  refine .aside (fun hs j => ?_) (by simp)
  simp only [setNotice_fields, get_put]
  split
  · exact h (hs k)
  · exact hs j

/-- R190: the building of a notice keeps the count of its record or sets it to 0. -/
theorem built_count_le (r : NoticeRecord) (m : LaneMode) : (r.built m).count ≤ r.count := by
  cases m with
  | autoClear => exact Nat.zero_le _
  | holdUntilClear => exact le_rfl

theorem testNotice_keepsLaws (s : State) (k : NoticeKind) : KeepsLaws s (s.testNotice k) := by
  unfold State.testNotice
  split
  · refine KeepsLaws.trans (.same (by simp) (by simp)) (setNotice_keepsLaws fun h => (built_count_le _ _).trans ?_)
    simpa using h
  · exact .refl s

theorem testNotices_keepsLaws (s : State) (f : Lane → NoticeKind → Bool) : KeepsLaws s (s.testNotices f) := by
  refine .foldl (fun t x => ?_) deliveryOrder s
  split
  · exact testNotice_keepsLaws t x.2
  · exact .refl t

theorem testAll_keepsLaws (s : State) : KeepsLaws s s.testAll := testNotices_keepsLaws s _

theorem testLane_keepsLaws (s : State) (l : Lane) : KeepsLaws s (s.testLane l) := testNotices_keepsLaws s _

theorem offer_keepsLaws (s : State) (p : Port) : KeepsLaws s (s.offer p) := testNotices_keepsLaws s _

/-- R188: an occurrence counts up to 255. -/
theorem record_keepsLaws (s : State) (d : NoticeDetail) : KeepsLaws s (s.record d) :=
  setNotice_keepsLaws fun _ => Nat.min_le_left 255 _

theorem raise_keepsLaws (s : State) (d : NoticeDetail) : KeepsLaws s (s.raise d) :=
  ((offer_keepsLaws s _).trans (record_keepsLaws _ d)).trans (testNotice_keepsLaws _ _)

theorem testPlace_keepsLaws (s : State) (x : NoticePlace) : KeepsLaws s (s.testPlace x) := by
  cases x with
  | global => exact testAll_keepsLaws s
  | kind k => exact testNotice_keepsLaws s k
  | lane l => exact testLane_keepsLaws s l

theorem buildNotice_keepsLaws (s : State) (k : NoticeKind) : KeepsLaws s (s.buildNotice k) := by
  unfold State.buildNotice
  split
  · exact testNotice_keepsLaws s k
  · exact .refl s

theorem noticeAbsent_keepsLaws (s : State) (r : ActiveCue) : KeepsLaws s (s.noticeAbsent r) := by
  unfold State.noticeAbsent
  split
  · exact .refl s
  · exact raise_keepsLaws s _

theorem lanesLost_keepsLaws (s : State) (p : Port) : KeepsLaws s (s.lanesLost p) :=
  .foldl (fun t _ => raise_keepsLaws t _) _ s

theorem portDown_keepsLaws (s : State) (p : Port) (cause : Option DownCause) : KeepsLaws s (s.portDown p cause) := by
  cases cause with
  | none => exact .refl s
  | some x => exact raise_keepsLaws s _

theorem acceptUnknown_keepsLaws (s : State) (p : Port) (kind tag : Octet) : KeepsLaws s (s.acceptUnknown p kind tag) := by
  unfold State.acceptUnknown
  split
  · split
    · exact .same (by simp) (by simp)
    · exact raise_keepsLaws s _
  · exact .refl s

theorem deskStatus_keepsLaws (s : State) (b : DeskBody) : KeepsLaws s (s.deskStatus b) := .same (by simp) (by simp)

/-! ### The Cue Engine -/

theorem changeCue_keepsLaws (s : State) (r : ActiveCue) : KeepsLaws s (s.changeCue r) := .same (by simp) (by simp)

theorem putCue_keepsLaws (s : State) (r : ActiveCue) : KeepsLaws s (s.putCue r) := .same (by simp) rfl

theorem appendCue_keepsLaws (s : State) (r : ActiveCue) : KeepsLaws s (s.appendCue r) := by
  have hjoined : KeepsLaws s (s.joinList r) := .same ⟨rfl, rfl, rfl, rfl, rfl⟩ rfl
  exact (hjoined.trans (deskStatus_keepsLaws _ _)).trans (noticeAbsent_keepsLaws _ r)

theorem linkStanding_keepsLaws (s : State) (r : ActiveCue) (from_ : CueSlot) (delay : Nat) :
    KeepsLaws s (s.linkStanding r from_ delay) := by
  unfold State.linkStanding
  cases r.state with
  | standby | ready | held => exact putCue_keepsLaws s _
  | going => exact raise_keepsLaws s _

/-- R49–R53: a successor link stands records by, sends them, or refuses. -/
theorem applyLink_keepsLaws : ∀ (n : Nat) (r : ActiveCue) (s : State), KeepsLaws s (State.applyLink n r s)
  | 0, _, s => .refl s
  | n + 1, r, s => by
    unfold State.applyLink
    cases (s.cue r.slot).successor with
    | none => exact .refl s
    | some link =>
      cases link with
      | standbyNext next =>
        simp only
        cases s.standbyRefusal next with
        | some st => exact raise_keepsLaws s _
        | none => exact appendCue_keepsLaws s _
      | autofollow next delay =>
        simp only
        cases s.findCue next with
        | some x =>
          simp only
          split
          · cases s.goTarget next with
            | error st => exact raise_keepsLaws s _
            | ok y => exact (changeCue_keepsLaws s _).trans (applyLink_keepsLaws n y _)
          · exact linkStanding_keepsLaws s x _ _
        | none =>
          simp only
          cases s.standbyRefusal next with
          | some st => exact raise_keepsLaws s _
          | none =>
            simp only
            split
            · split
              · exact (appendCue_keepsLaws s _).trans (raise_keepsLaws _ _)
              · rename_i y _
                have hjoined : KeepsLaws s (s.joinList (s.newCue next (.follow r.slot) none)) :=
                  .same ⟨rfl, rfl, rfl, rfl, rfl⟩ rfl
                exact ((hjoined.trans (changeCue_keepsLaws _ _)).trans (noticeAbsent_keepsLaws _ _)).trans
                  (applyLink_keepsLaws n y _)
            · exact appendCue_keepsLaws s _

theorem takeGo_keepsLaws (s : State) (r : ActiveCue) : KeepsLaws s (s.takeGo r) :=
  (changeCue_keepsLaws s _).trans (applyLink_keepsLaws _ _ _)

theorem standbyRequest_keepsLaws (p : Port) (slot : CueSlot) (s : State) : KeepsLaws s (standbyRequest p slot s).1 := by
  unfold standbyRequest
  split
  · exact .refl s
  · exact appendCue_keepsLaws s _

theorem standbyByPosition_keepsLaws (s : State) (c : CounterId) (slot : CueSlot) :
    KeepsLaws s (s.standbyByPosition c slot) := by
  unfold State.standbyByPosition
  split
  · exact raise_keepsLaws s _
  · exact appendCue_keepsLaws s _

theorem goRequest_keepsLaws (slot : CueSlot) (s : State) : KeepsLaws s (goRequest slot s).1 := by
  unfold goRequest
  split
  · exact .refl s
  · exact takeGo_keepsLaws s _

theorem goNextRequest_keepsLaws (s : State) : KeepsLaws s (goNextRequest s).1 := by
  unfold goNextRequest
  split
  · exact .refl s
  · split
    · exact .refl s
    · exact takeGo_keepsLaws s _

theorem goByPosition_keepsLaws (s : State) (c : CounterId) (slot : CueSlot) : KeepsLaws s (s.goByPosition c slot) := by
  unfold State.goByPosition
  split
  · exact raise_keepsLaws s _
  · exact takeGo_keepsLaws s _

theorem holdRequest_keepsLaws (slot : CueSlot) (s : State) : KeepsLaws s (holdRequest slot s).1 := by
  unfold holdRequest
  split
  · exact .refl s
  · exact changeCue_keepsLaws s _

theorem releaseRequest_keepsLaws (slot : CueSlot) (s : State) : KeepsLaws s (releaseRequest slot s).1 := by
  unfold releaseRequest
  split
  · exact .refl s
  · exact changeCue_keepsLaws s _

/-- Records changed one after the other. -/
theorem changeCues_keepsLaws (f : State → ActiveCue → ActiveCue) (l : List ActiveCue) (s : State) :
    KeepsLaws s (l.foldl (fun t r => t.changeCue (f t r)) s) := .foldl (fun t r => changeCue_keepsLaws t (f t r)) l s

theorem holdAllRequest_keepsLaws (s : State) : KeepsLaws s (holdAllRequest s).1 := by
  unfold holdAllRequest
  split
  · exact changeCues_keepsLaws (fun t r => t.heldCue r) _ s
  · split <;> [skip; split] <;> exact .refl s

theorem releaseAllRequest_keepsLaws (s : State) : KeepsLaws s (releaseAllRequest s).1 := by
  unfold releaseAllRequest
  split
  · exact changeCues_keepsLaws (fun t r => t.releasedCue r) _ s
  · split <;> exact .refl s

theorem ackExpiry_keepsLaws (s : State) (slot : CueSlot) : KeepsLaws s (s.ackExpiry slot) := by
  unfold State.ackExpiry
  split
  · exact .refl s
  · split
    · unfold State.ackExpired
      split
      · exact (changeCue_keepsLaws s _).trans (raise_keepsLaws _ _)
      · exact putCue_keepsLaws s _
    · exact .refl s

theorem followExpiry_keepsLaws (s : State) (slot : CueSlot) : KeepsLaws s (s.followExpiry slot) := by
  unfold State.followExpiry
  split
  · exact .refl s
  · rename_i r _
    split
    · unfold State.followExpired
      refine (putCue_keepsLaws s { r with followDeadline := none }).trans ?_
      simp only
      split
      · exact raise_keepsLaws _ _
      · exact takeGo_keepsLaws _ _
    · exact .refl s

theorem portLost_keepsLaws (s : State) (p : Port) : KeepsLaws s (s.portLost p) :=
  changeCues_keepsLaws (fun t r => t.lostCue r p) _ s

theorem portReturned_keepsLaws (s : State) (p : Port) : KeepsLaws s (s.portReturned p) :=
  changeCues_keepsLaws (fun _ r => r.regained p) _ s

/-! ### Zones and counters -/

theorem evalZones_keepsLaws (s : State) (l : List ZoneNo) : KeepsLaws s (s.evalZones l) := by
  refine .foldl (fun t z => ?_) l s
  unfold State.evalZone
  split
  · exact .refl t
  · exact KeepsLaws.trans (.same (by simp) (by simp)) (raise_keepsLaws _ _)

theorem listLength_setCounter (s : State) (c : CounterId) (x : Counter) : (s.setCounter c x).listLength = s.listLength := rfl

/-- A counter replaced by one in range and sound over the same list. -/
theorem setCounter_keepsLaws {s : State} {c : CounterId} {x : Counter} (range : (s.counter c).InRange → x.InRange)
    (index : (s.counter c).IndexSound (s.listLength c) → x.IndexSound (s.listLength c)) :
    KeepsLaws s (s.setCounter c x) := by
  refine .of_counters (.of_notices (by simp)) (.of_profiles (by simp)) (fun d => ?_) (fun d => ?_)
  · rw [counter_setCounter]
    split
    · rename_i hd
      exact hd ▸ range
    · exact id
  · rw [counter_setCounter, listLength_setCounter]
    split
    · rename_i hd
      exact hd ▸ index
    · exact id

theorem sendPosition_keepsLaws (s : State) (c : CounterId) (e : PositionEntry) : KeepsLaws s (s.sendPosition c e) := by
  unfold State.sendPosition
  split
  · exact standbyByPosition_keepsLaws s _ _
  · exact goByPosition_keepsLaws s _ _

/-- R88: the index of a RUNNING comparison advances to its list's end at most, and is EXHAUSTED there. -/
theorem advance_keepsLaws {s : State} {c : CounterId} (hrunning : (s.counter c).comparison = .running) :
    KeepsLaws s (s.advance c) := by
  unfold State.advance
  split
  · rename_i hend
    refine KeepsLaws.trans ?_ (raise_keepsLaws _ _)
    refine setCounter_keepsLaws id fun _ => ?_
    exact ⟨hend.le, fun _ => hend, fun h => nomatch h⟩
  · rename_i hend
    refine setCounter_keepsLaws id fun hsound => ?_
    obtain ⟨-, -, hbelow⟩ := hsound
    have hnext : (s.counter c).index + 1 < s.listLength c := lt_of_le_of_ne (hbelow hrunning) hend
    exact ⟨hnext.le, fun h => (nomatch hrunning.symm.trans h), fun _ => hnext⟩

theorem testPosition_keepsLaws (s : State) (c : CounterId) (up : Bool) : KeepsLaws s (s.testPosition c up) := by
  unfold State.testPosition
  split
  · rename_i hrunning
    split
    · rename_i e _
      split
      · refine (sendPosition_keepsLaws s c e).trans (advance_keepsLaws ?_)
        simpa [State.counter] using hrunning
      · exact .refl s
    · exact .refl s
  · exact .refl s

/-- R79: a comparison that is suspended was RUNNING; any other stands. -/
theorem IndexSound.suspend {r : Counter} {n : Nat} (h : r.IndexSound n) (v : Int) (x : CounterState) :
    Counter.IndexSound { r with value := v, state := x, comparison := r.comparison.suspend } n := by
  obtain ⟨hindex, hexhausted, -⟩ := h
  cases hc : r.comparison with
  | exhausted => exact ⟨hindex, fun _ => hexhausted hc, fun h => nomatch h⟩
  | stopped | running | suspended => exact ⟨hindex, fun h => (nomatch h), fun h => nomatch h⟩

theorem boundOf_inRange (up : Bool) : inRange (boundOf up) = true := by cases up <;> decide

theorem applyStep_keepsLaws (s : State) (c : CounterId) (up : Bool) : KeepsLaws s (s.applyStep c up) := by
  unfold State.applyStep
  split
  · exact .refl s
  · split
    · rename_i hvalue
      have hmoved : KeepsLaws s (s.setCounter c { s.counter c with value := stepValue (s.counter c).value up }) :=
        setCounter_keepsLaws (fun h => ⟨hvalue, h.2⟩) id
      exact (hmoved.trans (evalZones_keepsLaws _ _)).trans (testPosition_keepsLaws _ _ _)
    · have hover := setCounter_keepsLaws (s := s) (c := c)
        (x := { s.counter c with
          value := boundOf up, state := .overrange, comparison := (s.counter c).comparison.suspend })
        (fun h => ⟨boundOf_inRange up, h.2⟩) (fun h => IndexSound.suspend h _ _)
      exact (hover.trans (raise_keepsLaws _ _)).trans (evalZones_keepsLaws _ _)

/-- R80, R82: a jump into the range. -/
theorem jumpTo_keepsLaws {s : State} {c : CounterId} {v : Int} (h : (s.counter c).InRange → inRange v = true) :
    KeepsLaws s (s.jumpTo c v) := setCounter_keepsLaws (fun hc => ⟨h hc, hc.2⟩) id

theorem applyIndex_keepsLaws (s : State) (c : CounterId) : KeepsLaws s (s.applyIndex c) := by
  unfold State.applyIndex
  split
  · have hjumped : KeepsLaws s (s.jumpTo c (s.counter c).preset) := jumpTo_keepsLaws fun h => h.2
    refine (hjumped.trans ?_).trans (evalZones_keepsLaws _ _)
    refine KeepsLaws.trans ?_ (raise_keepsLaws _ _)
    exact setCounter_keepsLaws id id
  · exact .refl s

theorem levelAB_keepsLaws (s : State) (c : CounterId) (a b : Bool) : KeepsLaws s (s.levelAB c a b) := by
  unfold State.levelAB
  refine KeepsLaws.trans (t := s.setPins c { s.pin c with a := a, b := b }) (.same (by simp) (by simp)) ?_
  simp only
  generalize s.setPins c { s.pin c with a := a, b := b } = t
  split
  · have hdrawn : KeepsLaws t ((t.takeAB c a b).draw (drawsFree (t.counter c).mode (t.counter c).ref a b)) :=
      KeepsLaws.trans (t := t.takeAB c a b) (setCounter_keepsLaws id id) (.same (by simp) (by simp))
    split
    · exact hdrawn
    · exact hdrawn.trans (applyStep_keepsLaws _ _ _)
  · exact .refl t

theorem levelZ_keepsLaws (s : State) (c : CounterId) (z : Bool) : KeepsLaws s (s.levelZ c z) := by
  unfold State.levelZ
  refine KeepsLaws.trans (t := s.setPins c { s.pin c with z := z }) (.same (by simp) (by simp)) ?_
  simp only
  generalize s.setPins c { s.pin c with z := z } = t
  have htaken : KeepsLaws t (t.takeZ c z) := setCounter_keepsLaws id id
  split
  · split
    · exact htaken.trans (applyIndex_keepsLaws _ _)
    · exact htaken
  · exact .refl t

theorem changeLevel_keepsLaws (s : State) (c : CounterId) (l : LevelChange) : KeepsLaws s (s.changeLevel c l) := by
  cases l with
  | ab a b => exact levelAB_keepsLaws s c a b
  | z level => exact levelZ_keepsLaws s c level
  | pins a b z => exact .same ⟨rfl, rfl, rfl, rfl, rfl⟩ rfl

/-! ### COUNTER_CONTROL -/

theorem counterControl_keepsLaws {command : CounterId → State → State × Status}
    (h : ∀ c s, KeepsLaws s (command c s).1) (c : Named CounterId) (s : State) :
    KeepsLaws s (counterControl c command s).1 := by
  cases c with
  | none => exact .refl s
  | some x => exact h x s

theorem commandSet_keepsLaws (v : Int) (c : CounterId) (s : State) : KeepsLaws s (commandSet v c s).1 := by
  unfold commandSet
  split
  · rename_i hv
    exact (jumpTo_keepsLaws fun _ => hv).trans (evalZones_keepsLaws _ _)
  · exact .refl s

theorem commandPreset_keepsLaws (v : Int) (c : CounterId) (s : State) : KeepsLaws s (commandPreset v c s).1 := by
  unfold commandPreset
  split
  · rename_i hv
    exact setCounter_keepsLaws (fun h => ⟨h.1, hv⟩) id
  · exact .refl s

theorem commandArm_keepsLaws (arm : Bool) (c : CounterId) (s : State) : KeepsLaws s (commandArm arm c s).1 :=
  setCounter_keepsLaws id id

/-- R96: START runs the comparison from an index below the length. -/
theorem commandStart_keepsLaws (c : CounterId) (s : State) : KeepsLaws s (commandStart c s).1 := by
  unfold commandStart
  split
  · exact .refl s
  · split
    · exact .refl s
    · rename_i hbelow
      exact setCounter_keepsLaws id fun h => ⟨h.1, fun h => (nomatch h), fun _ => Nat.not_le.1 hbelow⟩

theorem commandStop_keepsLaws (c : CounterId) (s : State) : KeepsLaws s (commandStop c s).1 :=
  setCounter_keepsLaws id fun h => Counter.indexSound_of_stopped h.1 rfl

/-- R96: a comparison sought was not RUNNING, and does not stand EXHAUSTED. -/
theorem sought_ne {x : Comparison} (h : x ≠ .running) : x.sought ≠ .exhausted ∧ x.sought ≠ .running := by
  cases x with
  | running => exact absurd rfl h
  | stopped | suspended | exhausted => exact ⟨nofun, nofun⟩

theorem commandSeek_keepsLaws (i : Nat) (c : CounterId) (s : State) : KeepsLaws s (commandSeek i c s).1 := by
  unfold commandSeek
  split
  · exact .refl s
  · rename_i hrunning
    obtain ⟨hexhausted, hrun⟩ := sought_ne hrunning
    split
    · exact .refl s
    · rename_i hlength
      exact setCounter_keepsLaws id fun _ =>
        ⟨Nat.not_lt.1 hlength, fun h => absurd h hexhausted, fun h => absurd h hrun⟩

theorem commandMode_keepsLaws (m : Named CountMode) (c : CounterId) (s : State) : KeepsLaws s (commandMode m c s).1 := by
  unfold commandMode
  split
  · exact .refl s
  · split
    · exact setCounter_keepsLaws id id
    · exact .refl s

theorem counterMisfit_keepsLaws (c : Named CounterId) (s : State) : KeepsLaws s (counterMisfit c s).1 := by
  cases c with
  | none | some x => exact .refl s

/-! ### Banks -/

/-- R103: a write of the edit bank leaves the live tables. -/
theorem setEdit_keepsLaws (s : State) (x : BankTables) : KeepsLaws s (s.setEdit x) := by
  obtain ⟨-, hlive, hrest⟩ := setEdit_spec s x
  refine .of_tables (.of_notices (by rw [hrest])) (.of_profiles (by rw [hrest])) (by rw [hrest]) ?_
  have hselector : (s.setEdit x).live = s.live := by rw [hrest]
  unfold State.liveTables
  rw [hselector, hlive]

theorem writeEntry_keepsLaws {ι α : Type} {index : Option ι} {entry : ι → Option α} {store : ι → α → State} {s : State}
    (h : ∀ i x, KeepsLaws s (store i x)) : KeepsLaws s (writeEntry index entry store s).1 := by
  unfold writeEntry
  split
  · exact .refl s
  · split
    · exact .refl s
    · exact h _ _

theorem copyRequest_keepsLaws (s : State) : KeepsLaws s (copyRequest s).1 := by
  unfold copyRequest
  split
  · exact .refl s
  · exact setEdit_keepsLaws s _

/-- R100: both comparisons stand STOPPED at the start of whatever list serves. -/
theorem rewound_keepsLaws (s : State) : KeepsLaws s s.flip.rewindCounters := by
  refine .of_counters (.of_notices rfl) (.of_profiles rfl) (fun c => ?_) (fun c _ => ?_)
  · rw [counter_rewindCounters]
    exact id
  · rw [counter_rewindCounters]
    exact Counter.indexSound_of_stopped (Nat.zero_le _) rfl

theorem completeSwap_keepsLaws (s : State) (x : SwapCause) : KeepsLaws s (s.completeSwap x) :=
  (((rewound_keepsLaws s).trans (evalZones_keepsLaws _ _)).trans (raise_keepsLaws _ _)).trans (deskStatus_keepsLaws _ _)

theorem swapRequest_keepsLaws (s : State) : KeepsLaws s (swapRequest s).1 := by
  unfold swapRequest
  split
  · exact .refl s
  · split
    · simp only [State.bankAnswer]
      exact completeSwap_keepsLaws s .request
    · exact .same ⟨rfl, rfl, rfl, rfl, rfl⟩ rfl

theorem cancelSwapRequest_keepsLaws (s : State) : KeepsLaws s (cancelSwapRequest s).1 := by
  unfold cancelSwapRequest
  split
  · exact .same ⟨rfl, rfl, rfl, rfl, rfl⟩ rfl
  · exact .refl s

/-! ### Removals -/

theorem listEmptied_keepsLaws (s : State) : KeepsLaws s s.listEmptied := by
  unfold State.listEmptied
  split
  · exact completeSwap_keepsLaws s .drain
  · exact .refl s

theorem removeCue_keepsLaws (s : State) (r : ActiveCue) (x : DeskState) : KeepsLaws s (s.removeCue r x) := by
  have hdropped : KeepsLaws s (s.dropCue r.slot) := .same ⟨rfl, rfl, rfl, rfl, rfl⟩ rfl
  have htold := deskStatus_keepsLaws (s.dropCue r.slot) (s.deskBody r x)
  exact (hdropped.trans htold).trans (listEmptied_keepsLaws _)

theorem cancelRequest_keepsLaws (slot : CueSlot) (s : State) : KeepsLaws s (cancelRequest slot s).1 := by
  unfold cancelRequest
  split
  · exact .refl s
  · exact removeCue_keepsLaws s _ _

theorem cancelAllRequest_keepsLaws (s : State) : KeepsLaws s (cancelAllRequest s).1 := by
  unfold cancelAllRequest
  split
  · exact .foldl (fun t r => removeCue_keepsLaws t r _) _ s
  · split <;> exact .refl s

theorem goDisplayExpiry_keepsLaws (s : State) (slot : CueSlot) : KeepsLaws s (s.goDisplayExpiry slot) := by
  unfold State.goDisplayExpiry
  split
  · exact .refl s
  · split
    · exact removeCue_keepsLaws s _ _
    · exact .refl s

end Sys2Proof.Machine
end

section
/-! SUPPORT. As the section before it, for talk and calls, the loader, the ports, the requests and the frames; and what one
command keeps. -/

namespace Sys2Proof.Machine

/-! ### Talk and calls -/

theorem setTalk_keepsLaws (s : State) (c : Chan) (t : ChannelTalk) : KeepsLaws s (s.setTalk c t) :=
  .same (by simp) (by simp)

theorem setDenied_keepsLaws (s : State) (p : Port) (k : KeySlot) (d : Option Time) : KeepsLaws s (s.setDenied p k d) :=
  .same (by simp) (by simp)

theorem reloadIdle_keepsLaws (s : State) (c : Chan) : KeepsLaws s (s.reloadIdle c) := .same (by simp) rfl

theorem grantHeads_keepsLaws (s : State) (c : Chan) (b : Bool) : KeepsLaws s (s.grantHeads c b) := by
  have hgranted := setTalk_keepsLaws s c (s.talk[c].granted s.channels[c].maxTalkers)
  unfold State.grantHeads
  simp only
  split
  · exact hgranted.trans (reloadIdle_keepsLaws _ c)
  · exact hgranted

theorem removeTalk_keepsLaws (s : State) (c : Chan) (p : Port) : KeepsLaws s (s.removeTalk c p) := by
  have hremoved := setTalk_keepsLaws s c (s.talk[c].without p)
  unfold State.removeTalk
  simp only
  split
  · exact hremoved.trans (grantHeads_keepsLaws _ c true)
  · exact hremoved

theorem releaseTalk_keepsLaws (s : State) (c : Chan) (p : Port) : KeepsLaws s (s.releaseTalk c p) :=
  (removeTalk_keepsLaws s c p).trans (reloadIdle_keepsLaws _ c)

theorem displace_keepsLaws (s : State) (c : Chan) (placed : List Port) (cause : PreemptCause) (e : TalkEntry) :
    KeepsLaws s (s.displace c placed cause e) := by
  unfold State.displace
  split
  · exact (setTalk_keepsLaws s c _).trans (raise_keepsLaws _ _)
  · exact (setDenied_keepsLaws s _ _ _).trans (raise_keepsLaws _ _)

theorem requestTalk_keepsLaws (s : State) (c : Chan) (e : TalkEntry) : KeepsLaws s (s.requestTalk c e) := by
  refine KeepsLaws.trans (t := s.requestSteps c e) ?_ (reloadIdle_keepsLaws _ c)
  unfold State.requestSteps
  split
  · exact (setTalk_keepsLaws s c _).trans (setDenied_keepsLaws _ _ _ _)
  · split
    · rename_i v _
      have hdropped : KeepsLaws s (s.dropTalker c v) := setTalk_keepsLaws s c _
      have hdisplaced := hdropped.trans (displace_keepsLaws _ c [] (.priority e.port) v)
      exact (hdisplaced.trans (setTalk_keepsLaws _ c _)).trans (setDenied_keepsLaws _ _ _ _)
    · split
      · exact (setTalk_keepsLaws s c _).trans (setDenied_keepsLaws _ _ _ _)
      · exact setDenied_keepsLaws s _ _ _

theorem talkPress_keepsLaws (s : State) (p : Port) (k : KeySlot) : KeepsLaws s (s.talkPress p k) := by
  unfold State.talkPress
  split
  · exact .refl s
  · split
    · exact .refl s
    · exact requestTalk_keepsLaws s _ _
    · exact releaseTalk_keepsLaws s _ _
    · exact requestTalk_keepsLaws s _ _
    · exact releaseTalk_keepsLaws s _ _
    · exact requestTalk_keepsLaws s _ _

theorem talkRelease_keepsLaws (s : State) (p : Port) (k : KeySlot) : KeepsLaws s (s.talkRelease p k) := by
  unfold State.talkRelease
  split
  · exact .refl s
  · split
    · exact releaseTalk_keepsLaws s _ _
    · split
      · exact setTalk_keepsLaws s _ _
      · exact releaseTalk_keepsLaws s _ _
    · exact .refl s

theorem idleExpiry_keepsLaws (s : State) (c : Chan) : KeepsLaws s (s.idleExpiry c) := by
  unfold State.idleExpiry
  split
  · unfold State.idleExpired
    split
    · exact setTalk_keepsLaws s c _
    · exact ((setTalk_keepsLaws s c _).trans (grantHeads_keepsLaws _ c false)).trans (raise_keepsLaws _ _)
  · exact .refl s

theorem deniedExpiry_keepsLaws (s : State) (p : Port) (k : KeySlot) : KeepsLaws s (s.deniedExpiry p k) := by
  unfold State.deniedExpiry
  split
  · exact setDenied_keepsLaws s p k none
  · exact .refl s

theorem leaveUp_keepsLaws (s : State) (p : Port) : KeepsLaws s (s.leaveUp p) := by
  obtain ⟨-, -, hnotices⟩ := leaveUp_messages s p
  exact .same (by simp) hnotices

theorem rewriteTalkSlot_keepsLaws (s : State) (p : Port) (old new : Vector SlotConfig 4) (k : KeySlot) :
    KeepsLaws s (s.rewriteTalkSlot p old new k) := by
  unfold State.rewriteTalkSlot
  split
  · exact .refl s
  · split
    · exact setDenied_keepsLaws s p k none
    · exact (removeTalk_keepsLaws s _ p).trans (setDenied_keepsLaws _ p k none)

theorem displaceExcess_keepsLaws (c : Chan) :
    ∀ (l : List TalkEntry) (placed : List Port) (s : State), KeepsLaws s (s.displaceExcess c placed l)
  | [], _, s => .refl s
  | e :: l, placed, s =>
    (displace_keepsLaws s c placed .channelWrite e).trans (displaceExcess_keepsLaws c l (e.port :: placed) _)

theorem storeChannel_keepsLaws (s : State) (c : Chan) (e : ChannelEntry) : KeepsLaws s (s.storeChannel c e) := by
  have hstored : KeepsLaws s ((s.setChannel c e).restopIdle c e) := by
    refine KeepsLaws.trans (t := s.setChannel c e) (.same (by simp) (by simp)) ?_
    unfold State.restopIdle
    split
    · exact setTalk_keepsLaws _ c _
    · exact .refl _
  unfold State.storeChannel
  simp only
  generalize (s.setChannel c e).restopIdle c e = t at hstored ⊢
  refine hstored.trans ?_
  split
  · exact .refl t
  · unfold State.resizeTalkers
    split
    · exact (setTalk_keepsLaws t c _).trans (displaceExcess_keepsLaws c _ _ _)
    · exact grantHeads_keepsLaws t c true

theorem callPress_keepsLaws (s : State) (p : Port) (k : KeySlot) : KeepsLaws s (s.callPress p k) := by
  unfold State.callPress
  split
  · exact .refl s
  · rename_i c _
    exact KeepsLaws.trans (t := (s.flashRecipients p c).startHoldoff p k) (.same (by simp) (by simp))
      (reloadIdle_keepsLaws _ c)

/-! ### Notice Control -/

theorem writeNoticeRequest_keepsLaws (index : Nat) (w : NoticeEntryWrite) (s : State) :
    KeepsLaws s (writeNoticeRequest index w s).1 := by
  unfold writeNoticeRequest
  split
  · exact .refl s
  · split
    · exact .refl s
    · rename_i x _
      have hset : KeepsLaws s.testAll (s.testAll.setControl x) := .same (by simp) (by simp)
      exact ((testAll_keepsLaws s).trans hset).trans (testPlace_keepsLaws _ _)

theorem noticeHoldRequest_keepsLaws (x : Option Nat) (s : State) : KeepsLaws s (noticeHoldRequest x s).1 := by
  unfold noticeHoldRequest
  split
  · exact .refl s
  · split
    · exact .refl s
    · exact .same (by simp) (by simp)

theorem noticeUnholdRequest_keepsLaws (x : Option Nat) (s : State) : KeepsLaws s (noticeUnholdRequest x s).1 := by
  unfold noticeUnholdRequest
  split
  · exact .refl s
  · split
    · have hset : KeepsLaws s (s.setControl { s.noticeControl with hold := false }) := .same (by simp) (by simp)
      exact hset.trans (testAll_keepsLaws _)
    · exact .refl s

theorem noticeClearRequest_keepsLaws (x : Option Nat) (s : State) : KeepsLaws s (noticeClearRequest x s).1 := by
  unfold noticeClearRequest
  split
  · exact .refl s
  · split
    · exact .refl s
    · exact setNotice_keepsLaws fun _ => Nat.zero_le 255

theorem laneCommand_keepsLaws {command : Lane → State → State × Answer} (h : ∀ l s, KeepsLaws s (command l s).1)
    (x : Option Nat) (s : State) : KeepsLaws s (laneCommand x command s).1 := by
  unfold laneCommand
  split
  · exact .refl s
  · split
    · exact .refl s
    · exact h _ s

theorem setOpen_keepsLaws (s : State) (l : Lane) (o : Bool) : KeepsLaws s (s.setOpen l o) :=
  .same ⟨rfl, rfl, rfl, rfl, rfl⟩ rfl

theorem commandOpen_keepsLaws (l : Lane) (s : State) : KeepsLaws s (commandOpen l s).1 := by
  unfold commandOpen
  split
  · exact .refl s
  · simp only
    exact ((testAll_keepsLaws s).trans (setOpen_keepsLaws _ l true)).trans (testLane_keepsLaws _ l)

theorem commandClose_keepsLaws (l : Lane) (s : State) : KeepsLaws s (commandClose l s).1 := by
  unfold commandClose
  split
  · exact setOpen_keepsLaws s l false
  · exact .refl s

/-! ### The loader -/

theorem endSave_keepsLaws (s : State) (ok : Bool) : KeepsLaws s (s.endSave ok) := by
  have hended : KeepsLaws s { s with loader := .idle, save := none } := .same (by simp) (by simp)
  exact hended.trans (raise_keepsLaws _ _)

theorem saveRequest_keepsLaws (s : State) : KeepsLaws s (saveRequest s).1 := by
  unfold saveRequest
  split
  · simp only
    unfold State.beginSave
    split
    · exact .same (by simp) (by simp)
    · have hdrawn : KeepsLaws s { s with fresh := s.fresh + 1 } := .same (by simp) (by simp)
      exact hdrawn.trans (endSave_keepsLaws _ false)
  · exact .refl s

theorem saveStep_keepsLaws {event : State → Save → State} (h : ∀ s x, KeepsLaws s (event s x)) (s : State) :
    KeepsLaws s (s.saveStep event) := by
  unfold State.saveStep
  split
  · split
    · exact h _ _
    · exact .refl s
  · exact .refl s

theorem completeSave_keepsLaws (s : State) (x : Save) : KeepsLaws s (s.completeSave x) := by
  have hstored : KeepsLaws s { s with store := some x.snapshot.toImage } := .same (by simp) (by simp)
  exact hstored.trans (endSave_keepsLaws _ true)

theorem writeFailed_keepsLaws (s : State) (x : Save) : KeepsLaws s (s.writeFailed x) := by
  have hlost : KeepsLaws s { s with store := none } := .same (by simp) (by simp)
  exact hlost.trans (endSave_keepsLaws _ false)

theorem writeAnswered_keepsLaws (s : State) (x : Save) : KeepsLaws s (s.writeAnswered x) := by
  unfold State.writeAnswered
  split
  · exact .same (by simp) (by simp)
  · exact .same (by simp) (by simp)
  · exact completeSave_keepsLaws s x

theorem saveAtMarker_keepsLaws (s : State) : KeepsLaws s s.saveAtMarker :=
  saveStep_keepsLaws (fun t x => by
    split
    · exact completeSave_keepsLaws t x
    · exact .refl t) s

/-- R99: a RESTART keeps each index, and STOPs its comparison. -/
theorem emptied_keepsLaws (s : State) : KeepsLaws s s.emptied := by
  have hcounter : ∀ c, s.emptied.counter c = (s.counter c).halted := fun c => Vector.getElem_map _ _
  refine .of_counters (fun _ k => ?_) (.of_profiles rfl) (fun c => ?_) (fun c h => ?_)
  · have hempty : s.emptied.notices[k] = NoticeRecord.empty := get_replicate _ _
    rw [hempty]
    exact Nat.zero_le 255
  · rw [hcounter]
    exact id
  · rw [hcounter]
    exact Counter.indexSound_of_stopped h.1 rfl

theorem restart_keepsLaws (s : State) : KeepsLaws s s.restart := by
  unfold State.restart
  rw [abandonSave_eq]
  refine KeepsLaws.trans ?_ (raise_keepsLaws _ _)
  exact (emptied_keepsLaws s).trans (.same ⟨rfl, rfl, rfl, rfl, rfl⟩ rfl)

/-! ### The ports -/

theorem setPort_keepsLaws (s : State) (p : Port) (r : PortRecord) : KeepsLaws s (s.setPort p r) :=
  .same (by simp) (by simp)

theorem setAssembly_keepsLaws (s : State) (p : Port) (a : Assembly) : KeepsLaws s (s.setAssembly p a) :=
  .same (by simp) (by simp)

theorem clearPort_keepsLaws (s : State) (p : Port) (target : PortState) : KeepsLaws s (s.clearPort p target) :=
  .same ⟨rfl, rfl, rfl, rfl, rfl⟩ rfl

theorem leavePresence_keepsLaws (s : State) (p : Port) : KeepsLaws s (s.leavePresence p) := by
  have htold := (portLost_keepsLaws s p).trans (leaveUp_keepsLaws _ p)
  unfold State.leavePresence
  refine KeepsLaws.trans ?_ (lanesLost_keepsLaws _ p)
  exact htold.trans (.same (by simp) (by simp))

theorem orphanRestart_keepsLaws (s : State) (p : Port) : KeepsLaws s (s.orphanRestart p) := by
  unfold State.orphanRestart
  split
  · exact restart_keepsLaws s
  · exact .refl s

/-- R154, R158, R163: a fall, of a present port or of another. -/
theorem fall_keepsLaws (s : State) (p : Port) (target : PortState) (cause : Option DownCause) :
    KeepsLaws s (s.fall p target cause) := by
  have hcleared := clearPort_keepsLaws s p (s.fallTarget p target)
  unfold State.fall
  split
  · exact ((hcleared.trans (leavePresence_keepsLaws _ p)).trans (portDown_keepsLaws _ p cause)).trans
      (orphanRestart_keepsLaws _ p)
  · exact hcleared

theorem carryOut_keepsLaws (s : State) (p : Port) : KeepsLaws s (s.carryOut p) := by
  unfold State.carryOut
  split
  · exact .refl s
  · exact fall_keepsLaws s p _ _
  · exact fall_keepsLaws s p _ _

theorem queueAsk_keepsLaws (s : State) (p : Port) (n : Nat) : KeepsLaws s (s.queueAsk p n) := by
  unfold State.queueAsk
  split
  · exact .same (by simp) (by simp)
  · exact .refl s

theorem enterUp_keepsLaws (s : State) (p : Port) (i : Ident) (keys : Keys) : KeepsLaws s (s.enterUp p i keys) := by
  unfold State.enterUp
  refine (KeepsLaws.trans ?_ (offer_keepsLaws _ p)).trans (raise_keepsLaws _ _)
  refine KeepsLaws.trans ?_ (portReturned_keepsLaws _ p)
  exact .same ⟨rfl, rfl, rfl, rfl, rfl⟩ rfl

theorem enterFault_keepsLaws (s : State) (p : Port) (i : Option Ident) (cause : FaultCause) :
    KeepsLaws s (s.enterFault p i cause) := by
  unfold State.enterFault
  refine KeepsLaws.trans ?_ (raise_keepsLaws _ _)
  exact .same ⟨rfl, rfl, rfl, rfl, rfl⟩ rfl

theorem takeIdent_keepsLaws (s : State) (p : Port) (tag cls keyCount : Octet) (serial : BitVec 32) (keys : Keys) :
    KeepsLaws s (s.takeIdent p tag cls keyCount serial keys) := by
  unfold State.takeIdent
  split
  · exact .refl s
  · unfold State.judgeIdent
    split
    · exact enterUp_keepsLaws s p _ keys
    · exact enterFault_keepsLaws s p _ _

theorem askExpiry_keepsLaws (s : State) (p : Port) : KeepsLaws s (s.askExpiry p) := by
  unfold State.askExpiry
  split
  · unfold State.askExpired
    split
    · exact (setPort_keepsLaws s p _).trans (queueAsk_keepsLaws _ p _)
    · exact enterFault_keepsLaws s p _ _
  · exact .refl s

/-- R165: a profile replaced where somebody goes on writing. -/
theorem setProfile_keepsLaws {s : State} {n : Port} {f : Profile}
    (writer : WriterHeld s → ∃ p : Port, (put s.profiles n f)[p].rights.write = true) : KeepsLaws s (s.setProfile n f) :=
  .of_tables (.of_notices rfl) (fun h => by simpa [WriterHeld] using writer h) rfl rfl

/-- R165, R167: ENABLE and DISABLE leave the rights of the profile. -/
theorem setEnabled_keepsLaws (s : State) (n : Port) (e : Bool) : KeepsLaws s (s.setEnabled n e) := by
  refine setProfile_keepsLaws fun h => ?_
  obtain ⟨p, hp⟩ := h
  refine ⟨p, ?_⟩
  rw [get_put]
  split
  · rename_i hn
    exact hn ▸ hp
  · exact hp

theorem portControl_keepsLaws {command : Port → State → State × Answer} (h : ∀ n s, KeepsLaws s (command n s).1)
    (n : Nat) (s : State) : KeepsLaws s (portControl n command s).1 := by
  unfold portControl
  split
  · exact .refl s
  · exact h _ s

theorem commandEnable_keepsLaws (n : Port) (s : State) : KeepsLaws s (commandEnable n s).1 := by
  unfold commandEnable
  split
  · exact (setEnabled_keepsLaws s n true).trans (setPort_keepsLaws _ n _)
  · exact .refl s

theorem commandDisable_keepsLaws (p n : Port) (s : State) : KeepsLaws s (commandDisable p n s).1 := by
  unfold commandDisable
  split
  · exact .refl s
  · split
    · exact (setEnabled_keepsLaws s n false).trans (setPort_keepsLaws _ n _)
    · exact (setEnabled_keepsLaws s n false).trans (fall_keepsLaws _ n _ _)

theorem commandQuiet_keepsLaws (n : Port) (s : State) : KeepsLaws s (commandQuiet n s).1 := by
  unfold commandQuiet
  split
  · exact (setPort_keepsLaws s n _).trans (leaveUp_keepsLaws _ n)
  · exact .refl s
  · exact .refl s

theorem commandUnquiet_keepsLaws (n : Port) (s : State) : KeepsLaws s (commandUnquiet n s).1 := by
  unfold commandUnquiet
  split
  · exact setPort_keepsLaws s n _
  · exact .refl s
  · exact .refl s

theorem commandRestart_keepsLaws (p n : Port) (s : State) : KeepsLaws s (commandRestart p n s).1 := by
  unfold commandRestart
  split
  · exact .refl s
  · split
    · split
      · exact .refl s
      · exact setPort_keepsLaws s n _
    · exact fall_keepsLaws s n _ _

theorem rewriteSlots_keepsLaws (s : State) (n : Port) (old new : Vector SlotConfig 4) :
    KeepsLaws s (s.rewriteSlots n old new) :=
  .foldl (fun t k => (rewriteTalkSlot_keepsLaws t n old new k).trans (.same (by simp) (by simp))) allSlots s

theorem reenable_keepsLaws (s : State) (n : Port) : KeepsLaws s (s.reenable n) := by
  unfold State.reenable
  split
  · exact setPort_keepsLaws s n _
  · split
    · exact setPort_keepsLaws s n _
    · exact .refl s

/-- R165: a profile is stored only where somebody goes on writing. -/
theorem writeProfileRequest_keepsLaws (p : Port) (index : Nat) (w : ProfileWrite) (s : State) :
    KeepsLaws s (writeProfileRequest p index w s).1 := by
  unfold writeProfileRequest
  split
  · exact .refl s
  split
  · exact .refl s
  split
  · rename_i n _ _ f _ hwriter
    have hstored : KeepsLaws s (s.setProfile n f) := setProfile_keepsLaws fun _ => (someWriter_iff _).1 hwriter
    have hwritten := hstored.trans (rewriteSlots_keepsLaws _ n s.profiles[n].slots f.slots)
    unfold State.storeProfile
    generalize (s.setProfile n f).rewriteSlots n s.profiles[n].slots f.slots = t at hwritten ⊢
    simp only
    refine hwritten.trans ?_
    split
    · exact .refl t
    split
    · exact reenable_keepsLaws t n
    split
    · exact .refl t
    split
    · exact setPort_keepsLaws t n _
    · exact fall_keepsLaws t n _ _
  · exact .refl s

/-! ### Requests and messages -/

theorem restartRequest_keepsLaws (p : Port) (s : State) : KeepsLaws s (restartRequest p s).1 := by
  unfold restartRequest
  split
  · exact .refl s
  · exact .same (by simp) (by simp)

/-- R177: the owner of each request keeps the laws. -/
theorem owner_keepsLaws (p : Port) (r : Request) (s : State) : KeepsLaws s (owner p r s).1 := by
  cases r with
  | standby slot => exact standbyRequest_keepsLaws p slot s
  | go slot => exact goRequest_keepsLaws slot s
  | goNext => exact goNextRequest_keepsLaws s
  | hold slot => exact holdRequest_keepsLaws slot s
  | holdAll => exact holdAllRequest_keepsLaws s
  | release slot => exact releaseRequest_keepsLaws slot s
  | releaseAll => exact releaseAllRequest_keepsLaws s
  | cancel slot => exact cancelRequest_keepsLaws slot s
  | cancelAll => exact cancelAllRequest_keepsLaws s
  | writeCueEntry | writeGroupEntry | writePositionEntry | writeZoneEntry =>
    exact writeEntry_keepsLaws fun _ _ => setEdit_keepsLaws s _
  | writeProfile index entry => exact writeProfileRequest_keepsLaws p index entry s
  | writeChannelEntry => exact writeEntry_keepsLaws fun c e => storeChannel_keepsLaws s c e
  | writeNoticeControl index entry => exact writeNoticeRequest_keepsLaws index entry s
  | writeRouterSettings => exact writeEntry_keepsLaws fun _ _ => .same (by simp) (by simp)
  | copyLiveToEdit => exact copyRequest_keepsLaws s
  | swap => exact swapRequest_keepsLaws s
  | cancelSwap => exact cancelSwapRequest_keepsLaws s
  | set c v => exact counterControl_keepsLaws (commandSet_keepsLaws v) c s
  | preset c v => exact counterControl_keepsLaws (commandPreset_keepsLaws v) c s
  | armIndex c => exact counterControl_keepsLaws (commandArm_keepsLaws true) c s
  | disarmIndex c => exact counterControl_keepsLaws (commandArm_keepsLaws false) c s
  | start c => exact counterControl_keepsLaws commandStart_keepsLaws c s
  | stop c => exact counterControl_keepsLaws commandStop_keepsLaws c s
  | seek c i => exact counterControl_keepsLaws (commandSeek_keepsLaws i) c s
  | mode c m => exact counterControl_keepsLaws (commandMode_keepsLaws m) c s
  | misfit c => exact counterMisfit_keepsLaws c s
  | enable n => exact portControl_keepsLaws commandEnable_keepsLaws n s
  | disable n => exact portControl_keepsLaws (commandDisable_keepsLaws p) n s
  | quiet n => exact portControl_keepsLaws commandQuiet_keepsLaws n s
  | unquiet n => exact portControl_keepsLaws commandUnquiet_keepsLaws n s
  | portRestart n => exact portControl_keepsLaws (commandRestart_keepsLaws p) n s
  | noticeHold x => exact noticeHoldRequest_keepsLaws x s
  | noticeUnhold x => exact noticeUnholdRequest_keepsLaws x s
  | noticeClear x => exact noticeClearRequest_keepsLaws x s
  | noticeOpen x => exact laneCommand_keepsLaws commandOpen_keepsLaws x s
  | noticeClose x => exact laneCommand_keepsLaws commandClose_keepsLaws x s
  | save => exact saveRequest_keepsLaws s
  | restart => exact restartRequest_keepsLaws p s
  | unnamed what =>
    cases what with
    | counter c => exact counterMisfit_keepsLaws c s
    | status | port | notice => exact .refl s
  | _ => exact .refl s

/-- R177: the acceptance of a message adds messages to what its owner does. -/
theorem accept_keepsLaws {o : State → State × Answer} (h : ∀ s, KeepsLaws s (o s).1) (s : State) (p : Port)
    (kind tag : Octet) (right : Right) : KeepsLaws s (s.accept p kind tag right o) := by
  have hreserved : KeepsLaws s (s.reserve p) := .same (by simp) (by simp)
  have hanswered : ∀ t a, KeepsLaws t (t.answer p (replyKind kind) tag a) := fun _ _ => .same (by simp) (by simp)
  unfold State.accept
  split
  · split
    · split
      · exact (hreserved.trans (h _)).trans (hanswered _ _)
      · exact hreserved.trans (hanswered _ _)
    · exact raise_keepsLaws s _
  · exact .refl s

theorem request_keepsLaws (s : State) (p : Port) (tag : Octet) (r : Request) : KeepsLaws s (s.request p tag r) :=
  accept_keepsLaws (owner_keepsLaws p r) s p _ tag _

theorem acceptMessage_keepsLaws (s : State) (p : Port) (kind tag : Octet) (payload : List Octet) :
    KeepsLaws s (s.acceptMessage p kind tag payload) := by
  unfold State.acceptMessage
  split
  · exact acceptUnknown_keepsLaws s p kind tag
  · refine accept_keepsLaws (fun t => ?_) s p kind tag _
    unfold payloadOwner
    split
    · exact .refl t
    · exact owner_keepsLaws p _ t

theorem completeMessage_keepsLaws (s : State) (p : Port) (kind tag : Octet) (payload : List Octet) (keys : Keys) :
    KeepsLaws s (s.completeMessage p kind tag payload keys) := by
  have haccepted : KeepsLaws s (if kind = identReplyKind then s else s.acceptMessage p kind tag payload) := by
    split
    · exact .refl s
    · exact acceptMessage_keepsLaws s p kind tag payload
  unfold State.completeMessage
  split
  · unfold State.probingMessage
    split
    · split
      · exact takeIdent_keepsLaws s p _ _ _ _ _
      · exact .refl s
    · exact .refl s
  · exact haccepted
  · exact haccepted
  · exact .refl s

/-! ### The frames -/

theorem laneOctet_keepsLaws (s : State) (p : Port) (start : Bool) (o : Octet) (keys : Keys) :
    KeepsLaws s (s.laneOctet p start o keys) := by
  unfold State.laneOctet
  split
  · exact setAssembly_keepsLaws s p _
  · exact .refl s
  · exact (setAssembly_keepsLaws s p _).trans (raise_keepsLaws _ _)
  · have hemptied := setAssembly_keepsLaws s p .empty
    unfold State.storeOctet
    split
    · exact hemptied.trans (raise_keepsLaws _ _)
    split
    · refine hemptied.trans ?_
      unfold State.finishAssembly
      split
      · split
        · exact completeMessage_keepsLaws _ p _ _ _ keys
        · exact .refl _
      · exact raise_keepsLaws _ _
    · exact setAssembly_keepsLaws s p _

theorem frameOctet_keepsLaws (s : State) (p : Port) (f : UpFrame) : KeepsLaws s (s.frameOctet p f) := by
  unfold State.frameOctet
  split
  · exact laneOctet_keepsLaws s p _ _ _
  · exact .refl s

theorem talkEdge_keepsLaws (s : State) (p : Port) (old new : Keys) (k : KeySlot) :
    KeepsLaws s (s.talkEdge p old new k) := by
  unfold State.talkEdge
  split
  · exact (talkPress_keepsLaws s p k).trans (.same (by simp) (by simp))
  split
  · exact talkRelease_keepsLaws s p k
  · exact .refl s

theorem callEdge_keepsLaws (s : State) (p : Port) (old new : Keys) (k : KeySlot) :
    KeepsLaws s (s.callEdge p old new k) := by
  unfold State.callEdge
  split
  · exact callPress_keepsLaws s p k
  · exact .refl s

theorem cueEdge_keepsLaws (s : State) (p : Port) (old new : Keys) : KeepsLaws s (s.cueEdge p old new) := by
  unfold State.cueEdge
  split
  · exact changeCues_keepsLaws (fun t r => t.ackedCue r p) _ s
  · exact .refl s

theorem edges_keepsLaws (s : State) (p : Port) (old new : Keys) : KeepsLaws s (s.edges p old new) := by
  unfold State.edges
  split
  · exact ((KeepsLaws.foldl (fun t k => talkEdge_keepsLaws t p old new k) allSlots s).trans
      (.foldl (fun t k => callEdge_keepsLaws t p old new k) allSlots _)).trans (cueEdge_keepsLaws _ p old new)
  · exact cueEdge_keepsLaws s p old new
  · exact .refl s

theorem takeKeys_keepsLaws (s : State) (p : Port) (new : Keys) : KeepsLaws s (s.takeKeys p new) := by
  have hset := setPort_keepsLaws s p { s.ports[p] with keyRef := some new }
  unfold State.takeKeys
  simp only
  split
  · exact hset.trans (edges_keepsLaws _ p _ _)
  · exact hset

theorem takeGood_keepsLaws (s : State) (p : Port) (f : UpFrame) : KeepsLaws s (s.takeGood p f) := by
  have hheard : KeepsLaws s (s.setSample p (some (UpFrame.sample f))) := .same (by simp) (by simp)
  have hcleared : KeepsLaws s ((s.setSample p (some (UpFrame.sample f))).clearLoss p) :=
    hheard.trans (setPort_keepsLaws _ p _)
  unfold State.takeGood
  simp only
  split
  · exact .refl s
  · exact (hheard.trans (setPort_keepsLaws _ p _)).trans (queueAsk_keepsLaws _ p 1)
  · exact hcleared.trans (frameOctet_keepsLaws _ p f)
  · exact (hcleared.trans (takeKeys_keepsLaws _ p _)).trans (frameOctet_keepsLaws _ p f)
  · exact (hcleared.trans (takeKeys_keepsLaws _ p _)).trans (frameOctet_keepsLaws _ p f)
  · exact hcleared

theorem takeMissing_keepsLaws (s : State) (p : Port) : KeepsLaws s (s.takeMissing p) := by
  have hvoid : KeepsLaws s (s.setSample p none) := .same (by simp) (by simp)
  unfold State.takeMissing
  simp only
  split
  · exact .refl s
  · exact hvoid
  · split
    · exact hvoid.trans (fall_keepsLaws _ p _ _)
    · exact hvoid.trans (setPort_keepsLaws _ p _)

theorem takeFrame_keepsLaws (s : State) (p : Port) (f : UpFrame) : KeepsLaws s (s.takeFrame p f) := by
  unfold State.takeFrame
  split
  · split
    · exact takeGood_keepsLaws s p f
    · exact takeMissing_keepsLaws s p
  · exact .refl s

theorem frameMissed_keepsLaws (s : State) (p : Port) : KeepsLaws s (s.frameMissed p) := by
  unfold State.frameMissed
  split
  · exact takeMissing_keepsLaws s p
  · exact .refl s

theorem linkLossEvent_keepsLaws (s : State) (p : Port) : KeepsLaws s (s.linkLossEvent p) := by
  unfold State.linkLossEvent
  split
  · exact takeMissing_keepsLaws s p
  · exact .refl s

theorem askSent_keepsLaws (s : State) (p : Port) (e : TxEntry) : KeepsLaws s (s.askSent p e) := by
  unfold State.askSent
  split
  · split
    · exact setPort_keepsLaws s p _
    · exact .refl s
  · exact .refl s

theorem replyGone_keepsLaws (s : State) (p : Port) (w : Waits) : KeepsLaws s (s.replyGone p w) := by
  cases w with
  | nothing => exact .refl s
  | deferred => exact carryOut_keepsLaws s p
  | restart => exact restart_keepsLaws s

theorem octetSent_keepsLaws (s : State) (p : Port) : KeepsLaws s (s.octetSent p) := by
  unfold State.octetSent
  split
  · exact .refl s
  · rename_i e rest _
    split
    · exact .same (by simp) (by simp)
    · have hsent : KeepsLaws s (s.setQueue p rest) := .same (by simp) (by simp)
      exact (hsent.trans (askSent_keepsLaws _ p e)).trans (replyGone_keepsLaws _ p _)

theorem downstream_keepsLaws (s : State) (p : Port) : KeepsLaws s (s.downstream p) := by
  have hline : ∀ f, KeepsLaws s (s.setLine p f) := fun _ => .same (by simp) (by simp)
  have hservice : KeepsLaws s (((s.setLine p (some (s.serviceFrame p))).setShown p (s.lampsNow p))) :=
    .same (by simp) (by simp)
  unfold State.downstream State.sendFrame
  split
  · split
    · exact hline _
    · exact hline _
    · exact hline _
    · exact (hline _).trans (octetSent_keepsLaws _ p)
    · exact hservice.trans (octetSent_keepsLaws _ p)
    · exact hservice.trans (octetSent_keepsLaws _ p)
  · exact .refl s

theorem deferredEvent_keepsLaws (s : State) (p : Port) : KeepsLaws s (s.deferredEvent p) := by
  unfold State.deferredEvent
  split
  · exact carryOut_keepsLaws s p
  · exact .refl s

theorem restartEvent_keepsLaws (s : State) : KeepsLaws s s.restartEvent := by
  unfold State.restartEvent
  split
  · exact .refl s
  · split
    · exact restart_keepsLaws s
    · exact .refl s

theorem unknownMessage_keepsLaws (s : State) (p : Port) (tag kind : Octet) :
    KeepsLaws s (s.unknownMessage p tag kind) := by
  unfold State.unknownMessage
  split
  · exact acceptUnknown_keepsLaws s p kind tag
  · exact .refl s

theorem badTableRequest_keepsLaws (s : State) (p : Port) (tag : Octet) (isWrite : Bool) (table : Nat) :
    KeepsLaws s (s.badTableRequest p tag isWrite table) := by
  unfold State.badTableRequest
  split
  · exact .refl s
  · exact request_keepsLaws s p tag _

theorem tick_keepsLaws (s : State) : KeepsLaws s s.tick := by
  unfold State.tick
  split
  · exact .same (by simp) (by simp)
  · exact .refl s

/-! ### One command -/

/-- Every command of a running part keeps the laws. -/
theorem exec_keepsLaws {c : Instr} {s t : State} (hc : Instr.startsUp c = false) (h : exec c s = .next t) :
    KeepsLaws s t := by
  cases hr : requestOf c with
  | some x =>
    obtain ⟨p, tag, kind, r⟩ := x
    rw [(exec_requestOf hr).2] at h
    cases h
    exact request_keepsLaws s p tag r
  | none =>
    cases c <;> try contradiction
    case goodFrame p f => cases h; exact takeFrame_keepsLaws s p f
    case frameDiscarded p f => cases h; exact takeFrame_keepsLaws s p f
    case frameMissing p => cases h; exact frameMissed_keepsLaws s p
    case linkLoss p => cases h; exact linkLossEvent_keepsLaws s p
    case downstreamFrame p => cases h; exact downstream_keepsLaws s p
    case deferredAction p => cases h; exact deferredEvent_keepsLaws s p
    case restartCarriedOut => cases h; exact restartEvent_keepsLaws s
    case identReply p tag cls n serial keys => cases h; exact takeIdent_keepsLaws s p tag cls n serial keys
    case askDeadlineExpiry p => cases h; exact askExpiry_keepsLaws s p
    case step k a b => cases h; exact levelAB_keepsLaws s k a b
    case indexPulse k => cases h; exact levelZ_keepsLaws s k true
    case ackDeadlineExpiry slot => cases h; exact ackExpiry_keepsLaws s slot
    case followDeadlineExpiry slot => cases h; exact followExpiry_keepsLaws s slot
    case goDisplayExpiry slot => cases h; exact goDisplayExpiry_keepsLaws s slot
    case noticeBuild k => cases h; exact buildNotice_keepsLaws s k
    case idleTimerExpiry k => cases h; exact idleExpiry_keepsLaws s k
    case deniedPeriodExpiry p k => cases h; exact deniedExpiry_keepsLaws s p k
    case displayDeadlineExpiry | holdoffDeadlineExpiry => cases h; exact .same (by simp) (by simp)
    case unknownKind p tag kind => cases h; exact unknownMessage_keepsLaws s p tag kind
    case saveWriteAnswered => cases h; exact saveStep_keepsLaws writeAnswered_keepsLaws s
    case saveCompletion => cases h; exact saveAtMarker_keepsLaws s
    case saveFailure => cases h; exact saveStep_keepsLaws writeFailed_keepsLaws s
    case changeOfLevel k l => cases h; exact changeLevel_keepsLaws s k l
    case badTable p tag isWrite table => cases h; exact badTableRequest_keepsLaws s p tag isWrite table
    case unnamedSubjectOrCommand p tag what => cases h; exact request_keepsLaws s p tag _

end Sys2Proof.Machine
end

section
/-! Every step keeps the counts of the notice records within 0–255, a profile that holds WRITE, the counters within their
range (R76, R78, R165, R187) and each index within its list (R86, R87). -/

namespace Sys2Proof.Machine

/-! ### Power-on and LOAD_END -/

/-- R195: a power-on leaves the laws as reset has them. -/
theorem atPowerOn_laws (s : State) (power : Bool) :
    CountsBounded (s.atPowerOn power) ∧ WriterHeld (s.atPowerOn power) ∧ CountersInRange (s.atPowerOn power)
      ∧ IndexesSound (s.atPowerOn power) := by
  obtain ⟨-, -, hcounts, hwriter, hranges, -, -, ⟨-, hindexes⟩, -⟩ := resetMeetsTheLaws
  have hkept : KeepsLaws State.reset (s.atPowerOn power) := .same ⟨rfl, rfl, rfl, rfl, rfl⟩ rfl
  exact ⟨hkept.counts hcounts, hkept.writer hwriter, hkept.ranges hranges, hkept.indexes hindexes⟩

/-- R196: the laws once the tables are in place and the references taken: a quiet part's indexes are sound over any list. -/
theorem readied_laws {s b : State} (hb : s.withTables b = b) :
    (CountsBounded s → CountsBounded b.readied) ∧ WriterHeld b.readied ∧ (CountersInRange s → CountersInRange b.readied)
      ∧ (Quiet s → IndexesSound b.readied) := by
  have hnotices : b.readied.notices = s.notices := by
    rw [readied_eq, ← hb]
    rfl
  have hcounter : ∀ c, b.readied.counter c = { s.counter c with ref := b.pin c } := fun c => by
    rw [readied_counter, ← hb]
    rfl
  refine ⟨.of_notices hnotices, .of_profiles (by rw [readied_eq]) (guaranteeWriter_held b), fun h c => ?ranges,
    fun hquiet c => ?indexes⟩
  case ranges =>
    rw [hcounter]
    exact h c
  case indexes =>
    obtain ⟨-, -, -, hstopped⟩ := hquiet
    obtain ⟨hindex, hcomparison⟩ := hstopped c
    rw [hcounter]
    exact Counter.indexSound_of_stopped (hindex ▸ Nat.zero_le _) hcomparison

theorem finishLoad_keepsLaws (b : State) (cause : StartCause) : KeepsLaws b.readied (b.finishLoad cause) := by
  rw [finishLoad_eq]
  exact (evalZones_keepsLaws _ _).trans (raise_keepsLaws _ _)

/-- R196: LOAD_END as it stands to the laws. -/
theorem loadEnd_laws {s t : State} {answered : Bool} (h : exec (.loadEnd answered) s = .next t) :
    (CountsBounded s → CountsBounded t) ∧ (WriterHeld s → WriterHeld t) ∧ (CountersInRange s → CountersInRange t)
      ∧ (ComparisonsSound s → IndexesSound t) := by
  change Host.Outcome.next (if (s.powered && s.loader == .loading) = true then s.endLoad answered else s) = _ at h
  split at h
  · rename_i hloading
    cases h
    simp only [Bool.and_eq_true, beq_iff_eq] at hloading
    obtain ⟨b, cause, hend, hb, -⟩ := endLoad_cases s answered
    obtain ⟨hcounts, hwriter, hranges, hindexes⟩ := readied_laws hb
    have hkept := finishLoad_keepsLaws b cause
    rw [hend]
    exact ⟨hkept.counts ∘ hcounts, fun _ => hkept.writer hwriter, hkept.ranges ∘ hranges,
      fun hs => hkept.indexes (hindexes (hs.1 hloading.2))⟩
  · cases h
    exact ⟨id, id, id, And.right⟩

/-! ### The step -/

/-- Every command keeps the laws. -/
theorem exec_keeps_laws (c : Instr) (s t : State) (h : exec c s = .next t) :
    (CountsBounded s → CountsBounded t) ∧ (WriterHeld s → WriterHeld t) ∧ (CountersInRange s → CountersInRange t)
      ∧ (ComparisonsSound s → IndexesSound t) := by
  cases hc : Instr.startsUp c with
  | false =>
    have hkept := exec_keepsLaws hc h
    exact ⟨hkept.counts, hkept.writer, hkept.ranges, fun hs => hkept.indexes hs.2⟩
  | true =>
    obtain hpower | ⟨answered, rfl⟩ := startsUp_cases hc
    · obtain ⟨power, rfl⟩ := exec_powerOn hpower h
      obtain ⟨hcounts, hwriter, hranges, hindexes⟩ := atPowerOn_laws s power
      exact ⟨fun _ => hcounts, fun _ => hwriter, fun _ => hranges, fun _ => hindexes⟩
    · exact loadEnd_laws h

theorem tick_keeps_loadingQuiet {s : State} (hs : LoadingQuiet s) : LoadingQuiet s.tick := by
  intro hload
  have hquiet : Quiet s := hs ((tick_change s).loader hload)
  unfold State.tick
  split
  · exact hquiet
  · exact hquiet

/-- Settles O55: each of the three laws by what every command keeps. -/
theorem stepKeepsRangesAndAWriter : Obligations.StepKeepsRangesAndAWriter := by
  refine ⟨fun s t hcounts hwriter h => ⟨?counts, ?writer⟩, fun s t hranges h => ?ranges⟩
  case counts =>
    refine step_keeps (fun _ _ => id) (fun s => (tick_keepsLaws s).counts) (fun c s t hs h => ?_) hcounts h
    obtain ⟨hkept, -⟩ := exec_keeps_laws c s t h
    exact hkept hs
  case writer =>
    refine step_keeps (fun _ _ => id) (fun s => (tick_keepsLaws s).writer) (fun c s t hs h => ?_) hwriter h
    obtain ⟨-, hkept, -⟩ := exec_keeps_laws c s t h
    exact hkept hs
  case ranges =>
    refine step_keeps (fun _ _ => id) (fun s => (tick_keepsLaws s).ranges) (fun c s t hs h => ?_) hranges h
    obtain ⟨-, -, hkept, -⟩ := exec_keeps_laws c s t h
    exact hkept hs

/-- Settles O58: a swap and a load leave each comparison at the start of its list, and every other command that moves an
index keeps it within. -/
theorem stepKeepsComparisonsSound : Obligations.StepKeepsComparisonsSound := by
  intro s t hs h
  refine step_keeps (fun _ _ => id) (fun s hs => ?tick) (fun c s t hs h => ?command) hs h
  case tick =>
    obtain ⟨hquiet, hindexes⟩ := hs
    exact ⟨tick_keeps_loadingQuiet hquiet, (tick_keepsLaws s).indexes hindexes⟩
  case command =>
    obtain ⟨-, -, -, hkept⟩ := exec_keeps_laws c s t h
    exact ⟨exec_keeps_loadingQuiet c s t hs.1 h, hkept hs⟩

end Sys2Proof.Machine
end

section
/-! The motion counters, level by level: the step of each counting mode (R77), what new levels of A, B and Z leave (R77–R83,
R92), and the occupancy of a counter's zones. -/

namespace Sys2Proof.Machine

/-! ### The steps of the modes (R77) -/

theorem stepOf_quadrature (ra rb rz a b : Bool) (both : Option Bool) :
    stepOf .quadrature ⟨ra, rb, rz⟩ a b both =
      if a = ra ∧ b = rb then none
      else if a ≠ ra ∧ b ≠ rb then none
      else if a ≠ ra then some (a != b) else some (a == b) := by
  cases ra <;> cases rb <;> cases a <;> cases b <;> rfl

theorem stepOf_pulseDirection (ra rb rz a b : Bool) (both : Option Bool) :
    stepOf .pulseDirection ⟨ra, rb, rz⟩ a b both = if ra = false ∧ a = true then some (!b) else none := by
  cases ra <;> cases a <;> rfl

theorem stepOf_countUp (ra rb rz a b : Bool) (both : Option Bool) :
    stepOf .countUp ⟨ra, rb, rz⟩ a b both = if ra = false ∧ a = true then some true else none := by
  cases ra <;> cases a <;> rfl

theorem stepOf_upDown (ra rb rz a b : Bool) (both : Option Bool) :
    stepOf .upDown ⟨ra, rb, rz⟩ a b both =
      if ra = false ∧ a = true then (if rb = false ∧ b = true then both else some true)
      else if rb = false ∧ b = true then some false else none := by
  cases ra <;> cases rb <;> cases a <;> cases b <;> rfl

/-- Settles O17: a step depends on the levels of A and B before and after alone. -/
theorem stepsByCountingMode : Obligations.StepsByCountingMode := fun ra rb rz a b both =>
  ⟨stepOf_quadrature ra rb rz a b both, stepOf_pulseDirection ra rb rz a b both, stepOf_countUp ra rb rz a b both,
    stepOf_upDown ra rb rz a b both⟩

/-- R98: levels that already stand in the reference yield no step. -/
theorem stepOf_same (m : CountMode) (r : Levels) (both : Option Bool) : stepOf m r r.a r.b both = none := by
  cases m with
  | quadrature => exact if_pos rfl
  | pulseDirection | countUp => simp [stepOf]
  | upDown => simp [stepOf]

/-! ### What new levels of A and B leave -/

/-- R77: the state once a counter has taken levels of A and B: its pins and its reference, and the free value drawn. -/
def State.tookAB (s : State) (c : CounterId) (a b : Bool) : State :=
  { s with
    fresh := s.freshAfter c a b
    pins := put s.pins (State.counterIdx c) { s.pin c with a := a, b := b }
    counters := put s.counters (State.counterIdx c)
      { s.counter c with ref := { (s.counter c).ref with a := a, b := b } } }

theorem tookAB_counter (s : State) (c : CounterId) (a b : Bool) :
    (s.tookAB c a b).counter c = { s.counter c with ref := { (s.counter c).ref with a := a, b := b } } :=
  (counter_setCounter s c c _).trans (if_pos rfl)

/-- A counter that is replaced once it has taken its levels. -/
theorem tookAB_setCounter (s : State) (c : CounterId) (a b : Bool) (x : Counter) :
    (s.tookAB c a b).setCounter c x =
      { s with
        fresh := s.freshAfter c a b
        pins := put s.pins (State.counterIdx c) { s.pin c with a := a, b := b }
        counters := put s.counters (State.counterIdx c) x } := by
  simp only [State.setCounter, State.tookAB, put_put]

theorem drawsFree_iff (s : State) (c : CounterId) (a b : Bool) :
    drawsFree (s.counter c).mode (s.counter c).ref a b = true ↔
      (s.counter c).mode = .upDown ∧ (s.counter c).ref.a = false ∧ a = true ∧ (s.counter c).ref.b = false ∧ b = true := by
  simp [drawsFree, and_assoc]

theorem takeAB_draw (s : State) (c : CounterId) (a b : Bool) :
    ((s.setPins c { s.pin c with a := a, b := b }).takeAB c a b).draw
        (drawsFree (s.counter c).mode (s.counter c).ref a b) = s.tookAB c a b := by
  unfold State.draw State.tookAB State.freshAfter
  simp only [drawsFree_iff]
  rfl

/-- R83: while the loader runs the pins alone follow. -/
theorem levelAB_loading {s : State} (c : CounterId) (a b : Bool) (hl : s.loader = .loading) :
    s.levelAB c a b = s.setPins c { s.pin c with a := a, b := b } := by
  have hloaded : (s.setPins c { s.pin c with a := a, b := b }).loaded = false := not_loaded hl
  simp only [State.levelAB, hloaded, Bool.false_eq_true, if_false]

theorem loaded_of_ne {s : State} (hl : s.loader ≠ .loading) : s.loaded = true := by
  unfold State.loaded
  exact bne_iff_ne.2 hl

/-- R77: levels that yield no step. -/
theorem levelAB_none {s : State} {c : CounterId} {a b : Bool} (hl : s.loader ≠ .loading)
    (h : stepOf (s.counter c).mode (s.counter c).ref a b (Config.bothRise s.fresh) = none) :
    s.levelAB c a b = s.tookAB c a b := by
  have hloaded : (s.setPins c { s.pin c with a := a, b := b }).loaded = true := loaded_of_ne hl
  have hstep : (s.setPins c { s.pin c with a := a, b := b }).stepHere c a b = none := h
  simp only [State.levelAB, hloaded, if_true, hstep]
  exact takeAB_draw s c a b

/-- R77: levels that yield a step. -/
theorem levelAB_some {s : State} {c : CounterId} {a b up : Bool} (hl : s.loader ≠ .loading)
    (h : stepOf (s.counter c).mode (s.counter c).ref a b (Config.bothRise s.fresh) = some up) :
    s.levelAB c a b = (s.tookAB c a b).applyStep c up := by
  have hloaded : (s.setPins c { s.pin c with a := a, b := b }).loaded = true := loaded_of_ne hl
  have hstep : (s.setPins c { s.pin c with a := a, b := b }).stepHere c a b = some up := h
  simp only [State.levelAB, hloaded, if_true, hstep]
  exact congrArg (fun t => State.applyStep t c up) (takeAB_draw s c a b)

/-- R98: a counter that takes the levels of its reference, which stand on its pins, is as it was. -/
theorem tookAB_same {s : State} {c : CounterId} (h : (s.counter c).ref = s.pin c) :
    s.tookAB c (s.pin c).a (s.pin c).b = s := by
  have hfresh : s.freshAfter c (s.pin c).a (s.pin c).b = s.fresh := by
    unfold State.freshAfter
    refine if_neg fun hrise => ?_
    obtain ⟨-, hlow, hhigh, -⟩ := hrise
    rw [h, hhigh] at hlow
    cases hlow
  have hcounter : { s.counter c with ref := { (s.counter c).ref with a := (s.pin c).a, b := (s.pin c).b } } = s.counter c := by
    rw [← h]
  have hpin : { s.pin c with a := (s.pin c).a, b := (s.pin c).b } = s.pin c := rfl
  unfold State.tookAB
  rw [hfresh, hcounter, hpin]
  simp only [State.counter, State.pin, put_get]

/-! ### What a new level of Z leaves -/

/-- R81: the state once a counter has taken a level of Z: its pins and its reference. -/
def State.tookZ (s : State) (c : CounterId) (z : Bool) : State :=
  { s with
    pins := put s.pins (State.counterIdx c) { s.pin c with z := z }
    counters := put s.counters (State.counterIdx c) { s.counter c with ref := { (s.counter c).ref with z := z } } }

theorem tookZ_counter (s : State) (c : CounterId) (z : Bool) :
    (s.tookZ c z).counter c = { s.counter c with ref := { (s.counter c).ref with z := z } } :=
  (counter_setCounter s c c _).trans (if_pos rfl)

/-- R83: while the loader runs the pins alone follow. -/
theorem levelZ_loading {s : State} (c : CounterId) (z : Bool) (hl : s.loader = .loading) :
    s.levelZ c z = s.setPins c { s.pin c with z := z } := by
  have hloaded : (s.setPins c { s.pin c with z := z }).loaded = false := not_loaded hl
  simp only [State.levelZ, hloaded, Bool.false_eq_true, if_false]

/-- R81: a fall of Z, and a Z that is high already. -/
theorem levelZ_quiet {s : State} {c : CounterId} {z : Bool} (hl : s.loader ≠ .loading)
    (h : z = false ∨ (s.counter c).ref.z = true) : s.levelZ c z = s.tookZ c z := by
  have hloaded : (s.setPins c { s.pin c with z := z }).loaded = true := loaded_of_ne hl
  have hrise : (z && !((s.setPins c { s.pin c with z := z }).counter c).ref.z) = false := by
    rcases h with rfl | h
    · rfl
    · have href : ((s.setPins c { s.pin c with z := z }).counter c).ref.z = true := h
      rw [href]
      simp
  simp only [State.levelZ, hloaded, if_true, hrise, Bool.false_eq_true, if_false]
  rfl

/-- R81: a rise of Z. -/
theorem levelZ_rise {s : State} {c : CounterId} (hl : s.loader ≠ .loading) (h : (s.counter c).ref.z = false) :
    s.levelZ c true = (s.tookZ c true).applyIndex c := by
  have hloaded : (s.setPins c { s.pin c with z := true }).loaded = true := loaded_of_ne hl
  have href : ((s.setPins c { s.pin c with z := true }).counter c).ref.z = false := h
  simp only [State.levelZ, hloaded, if_true, href, Bool.not_false, Bool.and_self]
  rfl

/-- R81: a Z that is high in the reference and on the pins already changes the pins alone. -/
theorem tookZ_high {s : State} {c : CounterId} (h : (s.counter c).ref.z = true) :
    s.tookZ c true = { s with pins := put s.pins (State.counterIdx c) { s.pin c with z := true } } := by
  have hcounter : { s.counter c with ref := { (s.counter c).ref with z := true } } = s.counter c := by
    rw [← h]
  unfold State.tookZ
  rw [hcounter]
  simp only [State.counter, put_get]

/-! ### The zones of a counter (R92) -/

/-- R92: the occupancy once the valid zones that name a counter have been evaluated. -/
def State.occupiedAfter (s : State) (c : CounterId) : Vector Bool 6 :=
  Vector.ofFn fun z : ZoneNo =>
    if s.liveTables.zones[z].valid = true ∧ s.liveTables.zones[z].counter = c then s.zoneNow z else s.occupied[z]

theorem occupiedAfter_get (s : State) (c : CounterId) (z : ZoneNo) :
    (s.occupiedAfter c)[z] =
      if s.liveTables.zones[z].valid = true ∧ s.liveTables.zones[z].counter = c then s.zoneNow z else s.occupied[z] := by
  rw [State.occupiedAfter, Fin.getElem_fin, Vector.getElem_ofFn]

theorem evalCounterZones_occupiedAfter (s : State) (c : CounterId) :
    (s.evalCounterZones c).occupied = s.occupiedAfter c := by
  refine Vector.ext fun i hi => ?_
  exact (evalCounterZones_occupied s c ⟨i, hi⟩).trans (occupiedAfter_get s c ⟨i, hi⟩).symm

/-- R92: the evaluation of a counter's zones: the occupancy, and the raising of its changes. -/
theorem evalCounterZones_eq (s : State) (c : CounterId) :
    s.evalCounterZones c =
      State.raised { s with occupied := s.occupiedAfter c } (s.zoneChanges (s.occupiedAfter c)) := by
  rw [← evalCounterZones_occupiedAfter]
  exact evalZones_raised s (s.zoneNames c)

/-- R188: the raising of a notice and a change of occupancy do not meet. -/
theorem raise_occupied (s : State) (d : NoticeDetail) (o : Vector Bool 6) :
    { s.raise d with occupied := o } = State.raise { s with occupied := o } d := by
  have hraised := raise_mailed (x := { s with occupied := o }) (m := s) ⟨rfl, rfl, rfl⟩ d
  have hmailed := eq_mailed (raise_sansMsgs s d)
  exact (congrArg (fun t : State => { t with occupied := o }) hmailed).trans hraised.symm

/-- R92: an evaluation behind a notice: the notice, then the changes. -/
theorem raise_evalCounterZones (s : State) (d : NoticeDetail) (c : CounterId) :
    (s.raise d).evalCounterZones c =
      (State.raise { s with occupied := s.occupiedAfter c } d).raised (s.zoneChanges (s.occupiedAfter c)) := by
  have hoccupied : (s.raise d).occupiedAfter c = s.occupiedAfter c :=
    (congrArg (fun t => State.occupiedAfter t c) (raise_sansMsgs s d) :)
  have hchanges : (s.raise d).zoneChanges (s.occupiedAfter c) = s.zoneChanges (s.occupiedAfter c) :=
    (congrArg (fun t => State.zoneChanges t (s.occupiedAfter c)) (raise_sansMsgs s d) :)
  rw [evalCounterZones_eq, hoccupied, hchanges, raise_occupied]

theorem zoneInside_counting {z : Zone} {c : Counter} (hvalid : z.valid = true) (h : c.state = .counting) :
    zoneInside z c = decide (z.lower ≤ c.value ∧ c.value ≤ z.upper) := by
  simp [zoneInside, hvalid, h]

/-- R92: a valid zone of a counter that counts is occupied when the value lies within its bounds. -/
theorem occupiedAfter_counting {s : State} {c : CounterId} (h : (s.counter c).state = .counting) (z : ZoneNo) :
    (s.occupiedAfter c)[z] =
      if s.liveTables.zones[z].valid = true ∧ s.liveTables.zones[z].counter = c then
        decide (s.liveTables.zones[z].lower ≤ (s.counter c).value ∧ (s.counter c).value ≤ s.liveTables.zones[z].upper)
      else s.occupied[z] := by
  rw [occupiedAfter_get]
  refine ite_congr rfl (fun hz => ?_) (fun _ => rfl)
  obtain ⟨hvalid, hcounter⟩ := hz
  rw [State.zoneNow, hcounter, zoneInside_counting hvalid h]

/-- R79, R92: in OVERRANGE every valid zone of the counter is occupied. -/
theorem occupiedAfter_overrange {s : State} {c : CounterId} (h : (s.counter c).state = .overrange) (z : ZoneNo) :
    (s.occupiedAfter c)[z] =
      if s.liveTables.zones[z].valid = true ∧ s.liveTables.zones[z].counter = c then true else s.occupied[z] := by
  rw [occupiedAfter_get]
  refine ite_congr rfl (fun hz => ?_) (fun _ => rfl)
  obtain ⟨hvalid, hcounter⟩ := hz
  rw [State.zoneNow, hcounter]
  exact (zoneInside_iff _ _).2 ⟨hvalid, .inl h⟩

theorem raised_sansMsgs (s : State) (l : List NoticeDetail) : (s.raised l).sansMsgs = s.sansMsgs :=
  foldl_sansMsgs _ raise_sansMsgs l s

theorem counter_of_sansMsgs {s t : State} (h : t.sansMsgs = s.sansMsgs) : t.counter = s.counter :=
  (congrArg State.counter h :)

end Sys2Proof.Machine
end

section
/-! Steps and index pulses (R77–R83, R92). -/

namespace Sys2Proof.Machine

/-! ### Steps -/

/-- R87: a comparison that is not RUNNING is not tested. -/
theorem testPosition_idle {s : State} {c : CounterId} (up : Bool) (h : (s.counter c).comparison ≠ .running) :
    s.testPosition c up = s := if_neg h

/-- R79: in OVERRANGE a step moves nothing. -/
theorem applyStep_overrange {s : State} {c : CounterId} (up : Bool) (h : (s.counter c).state = .overrange) :
    s.applyStep c up = s := if_pos h

/-- R78: a step within the range. -/
theorem applyStep_inside {s : State} {c : CounterId} {up : Bool} (h : (s.counter c).state = .counting)
    (hrange : inRange (stepValue (s.counter c).value up) = true) :
    s.applyStep c up =
      ((s.setCounter c { s.counter c with value := stepValue (s.counter c).value up }).evalCounterZones c).testPosition c
        up := by
  have hstate : (s.counter c).state ≠ .overrange := by
    rw [h]
    exact nofun
  rw [State.applyStep, if_neg hstate, if_pos hrange]

/-- R79: beyond its bound a value is out of range. -/
theorem stepValue_boundOf (up : Bool) : inRange (stepValue (boundOf up) up) = false := by cases up <;> decide

theorem suspend_eq (x : Comparison) : x.suspend = if x = .running then .suspended else x := by cases x <;> rfl

/-- R79: a step beyond the range, from the bound. -/
theorem applyStep_beyond {s : State} {c : CounterId} {up : Bool} (h : (s.counter c).state = .counting)
    (hbound : (s.counter c).value = boundOf up) :
    s.applyStep c up =
      ((s.setCounter c { s.counter c with
          state := .overrange
          comparison := if (s.counter c).comparison = .running then .suspended else (s.counter c).comparison }).raise
        (.counterOverrange c (boundOf up))).evalCounterZones c := by
  have hstate : (s.counter c).state ≠ .overrange := by
    rw [h]
    exact nofun
  have hrange : ¬inRange (stepValue (s.counter c).value up) = true := by
    rw [hbound, stepValue_boundOf]
    exact Bool.false_ne_true
  rw [State.applyStep, if_neg hstate, if_neg hrange, State.overrange, suspend_eq, ← hbound]

/-- Settles O18: the counter takes the levels, its step is applied, and the zones are evaluated on the counter it leaves. -/
theorem stepMovesTheValueWithinTheRange : Obligations.StepMovesTheValueWithinTheRange := by
  intro s c a b up hl hstep becomes seen
  have hcounter : ∀ x, (becomes x).counter c = x := fun x => (counter_setCounter s c c x).trans (if_pos rfl)
  have hexec : exec (.step c a b) s = .next ((becomes seen).applyStep c up) :=
    congrArg Host.Outcome.next (levelAB_some hl hstep)
  have hset : ∀ x, (becomes seen).setCounter c x = becomes x := tookAB_setCounter s c a b
  rw [hexec]
  refine ⟨fun hstate hrange => ?inside, fun hstate hbound => ?beyond, fun hstate => ?overrange⟩
  case inside =>
    intro moved
    have hmoved : moved.counter c = { seen with value := stepValue (s.counter c).value up } := hcounter _
    have hzones : ∀ z : ZoneNo, _ := occupiedAfter_counting (s := moved) (c := c) (by rw [hmoved]; exact hstate)
    rw [hmoved] at hzones
    have happlied : (becomes seen).applyStep c up = (moved.evalCounterZones c).testPosition c up := by
      have h := applyStep_inside (s := becomes seen) (c := c) (up := up)
      rw [hcounter, hset] at h
      exact h hstate hrange
    rw [happlied, evalCounterZones_eq]
    refine ⟨moved.occupiedAfter c, hzones, fun hidle => ?_, fun _ => rfl⟩
    refine congrArg Host.Outcome.next (testPosition_idle up ?_)
    rw [counter_of_sansMsgs (raised_sansMsgs _ _)]
    show (moved.counter c).comparison ≠ .running
    rw [hmoved]
    exact hidle
  case beyond =>
    intro moved
    have hmoved : (moved.counter c).state = .overrange := by rw [hcounter]
    have happlied : (becomes seen).applyStep c up =
        (moved.raise (.counterOverrange c (boundOf up))).evalCounterZones c := by
      have h := applyStep_beyond (s := becomes seen) (c := c) (up := up)
      rw [hcounter, hset] at h
      exact h hstate hbound
    rw [happlied, raise_evalCounterZones]
    exact ⟨moved.occupiedAfter c, occupiedAfter_overrange hmoved, rfl⟩
  case overrange =>
    refine congrArg Host.Outcome.next (applyStep_overrange up ?_)
    rw [hcounter]
    exact hstate

/-! ### Index pulses and levels -/

/-- R81: an index pulse with the arm clear moves nothing. -/
theorem applyIndex_unarmed {s : State} {c : CounterId} (h : (s.counter c).arm = false) : s.applyIndex c = s := by
  unfold State.applyIndex
  rw [h]
  rfl

/-- R80–R82: an index pulse with the arm set. -/
theorem applyIndex_armed {s : State} {c : CounterId} (h : (s.counter c).arm = true) :
    s.applyIndex c =
      ((s.setCounter c { s.counter c with value := (s.counter c).preset, state := .counting, arm := false }).raise
        (.counterReset c (s.counter c).value (s.counter c).preset)).evalCounterZones c := by
  have hjumped : (s.jumpTo c (s.counter c).preset).setCounter c
      { (s.jumpTo c (s.counter c).preset).counter c with arm := false } =
        s.setCounter c { s.counter c with value := (s.counter c).preset, state := .counting, arm := false } := by
    rw [State.jumpTo, counter_setCounter, if_pos rfl]
    simp only [State.setCounter, put_put]
  rw [State.applyIndex, if_pos h, hjumped]

/-- R80–R82, R92: the state in which a counter has taken an armed index pulse, its zones not yet evaluated. -/
theorem tookZ_setCounter (s : State) (c : CounterId) (z : Bool) (x : Counter) :
    (s.tookZ c z).setCounter c x =
      { s with
        pins := put s.pins (State.counterIdx c) { s.pin c with z := z }
        counters := put s.counters (State.counterIdx c) x } := by
  simp only [State.setCounter, State.tookZ, put_put]

theorem exec_indexPulse_armed {s : State} {c : CounterId} (hl : s.loader ≠ .loading) (hz : (s.counter c).ref.z = false)
    (harm : (s.counter c).arm = true) :
    exec (.indexPulse c) s = .next
      ((((s.tookZ c true).setCounter c
          { s.counter c with
            value := (s.counter c).preset, state := .counting, arm := false
            ref := { (s.counter c).ref with z := true } }).raise
        (.counterReset c (s.counter c).value (s.counter c).preset)).evalCounterZones c) := by
  have h := applyIndex_armed (s := s.tookZ c true) (c := c)
  rw [tookZ_counter] at h
  exact congrArg Host.Outcome.next ((levelZ_rise hl hz).trans (h harm))

/-- Settles O20: an index pulse and a change of level by what the levels leave, and an armed pulse by the jump it makes. -/
theorem indexPulsesAndLevelChanges : Obligations.IndexPulsesAndLevelChanges := by
  refine ⟨fun s c hl hz => ⟨fun harm => ?armed, fun harm => ?unarmed⟩, fun s c h => ?noPulse, fun s c a b =>
    ⟨fun hl hstep => ?noStep, fun hl => ?fall, fun hl => ⟨?loadingAB, ?loadingZ⟩, rfl, rfl, fun z => rfl⟩⟩
  case armed =>
    intro moved
    rw [exec_indexPulse_armed hl hz harm, tookZ_setCounter, raise_evalCounterZones]
    have hmoved : moved.counter c = _ := (counter_setCounter s c c _).trans (if_pos rfl)
    have hzones : ∀ z : ZoneNo, _ := occupiedAfter_counting (s := moved) (c := c) (by rw [hmoved])
    rw [hmoved] at hzones
    exact ⟨moved.occupiedAfter c, hzones, rfl⟩
  case unarmed =>
    have h : ((s.tookZ c true).counter c).arm = false := by
      rw [tookZ_counter]
      exact harm
    exact congrArg Host.Outcome.next ((levelZ_rise hl hz).trans (applyIndex_unarmed h))
  case noPulse =>
    refine congrArg Host.Outcome.next ?_
    by_cases hl : s.loader = .loading
    · exact levelZ_loading c true hl
    · have hz := h.resolve_left hl
      exact (levelZ_quiet hl (.inr hz)).trans (tookZ_high hz)
  case noStep => exact congrArg Host.Outcome.next (levelAB_none hl hstep)
  case fall => exact congrArg Host.Outcome.next (levelZ_quiet hl (.inl rfl))
  case loadingAB => exact congrArg Host.Outcome.next (levelAB_loading c a b hl)
  case loadingZ => exact congrArg Host.Outcome.next (levelZ_loading c false hl)

end Sys2Proof.Machine
end

section
/-! COUNTER_CONTROL (R92, R94–R98) and STATUS (R94, R167, R184, R193). -/

namespace Sys2Proof.Machine

/-! ### What each command of COUNTER_CONTROL does -/

theorem commandSet_inside {v : Int} (c : CounterId) (s : State) (h : inRange v = true) :
    commandSet v c s = ((s.jumpTo c v).evalCounterZones c, .ok) := if_pos h

theorem commandSet_outside {v : Int} (c : CounterId) (s : State) (h : inRange v = false) :
    commandSet v c s = (s, .badValue) := if_neg (by simp [h])

theorem commandPreset_inside {v : Int} (c : CounterId) (s : State) (h : inRange v = true) :
    commandPreset v c s = (s.setCounter c { s.counter c with preset := v }, .ok) := if_pos h

theorem commandPreset_outside {v : Int} (c : CounterId) (s : State) (h : inRange v = false) :
    commandPreset v c s = (s, .badValue) := if_neg (by simp [h])

section
variable {c : CounterId} {s : State}

theorem commandStart_overrange (h : (s.counter c).state = .overrange) : commandStart c s = (s, .overrange) := if_pos h

theorem commandStart_counting (h : (s.counter c).state = .counting) :
    commandStart c s =
      if s.listLength c ≤ (s.counter c).index then (s, .exhausted)
      else (s.setCounter c { s.counter c with comparison := .running }, .ok) :=
  if_neg (by rw [h]; exact nofun)

theorem commandSeek_running (i : Nat) (h : (s.counter c).comparison = .running) : commandSeek i c s = (s, .busy) :=
  if_pos h

theorem sought_eq (x : Comparison) : x.sought = if x = .exhausted then .stopped else x := by cases x <;> rfl

theorem commandSeek_idle (i : Nat) (h : (s.counter c).comparison ≠ .running) :
    commandSeek i c s =
      if s.listLength c < i then (s, .badValue)
      else
        (s.setCounter c
          { s.counter c with
            index := i
            comparison := if (s.counter c).comparison = .exhausted then .stopped else (s.counter c).comparison }, .ok) := by
  rw [commandSeek, if_neg h, sought_eq]

theorem commandMode_stopped (m : CountMode) (h : (s.counter c).comparison = .stopped) :
    commandMode (some m) c s = (s.setCounter c { s.counter c with mode := m, ref := s.pin c }, .ok) := if_pos h

theorem commandMode_busy (m : CountMode) (h : (s.counter c).comparison ≠ .stopped) :
    commandMode (some m) c s = (s, .busy) := if_neg h

end

/-! ### Replies about a counter -/

/-- R94: the data of a reply: the counter as it stands. -/
def Counter.data (r : Counter) : ReplyData := .counter r.value r.state r.comparison r.index

/-- R94: a command of COUNTER_CONTROL that sets one counter record: the record, and a reply that carries it. -/
theorem counter_replied {s : State} {p : Port} (tag : Octet) {r : Request} {c : CounterId}
    {command : CounterId → State → State × Status} {x : Counter} {st : Status} (hs : MaySend s p .write)
    (hright : requestRight r = .write) (hkind : requestKind r = 0x40) (howner : owner p r = counterControl (some c) command)
    (hcommand : command c (s.reserve p) = ((s.reserve p).setCounter c x, st)) :
    s.request p tag r = (s.setCounter c x).replied p (replyOf 0xC0 tag st x.data) := by
  have hdata : ((s.reserve p).setCounter c x).counterData c = x.data := by
    rw [State.counterData, counter_setCounter, if_pos rfl]
    rfl
  have hanswer : owner p r (s.reserve p) = ((s.setCounter c x).reserve p, Answer.with st x.data) := by
    rw [howner, counterControl, hcommand]
    simp only [State.counterAnswer, hdata]
    rfl
  rw [request_replied tag _ st x.data (hright ▸ hs) hanswer, hkind]
  rfl

/-- A command that changes nothing sets the counter record that stands. -/
theorem command_unchanged {command : CounterId → State → State × Status} {c : CounterId} {s : State} {st : Status}
    (h : command c s = (s, st)) : command c s = (s.setCounter c (s.counter c), st) := by
  rw [h, setCounter_counter]

/-- R94: a command of COUNTER_CONTROL refused: a reply that carries the counter. -/
theorem counter_refused {s : State} {p : Port} (tag : Octet) {r : Request} {c : CounterId}
    {command : CounterId → State → State × Status} {st : Status} (hs : MaySend s p .write)
    (hright : requestRight r = .write) (hkind : requestKind r = 0x40) (howner : owner p r = counterControl (some c) command)
    (hcommand : command c (s.reserve p) = (s.reserve p, st)) :
    s.request p tag r = s.replied p (replyOf 0xC0 tag st (s.counter c).data) := by
  have h := counter_replied tag (x := s.counter c) hs hright hkind howner (command_unchanged hcommand)
  rwa [setCounter_counter] at h

/-- R94: a counter other than M1 and M2. -/
theorem counter_unnamed {s : State} {p : Port} (tag : Octet) {r : Request} (hs : MaySend s p .write)
    (hright : requestRight r = .write) (hkind : requestKind r = 0x40)
    (howner : owner p r (s.reserve p) = (s.reserve p, Answer.bare .badIndex)) :
    s.request p tag r = s.replied p (replyOf 0xC0 tag .badIndex .nothing) := by
  rw [request_refused tag .badIndex .nothing (hright ▸ hs) howner, hkind]
  rfl

/-! ### SET, PRESET and the arm -/

/-- R92, R95: SET within the range: the jump and its reply, then the changes of occupancy. -/
theorem set_replied {s : State} {p : Port} (tag : Octet) {c : CounterId} {v : Int} (hs : MaySend s p .write)
    (hv : inRange v = true) :
    s.request p tag (.set (some c) v) =
      (State.replied { s.jumpTo c v with occupied := (s.jumpTo c v).occupiedAfter c } p
          (replyOf 0xC0 tag .ok (Counter.data { s.counter c with value := v, state := .counting }))).raised
        ((s.jumpTo c v).zoneChanges ((s.jumpTo c v).occupiedAfter c)) := by
  have hcounter : ∀ t : State, t.sansZones = ((s.jumpTo c v).reserve p).sansZones →
      t.counter c = { s.counter c with value := v, state := .counting } := fun t ht => by
    have ht : t.counter c = (s.jumpTo c v).counter c := (congrArg (fun t => State.counter t c) ht :)
    rw [ht, State.jumpTo, counter_setCounter, if_pos rfl]
  refine request_through (r := .set (some c) v) tag
    { s.jumpTo c v with occupied := (s.jumpTo c v).occupiedAfter c }
    (fun t => t.raised ((s.jumpTo c v).zoneChanges ((s.jumpTo c v).occupiedAfter c))) .ok
    (Counter.data { s.counter c with value := v, state := .counting }) hs ?_
    fun t kind tag a ha => raised_answer p kind tag a ha _ t
  have hset : commandSet v c (s.reserve p) = (((s.jumpTo c v).reserve p).evalCounterZones c, .ok) :=
    commandSet_inside c _ hv
  simp only [owner, counterControl, hset, State.counterAnswer, State.counterData,
    hcounter _ (evalCounterZones_sansZones _ c)]
  exact congrArg (·, _) (evalCounterZones_eq _ c)

/-- Settles O21: each command by what it does to the counter record, a SET by its jump. -/
theorem setPresetAndArm : Obligations.SetPresetAndArm := by
  refine ⟨fun s p tag c v hs => ⟨fun hv => ⟨?set, ?preset⟩, fun hv => ⟨?setRefused, ?presetRefused⟩, ?arm, ?disarm⟩,
    fun s p tag v i m cmd hs hcmd => ?unnamed⟩
  case set =>
    intro moved
    have hmoved : moved.counter c = _ := (counter_setCounter s c c _).trans (if_pos rfl)
    have hzones : ∀ z : ZoneNo, _ := occupiedAfter_counting (s := moved) (c := c) (by rw [hmoved])
    rw [hmoved] at hzones
    exact ⟨moved.occupiedAfter c, hzones, congrArg Host.Outcome.next (set_replied tag hs hv)⟩
  case preset =>
    exact congrArg Host.Outcome.next (counter_replied (r := .preset (some c) v) tag hs rfl rfl rfl
      (commandPreset_inside c _ hv))
  case setRefused =>
    exact congrArg Host.Outcome.next (counter_refused (r := .set (some c) v) tag hs rfl rfl rfl (commandSet_outside c _ hv))
  case presetRefused =>
    exact congrArg Host.Outcome.next (counter_refused (r := .preset (some c) v) tag hs rfl rfl rfl
      (commandPreset_outside c _ hv))
  case arm => exact congrArg Host.Outcome.next (counter_replied (r := .armIndex (some c)) tag hs rfl rfl rfl rfl)
  case disarm => exact congrArg Host.Outcome.next (counter_replied (r := .disarmIndex (some c)) tag hs rfl rfl rfl rfl)
  case unnamed =>
    have hrequest : ∃ r, exec cmd s = .next (s.request p tag r) ∧ requestRight r = .write ∧ requestKind r = 0x40
        ∧ owner p r (s.reserve p) = (s.reserve p, Answer.bare .badIndex) := by
      simp only [List.mem_cons, List.not_mem_nil, or_false] at hcmd
      rcases hcmd with rfl | rfl | rfl | rfl | rfl | rfl | rfl | rfl <;> exact ⟨_, rfl, rfl, rfl, rfl⟩
    obtain ⟨r, hexec, hright, hkind, howner⟩ := hrequest
    rw [hexec, counter_unnamed tag hs hright hkind howner]

/-! ### START, STOP, SEEK and MODE -/

/-- Settles O22: each command by what it does to the comparison of the counter record. -/
theorem startStopAndSeek : Obligations.StartStopAndSeek := by
  intro s p tag c i hs r answers
  have hkept : ∀ {q : Request} {cmd : Instr} {command : CounterId → State → State × Status} {st : Status} (x : Counter),
      exec cmd s = .next (s.request p tag q) → requestRight q = .write → requestKind q = 0x40 →
      owner p q = counterControl (some c) command →
      command c (s.reserve p) = ((s.reserve p).setCounter c x, st) → answers cmd st x :=
    fun x hexec hright hkind howner hcommand =>
      hexec.trans (congrArg Host.Outcome.next (counter_replied tag hs hright hkind howner hcommand))
  refine ⟨fun h => ?overrange, fun h hlength => ?exhausted, fun h hlength => ?start, ?stop, fun h => ?busy,
    fun h hlength => ?badValue, fun h hlength => ?seek⟩
  case overrange => exact hkept r rfl rfl rfl rfl (command_unchanged (commandStart_overrange h))
  case exhausted =>
    exact hkept r rfl rfl rfl rfl
      (command_unchanged ((commandStart_counting (s := s.reserve p) h).trans (if_pos hlength.ge)))
  case start =>
    exact hkept _ rfl rfl rfl rfl
      ((commandStart_counting (s := s.reserve p) h).trans (if_neg (Nat.not_le.2 hlength)))
  case stop => exact hkept _ rfl rfl rfl rfl rfl
  case busy => exact hkept r rfl rfl rfl rfl (command_unchanged (commandSeek_running i h))
  case badValue =>
    exact hkept r rfl rfl rfl rfl
      (command_unchanged ((commandSeek_idle (s := s.reserve p) i h).trans (if_pos hlength)))
  case seek =>
    exact hkept _ rfl rfl rfl rfl
      ((commandSeek_idle (s := s.reserve p) i h).trans (if_neg (Nat.not_lt.2 hlength)))

/-- Settles O23: the mode by its command, and the absence of a step by the reference that the levels already stand in. -/
theorem modeRenewsTheReference : Obligations.ModeRenewsTheReference := by
  refine ⟨fun s p tag c m hs => ⟨?unnamed, fun h => ?busy, fun h => ?renewed⟩, fun s c hl href => ?noStep⟩
  case unnamed =>
    exact congrArg Host.Outcome.next (counter_replied (r := .mode (some c) none) tag (x := s.counter c) hs rfl rfl rfl
      (command_unchanged rfl))
  case busy =>
    exact congrArg Host.Outcome.next (counter_replied (r := .mode (some c) (some m)) tag (x := s.counter c) hs rfl rfl rfl
      (command_unchanged (commandMode_busy m h)))
  case renewed =>
    exact congrArg Host.Outcome.next (counter_replied (r := .mode (some c) (some m)) tag hs rfl rfl rfl
      (commandMode_stopped (s := s.reserve p) m h))
  case noStep =>
    have hnone : stepOf (s.counter c).mode (s.counter c).ref (s.pin c).a (s.pin c).b (Config.bothRise s.fresh) = none := by
      rw [← href]
      exact stepOf_same _ _ _
    exact congrArg Host.Outcome.next ((levelAB_none hl hnone).trans (tookAB_same href))

/-! ### STATUS -/

theorem oneBased_eq_none {k n : Nat} : oneBased k n = none ↔ n = 0 ∨ k < n := by
  have hexists : (∃ i, oneBased k n = some i) ↔ 1 ≤ n ∧ n ≤ k := oneBased_exists
  rw [Option.eq_none_iff_forall_ne_some, ← not_exists, hexists]
  omega

theorem portView_reserve (s : State) (p n : Port) :
    (s.reserve p).portView n =
      { s.portView n with queued := s.queues[n].length + if n = p then 1 else 0 } := by
  have hqueued : (s.reserve p).queues[n].length = s.queues[n].length + if n = p then 1 else 0 := by
    simp only [State.reserve, setQueue_fields, get_put]
    split
    · rename_i h
      subst h
      simp
    · rfl
  rw [← hqueued]
  rfl

/-- Settles O53: each subject's owner reads, and answers with what it reads. -/
theorem statusReportsTheSubject : Obligations.StatusReportsTheSubject := by
  intro s p tag
  refine ⟨fun hs => ?status, fun hs => ⟨?port, ?notice, fun c => ?counter⟩⟩
  case port => exact congrArg Host.Outcome.next (request_refused (r := .unnamed .port) tag .badValue .nothing hs rfl)
  case notice => exact congrArg Host.Outcome.next (request_refused (r := .unnamed .notice) tag .badValue .nothing hs rfl)
  case counter =>
    exact congrArg Host.Outcome.next
      (request_refused (r := .unnamed (.counter (some c))) tag .badValue (s.counter c).data hs rfl)
  case status =>
    intro answers left
    have hread : ∀ {r : Request} {cmd : Instr} {f : State → Answer} {st : Status} {d : ReplyData},
        exec cmd s = .next (s.request p tag r) → requestRight r = .read → requestKind r = 0x58 → owner p r = reading f →
        f (s.reserve p) = Answer.with st d → answers cmd st d := by
      intro r cmd f st d hexec hright hkind howner hf
      have hanswer : owner p r (s.reserve p) = (s.reserve p, Answer.with st d) := by rw [howner, reading, hf]
      have h := request_refused tag st d (hright ▸ hs) hanswer
      rw [hkind] at h
      exact hexec.trans (congrArg Host.Outcome.next h)
    refine ⟨fun i => ?active, fun c => ?channel, fun n => ?portOf, fun c => ?counterOf, fun k => ?noticeOf, fun n hn => ?noRecord,
      fun n hn => ?noChannel, fun n hn => ?noPort, ?noCounter, fun n hn => ?noNotice, ?noSubject⟩
    case active => exact hread rfl rfl rfl rfl (by rw [statusActive, zeroBased_val]; rfl)
    case channel => exact hread rfl rfl rfl rfl (by rw [statusOfChannel, oneBased_val]; rfl)
    case portOf => exact hread rfl rfl rfl rfl (by rw [statusOfPort, zeroBased_val]; simp only [portView_reserve]; rfl)
    case counterOf => exact hread rfl rfl rfl rfl rfl
    case noticeOf => exact hread rfl rfl rfl rfl (by rw [statusOfNotice, oneBased_val]; rfl)
    case noRecord => exact hread rfl rfl rfl rfl (by rw [statusActive, zeroBased_eq_none.2 hn]; rfl)
    case noChannel => exact hread rfl rfl rfl rfl (by rw [statusOfChannel, oneBased_eq_none.2 hn]; rfl)
    case noPort => exact hread rfl rfl rfl rfl (by rw [statusOfPort, zeroBased_eq_none.2 hn]; rfl)
    case noCounter => exact hread rfl rfl rfl rfl rfl
    case noNotice => exact hread rfl rfl rfl rfl (by rw [statusOfNotice, oneBased_eq_none.2 hn]; rfl)
    case noSubject => exact congrArg Host.Outcome.next (request_refused (r := .unnamed .status) tag .badValue .nothing hs rfl)

end Sys2Proof.Machine
end

section
/-! Position matches (R87, R88): the entry at the current index, its request, and the advance of the index. -/

namespace Sys2Proof.Machine

/-! ### A sent record stays GOING -/

/-- A record of the list that is GOING, as every record of its slot is. -/
def StandsGoing (s : State) (x : ActiveCue) : Prop := x ∈ s.active ∧ ∀ y ∈ s.active, y.slot = x.slot → y.state = .going

theorem StandsGoing.of_active {s t : State} {x : ActiveCue} (h : StandsGoing s x) (active : t.active = s.active) :
    StandsGoing t x := by
  unfold StandsGoing
  rw [active]
  exact h

/-- A record of another slot may be replaced. -/
theorem StandsGoing.replaced {s t : State} {x r : ActiveCue} (h : StandsGoing s x) (hr : x.slot ≠ r.slot)
    (active : t.active = replaceCue s.active r) : StandsGoing t x := by
  obtain ⟨hx, hall⟩ := h
  unfold StandsGoing
  rw [active]
  refine ⟨mem_replaceCue_of_ne hx hr, fun y hy hslot => ?_⟩
  obtain ⟨z, hz, rfl⟩ := List.mem_map.1 hy
  split at hslot
  · exact absurd hslot.symm hr
  · rename_i hne
    rw [if_neg hne]
    exact hall z hz hslot

/-- A record of another slot may join. -/
theorem StandsGoing.joined {s t : State} {x r : ActiveCue} (h : StandsGoing s x) (hr : x.slot ≠ r.slot)
    (active : t.active = s.active ++ [r]) : StandsGoing t x := by
  obtain ⟨hx, hall⟩ := h
  unfold StandsGoing
  rw [active]
  refine ⟨List.mem_append_left _ hx, fun y hy hslot => ?_⟩
  rcases List.mem_append.1 hy with hy | hy
  · exact hall y hy hslot
  · rw [List.mem_singleton.1 hy] at hslot
    exact absurd hslot.symm hr

/-- R39: a record that a GO may take is of another slot. -/
theorem StandsGoing.ne_of_goTarget {s : State} {x y : ActiveCue} {slot : CueSlot} (h : StandsGoing s x)
    (hgo : s.goTarget slot = .ok y) : x.slot ≠ y.slot := by
  obtain ⟨hfind, hstate, -⟩ := goTarget_ok.1 hgo
  exact fun e => hstate (h.2 y (findCue_some hfind).1 e.symm)

/-- R17: a slot that no record has is another. -/
theorem StandsGoing.ne_of_absent {s : State} {x : ActiveCue} {slot : CueSlot} (h : StandsGoing s x)
    (hnew : s.findCue slot = none) : x.slot ≠ slot := findCue_none.1 hnew x h.1

theorem enterGoing_active (s : State) (r : ActiveCue) :
    (s.enterGoing r).active = replaceCue s.active (s.goingCue r) := by
  rw [State.enterGoing, changeCue_eq_told, told_active]
  rfl

/-- R40: a GO of another slot leaves a record that is GOING. -/
theorem StandsGoing.enterGoing {s : State} {x r : ActiveCue} {slot : CueSlot} (h : StandsGoing s x)
    (hgo : s.goTarget slot = .ok r) : StandsGoing (s.enterGoing r) x :=
  have hother : x.slot ≠ (s.goingCue r).slot := (h.ne_of_goTarget hgo :)
  h.replaced hother (enterGoing_active s r)

/-- R40: a record that a GO takes. -/
theorem enterGoing_stands {s : State} {r : ActiveCue} (hr : r ∈ s.active) :
    StandsGoing (s.enterGoing r) (s.goingCue r) := by
  unfold StandsGoing
  rw [enterGoing_active]
  refine ⟨mem_replaceCue ⟨r, hr, rfl⟩, fun y hy hslot => ?_⟩
  obtain ⟨z, hz, rfl⟩ := List.mem_map.1 hy
  split
  · rfl
  · rename_i hne
    rw [if_neg hne] at hslot
    exact absurd hslot hne

theorem linkStanding_stands {s : State} {x y : ActiveCue} {slot : CueSlot} (h : StandsGoing s x)
    (hfind : s.findCue slot = some y) (q : CueSlot) (d : Nat) : StandsGoing (s.linkStanding y q d) x := by
  have hput : ∀ z : ActiveCue, z.slot = y.slot → y.state ≠ .going → StandsGoing (s.putCue z) x := fun z hz hstate =>
    h.replaced (fun e => hstate (h.2 y (findCue_some hfind).1 (e.trans hz).symm)) (by rw [putCue_eq]; rfl)
  unfold State.linkStanding
  cases hy : y.state with
  | going => exact h.of_active (by simp)
  | standby | ready | held => exact hput _ rfl (by rw [hy]; exact nofun)

/-- R49–R53: a chain of sends leaves a record that is GOING. -/
theorem applyLink_stands {x : ActiveCue} :
    ∀ (n : Nat) (r : ActiveCue) (s : State), StandsGoing s x → StandsGoing (State.applyLink n r s) x
  | 0, _, _, h => h
  | n + 1, r, s, h => by
    have hrefused : ∀ slot st o, StandsGoing (s.refuseCue slot st o) x := fun _ _ _ => h.of_active (by simp)
    have hnew : ∀ {next : CueSlot} (o : Origin) (f : Option Time), s.standbyRefusal next = none →
        x.slot ≠ (s.newCue next o f).slot := fun o f hpasses => by
      obtain ⟨-, -, hnone, -⟩ := standbyRefusal_none hpasses
      rw [newCue_slot]
      exact h.ne_of_absent hnone
    unfold State.applyLink
    cases (s.cue r.slot).successor with
    | none => exact h
    | some link =>
      cases link with
      | standbyNext next =>
        simp only
        cases hpasses : s.standbyRefusal next with
        | some st => exact hrefused _ _ _
        | none => exact h.joined (hnew _ _ hpasses) (appendCue_active _ _)
      | autofollow next delay =>
        simp only
        cases hfind : s.findCue next with
        | some y =>
          simp only
          split
          · cases hgo : s.goTarget next with
            | error st => exact hrefused _ _ _
            | ok z => exact applyLink_stands n z _ (h.enterGoing hgo)
          · exact linkStanding_stands h hfind _ _
        | none =>
          simp only
          cases hpasses : s.standbyRefusal next with
          | some st => exact hrefused _ _ _
          | none =>
            simp only
            split
            · have hjoined : StandsGoing (s.joinList (s.newCue next (.follow r.slot) none)) x :=
                h.joined (hnew _ _ hpasses) rfl
              split
              · exact hjoined.of_active (by simp)
              · rename_i z hgo
                exact applyLink_stands n z _ ((hjoined.enterGoing hgo).of_active (by simp))
            · exact h.joined (hnew _ _ hpasses) (appendCue_active _ _)

/-- R40: a record taken by a GO is GOING once its chain has been sent. -/
theorem takeGo_stands {s : State} {slot : CueSlot} {r : ActiveCue} (hgo : s.goTarget slot = .ok r) :
    StandsGoing (s.takeGo r) (s.goingCue r) :=
  applyLink_stands _ _ _ (enterGoing_stands (findCue_some (goTarget_mem hgo)).1)

/-! ### The request of an entry -/

section
variable {s : State} {c : CounterId} {e : PositionEntry}

theorem sendPosition_standby_taken (haction : e.action = .standby) (hpasses : s.standbyRefusal e.slot = none) :
    s.sendPosition c e = s.appendCue (s.stoodBy e.slot (.position c) none) := by
  simp only [State.sendPosition, haction, State.standbyByPosition, hpasses, newCue_eq_stoodBy]

theorem sendPosition_standby_refused {st : Status} (haction : e.action = .standby)
    (hrefused : s.standbyRefusal e.slot = some st) :
    s.sendPosition c e = s.raise (.cueRefused e.slot st (.position c)) := by
  simp only [State.sendPosition, haction, State.standbyByPosition, hrefused]
  rfl

theorem sendPosition_go_taken {r : ActiveCue} (haction : e.action = .go) (hgo : s.goTarget e.slot = .ok r) :
    s.sendPosition c e = s.takeGo r := by
  simp only [State.sendPosition, haction, State.goByPosition, hgo]

theorem sendPosition_go_refused {st : Status} (haction : e.action = .go) (hrefused : s.goTarget e.slot = .error st) :
    s.sendPosition c e = s.raise (.cueRefused e.slot st (.position c)) := by
  simp only [State.sendPosition, haction, State.goByPosition, hrefused]
  rfl

theorem sendPosition_counter : (s.sendPosition c e).counter = s.counter :=
  (congrArg State.counter (sendPosition_sansCues s c e) :)

theorem sendPosition_listLength : (s.sendPosition c e).listLength = s.listLength :=
  listLength_congr (liveTables_congr (sendPosition_sansCues s c e))

end

/-! ### The advance of the index -/

theorem advance_counter (s : State) (c : CounterId) :
    (s.advance c).counter c =
      { s.counter c with
        index := (s.counter c).index + 1
        comparison := if (s.counter c).index + 1 = s.listLength c then .exhausted else (s.counter c).comparison } := by
  unfold State.advance
  split
  · rw [counter_of_sansMsgs (raise_sansMsgs _ _), counter_setCounter, if_pos rfl]
  · rw [counter_setCounter, if_pos rfl]

theorem advance_active (s : State) (c : CounterId) : (s.advance c).active = s.active := by
  unfold State.advance
  split <;> simp

/-- R88: POSITION_EXHAUSTED at the end of the list. -/
theorem advance_exhausted {s : State} {c : CounterId} (h : (s.counter c).index + 1 = s.listLength c) :
    (s.advance c).notices[(8 : NoticeKind)].detail = some (.positionExhausted c (s.listLength c)) := by
  rw [State.advance, if_pos h, raise_detail]
  rfl

/-- R88: the advance raises nothing but POSITION_EXHAUSTED. -/
theorem advance_detail (s : State) (c : CounterId) {k : NoticeKind} (hk : k ≠ 8) :
    (s.advance c).notices[k].detail = s.notices[k].detail := by
  unfold State.advance
  split
  · rw [raise_detail]
    exact if_neg hk
  · simp

/-! ### The test -/

/-- R87: the value and the direction that an entry names. -/
theorem matchesStep_iff (e : PositionEntry) (v : Int) (up : Bool) :
    e.matchesStep v up = true ↔
      e.target = v ∧ (e.direction = .either ∨ (e.direction = .up ∧ up = true) ∨ (e.direction = .down ∧ up = false)) := by
  unfold PositionEntry.matchesStep StepDirectionAccepts
  cases e.direction <;> simp

section
variable {s : State} {c : CounterId} {e : PositionEntry} {up : Bool} (hrunning : (s.counter c).comparison = .running)
  (hentry : (s.positionList c)[(s.counter c).index]? = some e) (hvalid : e.valid = true)
include hrunning hentry hvalid

theorem testPosition_match (h : e.matchesStep (s.counter c).value up = true) :
    s.testPosition c up = (s.sendPosition c e).advance c := by
  rw [State.testPosition, if_pos hrunning, hentry]
  exact if_pos (by rw [hvalid, h]; rfl)

theorem testPosition_mismatch (h : e.matchesStep (s.counter c).value up = false) : s.testPosition c up = s := by
  rw [State.testPosition, if_pos hrunning, hentry]
  exact if_neg (by rw [hvalid, h]; exact Bool.false_ne_true)

end

/-- Settles O19: the entry's request touches no counter and no list, and the advance that follows it no cue. -/
theorem matchingStepAdvancesTheComparison : Obligations.MatchingStepAdvancesTheComparison := by
  intro s c up e hrunning hentry hvalid
  refine ⟨fun hmatch => ?matched, fun hother => ?mismatch⟩
  case mismatch =>
    refine testPosition_mismatch hrunning hentry hvalid (Bool.eq_false_iff.2 fun h => ?_)
    obtain ⟨htarget, hdirection⟩ := (matchesStep_iff _ _ _).1 h
    rcases hother with hne | ⟨hdir, hup⟩ | ⟨hdir, hup⟩
    · exact hne htarget
    · simp [hdir, hup] at hdirection
    · simp [hdir, hup] at hdirection
  case matched =>
    rw [testPosition_match hrunning hentry hvalid ((matchesStep_iff _ _ _).2 hmatch)]
    have hlength : (s.sendPosition c e).listLength c = s.listLength c := congrFun sendPosition_listLength c
    have hcounter : (s.sendPosition c e).counter c = s.counter c := congrFun sendPosition_counter c
    have hrefused : ∀ st, s.sendPosition c e = s.raise (.cueRefused e.slot st (.position c)) →
        ((s.sendPosition c e).advance c).active = s.active
          ∧ ((s.sendPosition c e).advance c).notices[(7 : NoticeKind)].detail =
            some (.cueRefused e.slot st (.position c)) := fun st h => by
      rw [advance_active, advance_detail _ c (by decide), h, raise_detail]
      exact ⟨by simp, rfl⟩
    refine ⟨?counter, fun hend => ?exhausted, fun haction hpasses => ?standby, fun st haction hst => ?noStandby,
      fun r haction hgo => ?go, fun st haction hst => ?noGo⟩
    case counter => rw [advance_counter, hcounter, hlength, hrunning]
    case exhausted =>
      rw [← hlength]
      exact advance_exhausted (by rw [hcounter, hlength]; exact hend)
    case standby =>
      rw [advance_active, sendPosition_standby_taken haction hpasses, appendCue_active]
      exact ⟨_, List.mem_append_right _ (List.mem_singleton_self _), rfl, rfl⟩
    case noStandby => exact hrefused st (sendPosition_standby_refused haction hst)
    case go =>
      rw [advance_active, sendPosition_go_taken haction hgo]
      exact ⟨_, (takeGo_stands hgo).1, (findCue_some (goTarget_mem hgo)).2, rfl, rfl⟩
    case noGo => exact hrefused st (sendPosition_go_refused haction hst)

end Sys2Proof.Machine
end

section
/-! The tests of READ_ENTRY and WRITE_ENTRY in their order (R102, R103, R183). -/

namespace Sys2Proof.Machine

/-! ### Indices outside a table -/

/-- R189: an index that names no entry of Notice Control. -/
theorem noticePlace_eq_none {i : Nat} : noticePlace i = none ↔ 22 < i := by
  unfold noticePlace
  split
  · simp only [reduceCtorEq, false_iff]
    omega
  split
  · simp only [reduceCtorEq, false_iff]
    omega
  split
  · simp only [reduceCtorEq, false_iff]
    omega
  · simp only [true_iff]
    omega

/-- R183: an index passes a table's rule or fails it. -/
theorem isSome_eq_decide {α : Type} {o : Option α} {P Q : Prop} [Decidable Q] (h : o = none ↔ P) (hPQ : Q ↔ ¬P) :
    o.isSome = decide Q := by
  rw [Bool.eq_iff_iff, decide_eq_true_iff, Option.isSome_iff_ne_none, ne_eq, h, hPQ]

/-- R183: the table numbers are 1–8. -/
theorem tableOf_eq_none {n : Nat} (h : n = 0 ∨ 8 < n) : tableOf n = none := by
  match n, h with
  | 0, _ => rfl
  | n + 9, _ => rfl

/-! ### READ_ENTRY -/

section
variable {s : State} {p : Port} {cmd : Instr} {r : Request}

/-- R180: a READ_ENTRY whose owner refuses it changes nothing. -/
theorem read_refused (tag : Octet) {f : State → Answer} (st : Status) (hs : MaySend s p .read)
    (hc : requestOf cmd = some (p, tag, 0x20, r)) (ho : owner p r = reading f) (hf : f (s.reserve p) = Answer.bare st) :
    exec cmd s = .next (s.replied p (replyOf 0xA0 tag st .nothing)) := by
  obtain ⟨hk, he⟩ := exec_requestOf (s := s) hc
  have hr : requestRight r = .read := by rw [requestRight, hk]; rfl
  rw [he, request_refused tag st .nothing (hr ▸ hs) (by rw [ho, reading, hf]; rfl), hk]
  rfl

/-- R102: the bank of a READ_ENTRY is tested before its index. -/
theorem read_withoutBank (tag : Octet) {ι : Type} {index : Option ι} {entry : State → BankSel → ι → ReplyData}
    (hs : MaySend s p .read) (hc : requestOf cmd = some (p, tag, 0x20, r))
    (ho : owner p r = reading fun t => readEntry none index (entry t)) :
    exec cmd s = .next (s.replied p (replyOf 0xA0 tag .badValue .nothing)) :=
  read_refused tag .badValue hs hc ho rfl

/-- R102: a READ_ENTRY of a named bank outside the table. -/
theorem read_outside (tag : Octet) {ι : Type} {b : BankSel} {index : Option ι} {entry : State → BankSel → ι → ReplyData}
    (hs : MaySend s p .read) (hc : requestOf cmd = some (p, tag, 0x20, r))
    (ho : owner p r = reading fun t => readEntry (some b) index (entry t)) (hi : index = none) :
    exec cmd s = .next (s.replied p (replyOf 0xA0 tag .badIndex .nothing)) :=
  read_refused tag .badIndex hs hc ho (by rw [hi]; rfl)

/-! ### WRITE_ENTRY -/

/-- R103: a WRITE_ENTRY outside the table, of a table whose write is an index, a check and a replacement. -/
theorem write_outside (tag : Octet) {ι α : Type} {index : Option ι} {check : ι → Option α} {store : State → ι → α → State}
    (hs : MaySend s p .write) (hc : requestOf cmd = some (p, tag, 0x21, r))
    (ho : ∀ t, owner p r t = writeEntry index check (store t) t) (hi : index = none) :
    exec cmd s = .next (s.replied p (replyOf 0xA1 tag .badIndex .nothing)) :=
  write_replied tag hs hc (by rw [ho, hi]; rfl)

end

/-- R183: an entry that has not the length its table's entry takes is refused by its index, and else by its length. -/
theorem misfit_replied {s : State} {p : Port} (tag : Octet) (table : Table) (i : Nat) {Q : Prop} [Decidable Q]
    (hs : MaySend s p .write) (h : tableHasIndex i table = decide Q) :
    s.request p tag (.misfitEntry table i) =
      s.replied p (replyOf 0xA1 tag (if Q then .badValue else .badIndex) .nothing) := by
  have hanswer : owner p (.misfitEntry table i) (s.reserve p) =
      (s.reserve p, Answer.with (if Q then .badValue else .badIndex) .nothing) := by
    simp only [owner, misfitWrite, h, decide_eq_true_eq]
    rfl
  exact request_refused tag _ .nothing hs hanswer

/-! ### Table numbers -/

/-- R183: the request of a table number outside 1–8. -/
theorem requestOf_badTable (p : Port) (tag : Octet) (isWrite : Bool) {n : Nat} (h : n = 0 ∨ 8 < n) :
    requestOf (.badTable p tag isWrite n) = some (p, tag, if isWrite then 0x21 else 0x20, .badTable isWrite) :=
  if_neg (by omega)

/-- R183: the table number is tested first. -/
theorem exec_badTable (s : State) (p : Port) (tag : Octet) (isWrite : Bool) {n : Nat} (h : n = 0 ∨ 8 < n) :
    exec (.badTable p tag isWrite n) s = .next (s.request p tag (.badTable isWrite)) :=
  (exec_requestOf (requestOf_badTable p tag isWrite h)).2

theorem readRequest_badTable (b : Named BankSel) (i : Nat) {n : Nat} (h : n = 0 ∨ 8 < n) :
    readRequest n b i = .badTable false := by
  rw [readRequest, tableOf_eq_none h]

theorem writeRequest_badTable (i : Nat) (entry : List Octet) {n : Nat} (h : n = 0 ∨ 8 < n) :
    writeRequest n i entry = .badTable true := by
  rw [writeRequest, tableOf_eq_none h]

/-- Settles O43: each table's owner tests by its own index rule, and the number names the table's own request. -/
theorem tableTestsInOrder : Obligations.TableTestsInOrder := by
  refine ⟨fun s p tag b i => ⟨fun hs => ?reads, fun hs => ?writes⟩, fun s p tag b i => ?readNumbers,
    fun s p tag i entry => ?writeNumbers⟩
  case reads =>
    refine ⟨read_withoutBank tag hs rfl rfl, read_withoutBank tag hs rfl rfl, read_withoutBank tag hs rfl rfl,
      read_withoutBank tag hs rfl rfl, read_withoutBank tag hs rfl rfl, read_withoutBank tag hs rfl rfl,
      read_withoutBank tag hs rfl rfl, read_withoutBank tag hs rfl rfl, fun h => ?cue, fun h => ?group, fun h => ?position,
      fun h => ?zone, fun h => ?profile, fun h => ?channel, fun h => ?notice, fun h => ?router, fun h => ?badTable⟩
    case cue | position | profile => exact read_outside tag hs rfl rfl (zeroBased_eq_none.2 h)
    case group | zone | channel => exact read_outside tag hs rfl rfl (oneBased_eq_none.2 h)
    case notice => exact read_outside tag hs rfl rfl (noticePlace_eq_none.2 h)
    case router => exact read_outside tag hs rfl rfl (zeroBased_eq_none.2 (Nat.pos_of_ne_zero h))
    case badTable => exact read_refused tag .badTable hs (requestOf_badTable p tag false h) rfl rfl
  case writes =>
    refine ⟨fun w h => ?cue, fun w h => ?group, fun w h => ?position, fun w h => ?zone, fun w h => ?profile,
      fun w h => ?channel, fun w h => ?notice, fun w h => ?router, fun h => ?badTable, ?_⟩
    case cue | position => exact write_outside tag hs rfl (fun _ => rfl) (zeroBased_eq_none.2 h)
    case group | zone | channel => exact write_outside tag hs rfl (fun _ => rfl) (oneBased_eq_none.2 h)
    case router => exact write_outside tag hs rfl (fun _ => rfl) (zeroBased_eq_none.2 (Nat.pos_of_ne_zero h))
    case profile => exact write_replied tag hs rfl (by simp only [owner, writeProfileRequest, zeroBased_eq_none.2 h])
    case notice => exact write_replied tag hs rfl (by simp only [owner, writeNoticeRequest, noticePlace_eq_none.2 h])
    case badTable => exact write_replied tag hs (requestOf_badTable p tag true h) rfl
    refine ⟨misfit_replied tag _ i hs ?cue, misfit_replied tag _ i hs ?group, misfit_replied tag _ i hs ?position,
      misfit_replied tag _ i hs ?zone, misfit_replied tag _ i hs ?profile, misfit_replied tag _ i hs ?channel,
      misfit_replied tag _ i hs ?notice, misfit_replied tag _ i hs ?router⟩
    case cue | position | profile | router => exact isSome_eq_decide zeroBased_eq_none (by omega)
    case group | zone | channel => exact isSome_eq_decide oneBased_eq_none (by omega)
    case notice => exact isSome_eq_decide noticePlace_eq_none (by omega)
  case readNumbers =>
    refine ⟨rfl, rfl, rfl, rfl, rfl, rfl, rfl, rfl, fun n hn => ?_⟩
    exact (congrArg (fun r => Host.Outcome.next (s.request p tag r)) (readRequest_badTable b i hn)).trans
      (exec_badTable s p tag false hn).symm
  case writeNumbers =>
    intro misfit writes
    refine ⟨?cue, ?group, ?position, ?zone, ?profile, ?channel, ?notice, ?router, fun n hn => ?badTable⟩
    case' cue | group | position | zone | profile | channel | notice | router =>
      simp only [writes, misfit, writeRequest, tableOf, writeOf]
    case cue => cases Config.cueEntry entry <;> rfl
    case group => cases Config.groupEntry entry <;> rfl
    case position => cases Config.positionEntry entry <;> rfl
    case zone => cases Config.zoneEntry entry <;> rfl
    case profile => cases Config.profileEntry entry <;> rfl
    case channel => cases Config.channelEntry entry <;> rfl
    case notice => cases Config.noticeEntry i entry <;> rfl
    case router => cases Config.routerEntry entry <;> rfl
    case badTable =>
      exact (congrArg (fun r => Host.Outcome.next (s.request p tag r)) (writeRequest_badTable i entry hn)).trans
        (exec_badTable s p tag true hn).symm

end Sys2Proof.Machine
end

section
/-! COPY_LIVE_TO_EDIT and CANCEL_SWAP (R104, R107). -/

namespace Sys2Proof.Machine

/-- R104: the edit bank's tables replaced by the live bank's: both banks hold the live bank's. -/
theorem copyLive_eq (s : State) : s.copyLive = { s with bankA := s.bank s.live, bankB := s.bank s.live } := by
  unfold State.copyLive State.setEdit State.liveTables
  cases h : s.live <;> simp only [State.bank]

/-- R104: while a swap is pending the edit bank stands. -/
theorem copyRequest_pending {s : State} (h : s.swapPending = true) : copyRequest s = (s, Answer.bare .swapPending) :=
  if_pos h

/-- R104: a copy is answered with the live bank, no swap pending. -/
theorem copyRequest_copies {s : State} (h : s.swapPending = false) :
    copyRequest s =
      ({ s with bankA := s.bank s.live, bankB := s.bank s.live }, Answer.with .ok (.bank s.live false)) := by
  rw [copyRequest, h, if_neg Bool.false_ne_true, copyLive_eq, ← h]
  rfl

/-- Settles O48: the owner answers as `copyRequest_pending` and `copyRequest_copies` say. -/
theorem copyReplacesTheEditBank : Obligations.CopyReplacesTheEditBank := by
  refine fun s p tag hs => ⟨fun h => ?pending, fun h => ?copies⟩
  case pending =>
    exact congrArg Host.Outcome.next (request_refused (r := .copyLiveToEdit) tag .swapPending .nothing hs
      (copyRequest_pending (s := s.reserve p) h))
  case copies =>
    exact congrArg Host.Outcome.next (request_replied (r := .copyLiveToEdit) tag
      { s with bankA := s.bank s.live, bankB := s.bank s.live } .ok (.bank s.live false) hs
      (copyRequest_copies (s := s.reserve p) h))

/-- R107: there is nothing to cancel. -/
theorem cancelSwapRequest_idle {s : State} (h : s.swapPending = false) :
    cancelSwapRequest s = (s, Answer.with .notPending (.bank s.live false)) := by
  rw [cancelSwapRequest, h, if_neg Bool.false_ne_true, ← h]
  rfl

/-- R107: the flag clears, and the reply carries the live bank. -/
theorem cancelSwapRequest_clears {s : State} (h : s.swapPending = true) :
    cancelSwapRequest s = ({ s with swapPending := false }, Answer.with .ok (.bank s.live false)) := if_pos h

/-- Settles O49: the owner answers as `cancelSwapRequest_idle` and `cancelSwapRequest_clears` say. -/
theorem cancelSwapClearsTheFlag : Obligations.CancelSwapClearsTheFlag := by
  refine fun s p tag hs => ⟨fun h => ?idle, fun h => ?clears⟩
  case idle =>
    exact congrArg Host.Outcome.next (request_refused (r := .cancelSwap) tag .notPending (.bank s.live false) hs
      (cancelSwapRequest_idle (s := s.reserve p) h))
  case clears =>
    exact congrArg Host.Outcome.next (request_replied (r := .cancelSwap) tag { s with swapPending := false } .ok
      (.bank s.live false) hs (cancelSwapRequest_clears (s := s.reserve p) h))

end Sys2Proof.Machine
end

section
/-! SUPPORT. What leaves the banked tables and the selector as they stand (R101, R103): the Cue Engine, the counters, the
single tables and the loader. -/

namespace Sys2Proof.Machine

/-- R101: the tables of both banks and the selector stand. -/
@[simp] abbrev BanksStand (s t : State) : Prop := t.bankA = s.bankA ∧ t.bankB = s.bankB ∧ t.live = s.live

namespace BanksStand

theorem refl (s : State) : BanksStand s s := ⟨rfl, rfl, rfl⟩

theorem trans {s t u : State} (first : BanksStand s t) (next : BanksStand t u) : BanksStand s u := by
  obtain ⟨hA, hB, hlive⟩ := first
  obtain ⟨hA', hB', hlive'⟩ := next
  exact ⟨hA'.trans hA, hB'.trans hB, hlive'.trans hlive⟩

theorem foldl {β : Type} {f : State → β → State} (h : ∀ t x, BanksStand t (f t x)) :
    ∀ (l : List β) (s : State), BanksStand s (l.foldl f s)
  | [], s => refl s
  | x :: l, s => (h s x).trans (foldl h l (f s x))

end BanksStand

/-! ### The Cue Engine -/

@[simp] theorem standbyRequest_banks (p : Port) (slot : CueSlot) (s : State) :
    BanksStand s (standbyRequest p slot s).1 := by
  unfold standbyRequest
  split <;> simp

@[simp] theorem goRequest_banks (slot : CueSlot) (s : State) : BanksStand s (goRequest slot s).1 := by
  unfold goRequest
  split <;> simp

@[simp] theorem goNextRequest_banks (s : State) : BanksStand s (goNextRequest s).1 := by
  unfold goNextRequest
  split
  · exact .refl s
  · split <;> simp

@[simp] theorem holdRequest_banks (slot : CueSlot) (s : State) : BanksStand s (holdRequest slot s).1 := by
  unfold holdRequest
  split <;> simp

@[simp] theorem releaseRequest_banks (slot : CueSlot) (s : State) : BanksStand s (releaseRequest slot s).1 := by
  unfold releaseRequest
  split <;> simp

/-- Records changed one after the other. -/
theorem changeCues_banks (f : State → ActiveCue → ActiveCue) (l : List ActiveCue) (s : State) :
    BanksStand s (l.foldl (fun t r => t.changeCue (f t r)) s) :=
  .foldl (fun t r => by simp) l s

@[simp] theorem holdAllRequest_banks (s : State) : BanksStand s (holdAllRequest s).1 := by
  unfold holdAllRequest
  split
  · exact changeCues_banks (fun t r => t.heldCue r) _ s
  · split <;> [skip; split] <;> exact .refl s

@[simp] theorem releaseAllRequest_banks (s : State) : BanksStand s (releaseAllRequest s).1 := by
  unfold releaseAllRequest
  split
  · exact changeCues_banks (fun t r => t.releasedCue r) _ s
  · split <;> exact .refl s

/-! ### The counters -/

@[simp] theorem advance_banks (s : State) (c : CounterId) : BanksStand s (s.advance c) := by
  unfold State.advance
  split <;> simp

@[simp] theorem testPosition_banks (s : State) (c : CounterId) (up : Bool) : BanksStand s (s.testPosition c up) := by
  unfold State.testPosition
  split
  · split
    · split <;> simp
    · exact .refl s
  · exact .refl s

@[simp] theorem applyStep_banks (s : State) (c : CounterId) (up : Bool) : BanksStand s (s.applyStep c up) := by
  unfold State.applyStep
  split
  · exact .refl s
  · split <;> simp [State.overrange]

@[simp] theorem applyIndex_banks (s : State) (c : CounterId) : BanksStand s (s.applyIndex c) := by
  unfold State.applyIndex
  split <;> simp [State.jumpTo]

@[simp] theorem levelAB_banks (s : State) (c : CounterId) (a b : Bool) : BanksStand s (s.levelAB c a b) := by
  unfold State.levelAB
  simp only
  split
  · split <;> simp [State.takeAB]
  · simp

@[simp] theorem levelZ_banks (s : State) (c : CounterId) (z : Bool) : BanksStand s (s.levelZ c z) := by
  unfold State.levelZ
  simp only
  split
  · split <;> simp [State.takeZ]
  · simp

@[simp] theorem changeLevel_banks (s : State) (c : CounterId) (l : LevelChange) : BanksStand s (s.changeLevel c l) := by
  cases l with
  | ab a b => exact levelAB_banks s c a b
  | z level => exact levelZ_banks s c level
  | pins a b z => exact .refl s

theorem counterControl_banks {command : CounterId → State → State × Status}
    (h : ∀ c s, BanksStand s (command c s).1) (c : Named CounterId) (s : State) :
    BanksStand s (counterControl c command s).1 := by
  cases c with
  | none => exact .refl s
  | some x => exact h x s

theorem commandSet_banks (v : Int) (c : CounterId) (s : State) : BanksStand s (commandSet v c s).1 := by
  unfold commandSet
  split <;> simp [State.jumpTo]

theorem commandPreset_banks (v : Int) (c : CounterId) (s : State) : BanksStand s (commandPreset v c s).1 := by
  unfold commandPreset
  split <;> simp

theorem commandArm_banks (arm : Bool) (c : CounterId) (s : State) : BanksStand s (commandArm arm c s).1 := by
  simp [commandArm]

theorem commandStart_banks (c : CounterId) (s : State) : BanksStand s (commandStart c s).1 := by
  unfold commandStart
  split
  · exact .refl s
  · split <;> simp

theorem commandStop_banks (c : CounterId) (s : State) : BanksStand s (commandStop c s).1 := by
  simp [commandStop]

theorem commandSeek_banks (i : Nat) (c : CounterId) (s : State) : BanksStand s (commandSeek i c s).1 := by
  unfold commandSeek
  split
  · exact .refl s
  · split <;> simp

theorem commandMode_banks (m : Named CountMode) (c : CounterId) (s : State) : BanksStand s (commandMode m c s).1 := by
  unfold commandMode
  split
  · exact .refl s
  · split <;> simp

theorem counterMisfit_banks (c : Named CounterId) (s : State) : BanksStand s (counterMisfit c s).1 := by
  cases c with
  | none | some x => exact .refl s

/-! ### The single tables -/

@[simp] theorem storeChannel_banks (s : State) (c : Chan) (e : ChannelEntry) : BanksStand s (s.storeChannel c e) := by
  unfold State.storeChannel
  simp only
  split <;> simp

theorem writeEntry_banks {ι α : Type} {index : Option ι} {entry : ι → Option α} {store : ι → α → State} {s : State}
    (h : ∀ i x, BanksStand s (store i x)) : BanksStand s (writeEntry index entry store s).1 := by
  unfold writeEntry
  split
  · exact .refl s
  · split
    · exact .refl s
    · exact h _ _

theorem writeNoticeRequest_banks (index : Nat) (w : NoticeEntryWrite) (s : State) :
    BanksStand s (writeNoticeRequest index w s).1 := by
  unfold writeNoticeRequest
  split
  · exact .refl s
  · split <;> simp

theorem noticeHoldRequest_banks (x : Option Nat) (s : State) : BanksStand s (noticeHoldRequest x s).1 := by
  unfold noticeHoldRequest
  split
  · exact .refl s
  · split <;> simp

theorem noticeUnholdRequest_banks (x : Option Nat) (s : State) : BanksStand s (noticeUnholdRequest x s).1 := by
  unfold noticeUnholdRequest
  split
  · exact .refl s
  · split <;> simp

theorem noticeClearRequest_banks (x : Option Nat) (s : State) : BanksStand s (noticeClearRequest x s).1 := by
  unfold noticeClearRequest
  split
  · exact .refl s
  · split <;> simp

theorem laneCommand_banks {command : Lane → State → State × Answer} (h : ∀ l s, BanksStand s (command l s).1)
    (x : Option Nat) (s : State) : BanksStand s (laneCommand x command s).1 := by
  unfold laneCommand
  split
  · exact .refl s
  · split
    · exact .refl s
    · exact h _ s

theorem commandOpen_banks (l : Lane) (s : State) : BanksStand s (commandOpen l s).1 := by
  unfold commandOpen
  split <;> simp [State.setOpen]

theorem commandClose_banks (l : Lane) (s : State) : BanksStand s (commandClose l s).1 := by
  unfold commandClose
  split <;> simp [State.setOpen]

/-! ### The loader -/

@[simp] theorem endSave_banks (s : State) (ok : Bool) : BanksStand s (s.endSave ok) := by
  simp [State.endSave]

@[simp] theorem saveRequest_banks (s : State) : BanksStand s (saveRequest s).1 := by
  unfold saveRequest
  split
  · unfold State.beginSave
    split <;> simp
  · exact .refl s

theorem saveStep_banks {event : State → Save → State} (h : ∀ s x, BanksStand s (event s x)) (s : State) :
    BanksStand s (s.saveStep event) := by
  unfold State.saveStep
  split
  · split
    · exact h _ _
    · exact .refl s
  · exact .refl s

@[simp] theorem completeSave_banks (s : State) (x : Save) : BanksStand s (s.completeSave x) := by
  simp [State.completeSave]

theorem writeFailed_banks (s : State) (x : Save) : BanksStand s (s.writeFailed x) := by
  simp [State.writeFailed]

theorem writeAnswered_banks (s : State) (x : Save) : BanksStand s (s.writeAnswered x) := by
  unfold State.writeAnswered
  split <;> simp

theorem saveAtMarker_banks (s : State) : BanksStand s s.saveAtMarker :=
  saveStep_banks (fun t x => by split <;> simp) s

/-- R111: a RESTART keeps both banks and the selector. -/
@[simp] theorem restart_banks (s : State) : BanksStand s s.restart := by
  unfold State.restart
  rw [abandonSave_eq]
  simp [State.emptied]

theorem restartRequest_banks (p : Port) (s : State) : BanksStand s (restartRequest p s).1 := by
  unfold restartRequest
  split <;> exact .refl s

end Sys2Proof.Machine
end

section
/-! SUPPORT. As the section before it, for the ports and the frames but a message that completes. -/

namespace Sys2Proof.Machine

/-! ### The ports -/

@[simp] theorem orphanRestart_banks (s : State) (p : Port) : BanksStand s (s.orphanRestart p) := by
  unfold State.orphanRestart
  split
  · exact restart_banks s
  · exact .refl s

/-- R154, R158, R163: a fall, of a present port or of another. -/
@[simp] theorem fall_banks (s : State) (p : Port) (target : PortState) (cause : Option DownCause) :
    BanksStand s (s.fall p target cause) := by
  unfold State.fall
  split <;> simp [State.clearPort, State.leavePresence]

@[simp] theorem carryOut_banks (s : State) (p : Port) : BanksStand s (s.carryOut p) := by
  unfold State.carryOut
  split <;> simp

theorem takeIdent_banks (s : State) (p : Port) (tag cls keyCount : Octet) (serial : BitVec 32) (keys : Keys) :
    BanksStand s (s.takeIdent p tag cls keyCount serial keys) := by
  unfold State.takeIdent
  split
  · exact .refl s
  · unfold State.judgeIdent State.enterUp State.enterFault
    split <;> simp

theorem askExpiry_banks (s : State) (p : Port) : BanksStand s (s.askExpiry p) := by
  unfold State.askExpiry
  split
  · unfold State.askExpired State.enterFault
    split <;> simp
  · exact .refl s

/-- R167: the reply about a port leaves the state. -/
@[simp] theorem portAnswer_state (s : State) (n : Port) (w : Waits) : (s.portAnswer n w).1 = s := rfl

theorem portControl_banks {command : Port → State → State × Answer} (h : ∀ n s, BanksStand s (command n s).1)
    (n : Nat) (s : State) : BanksStand s (portControl n command s).1 := by
  unfold portControl
  split
  · exact .refl s
  · exact h _ s

theorem commandEnable_banks (n : Port) (s : State) : BanksStand s (commandEnable n s).1 := by
  unfold commandEnable
  split <;> simp [State.setEnabled, State.wake]

theorem commandDisable_banks (p n : Port) (s : State) : BanksStand s (commandDisable p n s).1 := by
  unfold commandDisable
  split
  · exact .refl s
  · split <;> simp [State.setEnabled, State.defer]

theorem commandQuiet_banks (n : Port) (s : State) : BanksStand s (commandQuiet n s).1 := by
  unfold commandQuiet
  split <;> simp

theorem commandUnquiet_banks (n : Port) (s : State) : BanksStand s (commandUnquiet n s).1 := by
  unfold commandUnquiet
  split <;> simp

theorem commandRestart_banks (p n : Port) (s : State) : BanksStand s (commandRestart p n s).1 := by
  unfold commandRestart
  split
  · exact .refl s
  · split
    · split <;> simp [State.defer]
    · simp

@[simp] theorem rewriteSlots_banks (s : State) (n : Port) (old new : Vector SlotConfig 4) :
    BanksStand s (s.rewriteSlots n old new) :=
  .foldl (fun t k => by simp) allSlots s

theorem storeProfile_banks (s : State) (p n : Port) (f : Profile) : BanksStand s (s.storeProfile p n f).1 := by
  have hwritten : BanksStand s ((s.setProfile n f).rewriteSlots n s.profiles[n].slots f.slots) := by simp
  unfold State.storeProfile
  generalize (s.setProfile n f).rewriteSlots n s.profiles[n].slots f.slots = t at hwritten ⊢
  refine hwritten.trans ?_
  simp only
  split
  · exact .refl t
  split
  · unfold State.reenable
    split
    · simp [State.wake]
    · split <;> simp [State.defer]
  split
  · exact .refl t
  split <;> simp [State.defer]

theorem writeProfileRequest_banks (p : Port) (index : Nat) (w : ProfileWrite) (s : State) :
    BanksStand s (writeProfileRequest p index w s).1 := by
  unfold writeProfileRequest
  split
  · exact .refl s
  split
  · exact .refl s
  split
  · exact storeProfile_banks s p _ _
  · exact .refl s

/-! ### The frames -/

theorem takeMissing_banks (s : State) (p : Port) : BanksStand s (s.takeMissing p) := by
  unfold State.takeMissing
  simp only
  split
  · exact .refl s
  · simp
  · split <;> simp [State.lineLost]

theorem frameMissed_banks (s : State) (p : Port) : BanksStand s (s.frameMissed p) := by
  unfold State.frameMissed
  split
  · exact takeMissing_banks s p
  · exact .refl s

theorem linkLossEvent_banks (s : State) (p : Port) : BanksStand s (s.linkLossEvent p) := by
  unfold State.linkLossEvent
  split
  · exact takeMissing_banks s p
  · exact .refl s

@[simp] theorem askSent_banks (s : State) (p : Port) (e : TxEntry) : BanksStand s (s.askSent p e) := by
  unfold State.askSent
  split
  · split <;> simp
  · exact .refl s

@[simp] theorem replyGone_banks (s : State) (p : Port) (w : Waits) : BanksStand s (s.replyGone p w) := by
  cases w with
  | nothing => exact .refl s
  | deferred => exact carryOut_banks s p
  | restart => exact restart_banks s

@[simp] theorem octetSent_banks (s : State) (p : Port) : BanksStand s (s.octetSent p) := by
  unfold State.octetSent
  split
  · exact .refl s
  · split <;> simp

theorem downstream_banks (s : State) (p : Port) : BanksStand s (s.downstream p) := by
  unfold State.downstream State.sendFrame
  split
  · split <;> simp
  · exact .refl s

theorem deferredEvent_banks (s : State) (p : Port) : BanksStand s (s.deferredEvent p) := by
  unfold State.deferredEvent
  split
  · exact carryOut_banks s p
  · exact .refl s

theorem restartEvent_banks (s : State) : BanksStand s s.restartEvent := by
  unfold State.restartEvent
  split
  · exact .refl s
  · split
    · exact restart_banks s
    · exact .refl s

theorem unknownMessage_banks (s : State) (p : Port) (tag kind : Octet) : BanksStand s (s.unknownMessage p tag kind) := by
  unfold State.unknownMessage
  split <;> simp

end Sys2Proof.Machine
end

section
/-! The live bank's tables change only at swap completion and at power-on loading (R101, R103, R105, R108). -/

namespace Sys2Proof.Machine

/-! ### The two ways the live tables may go -/

/-- R101: the selector and the tables of the live bank stand. -/
def LiveStands (s t : State) : Prop := t.live = s.live ∧ t.bank t.live = s.bank s.live

/-- R105, R108, R109: a swap has completed over an empty list: the other bank serves as it stood. -/
def SwapDone (s t : State) : Prop :=
  t.live = s.live.other ∧ t.swapPending = false ∧ t.bank t.live = s.bank s.live.other ∧ t.active = []
    ∧ (s.active = [] ∨ s.swapPending = true)

/-- R101: what a command of a running part may do to the live tables. -/
def LiveChange (s t : State) : Prop := LiveStands s t ∨ SwapDone s t

theorem bank_of_banks {s t : State} (hA : t.bankA = s.bankA) (hB : t.bankB = s.bankB) (x : Bank) :
    t.bank x = s.bank x := by
  cases x with
  | a => exact hA
  | b => exact hB

theorem BanksStand.liveStands {s t : State} (h : BanksStand s t) : LiveStands s t := by
  obtain ⟨hA, hB, hlive⟩ := h
  exact ⟨hlive, by rw [hlive, bank_of_banks hA hB]⟩

theorem BanksStand.liveChange {s t : State} (h : BanksStand s t) : LiveChange s t := .inl h.liveStands

/-- A change of the live tables is read from the state without its messages. -/
theorem LiveChange.of_sansMsgs {s s' t t' : State} (hs : s'.sansMsgs = s.sansMsgs) (ht : t'.sansMsgs = t.sansMsgs)
    (h : LiveChange s t) : LiveChange s' t' := by
  have hbare : LiveChange s.sansMsgs t.sansMsgs := h
  rw [← hs, ← ht] at hbare
  exact hbare

theorem LiveStands.of_sansMsgs {s s' t t' : State} (hs : s'.sansMsgs = s.sansMsgs) (ht : t'.sansMsgs = t.sansMsgs)
    (h : LiveStands s t) : LiveStands s' t' := by
  have hbare : LiveStands s.sansMsgs t.sansMsgs := h
  rw [← hs, ← ht] at hbare
  exact hbare

/-- A swap that completes behind a change that leaves the banks. -/
theorem SwapDone.of_banks {s t u : State} (banks : BanksStand s t) (done : SwapDone t u)
    (cause : s.active = [] ∨ s.swapPending = true) : SwapDone s u := by
  obtain ⟨hA, hB, hlive⟩ := banks
  obtain ⟨hmoved, hclear, htables, hactive, -⟩ := done
  exact ⟨by rw [hmoved, hlive], hclear, by rw [htables, hlive, bank_of_banks hA hB], hactive, cause⟩

/-- A swap that has completed, ahead of a change that leaves the banks, the flag and the empty list. -/
theorem SwapDone.then_banks {s t u : State} (done : SwapDone s t) (banks : BanksStand t u)
    (swap : u.swapPending = t.swapPending) (list : t.active = [] → u.active = []) : SwapDone s u := by
  obtain ⟨hA, hB, hlive⟩ := banks
  obtain ⟨hmoved, hclear, htables, hactive, hcause⟩ := done
  exact ⟨hlive.trans hmoved, swap.trans hclear, by rw [bank_of_banks hA hB, hlive, htables], list hactive, hcause⟩

/-! ### Swaps -/

/-- R109: the completion of a swap over an empty list. -/
theorem completeSwap_done {s : State} (x : SwapCause) (hactive : s.active = []) : SwapDone s (s.completeSwap x) := by
  obtain ⟨hlist, hswap, -⟩ := completeSwap_list s x
  have hlive : (s.completeSwap x).live = s.live.other := by
    have hdata := completeSwap_bankData s x
    unfold State.bankData at hdata
    exact (ReplyData.bank.inj hdata).1
  exact ⟨hlive, hswap, by rw [hlive, bank_of_banks (s := s) (by simp) (by simp)], hlist.trans hactive, .inl hactive⟩

/-- R105: SWAP. -/
theorem swapRequest_liveChange (s : State) : LiveChange s (swapRequest s).1 := by
  unfold swapRequest
  split
  · exact (BanksStand.refl s).liveChange
  · split
    · rename_i hempty
      simp only [State.bankAnswer]
      exact .inr (completeSwap_done .request (List.isEmpty_iff.1 hempty))
    · exact BanksStand.liveChange ⟨rfl, rfl, rfl⟩

/-- R48: what a removal that completes no swap leaves. -/
def RemovedOnly (s t : State) : Prop :=
  BanksStand s t ∧ t.swapPending = s.swapPending ∧ (s.active = [] → t.active = [])

/-- R48, R108: a removal completes a pending swap when it empties the list, and else is a removal only. -/
theorem removeCue_cases (s : State) (r : ActiveCue) (x : DeskState) :
    RemovedOnly s (s.removeCue r x) ∨ (SwapDone s (s.removeCue r x) ∧ s.swapPending = true) := by
  have hremoved : RemovedOnly s ((s.dropCue r.slot).deskStatus (s.deskBody r x)) :=
    ⟨by simp [State.dropCue], by simp [State.dropCue], fun h => by simp [State.dropCue, h]⟩
  unfold State.removeCue
  generalize (s.dropCue r.slot).deskStatus (s.deskBody r x) = u at hremoved ⊢
  unfold State.listEmptied
  split
  · rename_i hempties
    obtain ⟨hactive, hpending⟩ := Bool.and_eq_true_iff.1 hempties
    obtain ⟨hbanks, hswap, -⟩ := hremoved
    have hstood : s.swapPending = true := hswap.symm.trans hpending
    exact .inr ⟨(completeSwap_done .drain (List.isEmpty_iff.1 hactive)).of_banks hbanks (.inr hstood), hstood⟩
  · exact .inl hremoved

/-- R58, R108: removals one after the other. -/
theorem removeCues_cases (x : DeskState) : ∀ (l : List ActiveCue) (s : State),
    RemovedOnly s (l.foldl (fun t r => t.removeCue r x) s)
      ∨ (SwapDone s (l.foldl (fun t r => t.removeCue r x) s) ∧ s.swapPending = true)
  | [], s => .inl ⟨.refl s, rfl, id⟩
  | r :: l, s => by
    rw [List.foldl_cons]
    have hrest := removeCues_cases x l (s.removeCue r x)
    generalize l.foldl (fun t r => t.removeCue r x) (s.removeCue r x) = t at hrest ⊢
    rcases removeCue_cases s r x with ⟨hbanks, hswap, hempty⟩ | ⟨hdone, hpending⟩
    · rcases hrest with ⟨hbanks', hswap', hempty'⟩ | ⟨hdone, hpending⟩
      · exact .inl ⟨hbanks.trans hbanks', hswap'.trans hswap, hempty' ∘ hempty⟩
      · have hstood : s.swapPending = true := hswap.symm.trans hpending
        exact .inr ⟨hdone.of_banks hbanks (.inr hstood), hstood⟩
    · rcases hrest with ⟨hbanks, hswap, hempty⟩ | ⟨-, hpending'⟩
      · exact .inr ⟨hdone.then_banks hbanks hswap hempty, hpending⟩
      · obtain ⟨-, hclear, -⟩ := hdone
        exact absurd (hclear.symm.trans hpending') Bool.false_ne_true

theorem removeCue_liveChange (s : State) (r : ActiveCue) (x : DeskState) : LiveChange s (s.removeCue r x) :=
  (removeCue_cases s r x).imp (fun ⟨hbanks, _⟩ => hbanks.liveStands) fun ⟨hdone, _⟩ => hdone

theorem cancelRequest_liveChange (slot : CueSlot) (s : State) : LiveChange s (cancelRequest slot s).1 := by
  unfold cancelRequest
  split
  · exact (BanksStand.refl s).liveChange
  · exact removeCue_liveChange s _ _

theorem cancelAllRequest_liveChange (s : State) : LiveChange s (cancelAllRequest s).1 := by
  unfold cancelAllRequest
  split
  · exact (removeCues_cases .cancelled _ s).imp (fun ⟨hbanks, _⟩ => hbanks.liveStands) fun ⟨hdone, _⟩ => hdone
  · split <;> exact (BanksStand.refl s).liveChange

theorem goDisplayExpiry_liveChange (s : State) (slot : CueSlot) : LiveChange s (s.goDisplayExpiry slot) := by
  unfold State.goDisplayExpiry
  split
  · exact (BanksStand.refl s).liveChange
  · split
    · exact removeCue_liveChange s _ _
    · exact (BanksStand.refl s).liveChange

/-! ### Requests -/

/-- The requests that may complete a swap: SWAP and the removals. -/
def Request.maySwap : Request → Bool
  | .swap | .cancel _ | .cancelAll => true
  | _ => false

/-- R103: the replacement of the edit bank leaves the live bank. -/
theorem setEdit_liveStands (s : State) (x : BankTables) : LiveStands s (s.setEdit x) := by
  obtain ⟨-, hlive, hrest⟩ := setEdit_spec s x
  have hselector : (s.setEdit x).live = s.live := by rw [hrest]
  exact ⟨hselector, by rw [hselector, hlive]⟩

theorem writeEntry_liveStands {ι α : Type} {index : Option ι} {entry : ι → Option α} {store : ι → α → State} {s : State}
    (h : ∀ i x, LiveStands s (store i x)) : LiveStands s (writeEntry index entry store s).1 := by
  unfold writeEntry
  split
  · exact ⟨rfl, rfl⟩
  · split
    · exact ⟨rfl, rfl⟩
    · exact h _ _

/-- R104: a copy replaces the edit bank alone. -/
theorem copyRequest_liveStands (s : State) : LiveStands s (copyRequest s).1 := by
  unfold copyRequest
  split
  · exact ⟨rfl, rfl⟩
  · exact setEdit_liveStands s _

theorem cancelSwapRequest_banks (s : State) : BanksStand s (cancelSwapRequest s).1 := by
  unfold cancelSwapRequest
  split <;> exact ⟨rfl, rfl, rfl⟩

/-- R101: the owner of any request but a SWAP and a removal leaves the live tables. -/
theorem owner_liveStands (p : Port) {r : Request} (s : State) (h : Request.maySwap r = false) :
    LiveStands s (owner p r s).1 := by
  cases r with
  | swap | cancel | cancelAll => cases h
  | standby slot => exact (standbyRequest_banks p slot s).liveStands
  | go slot => exact (goRequest_banks slot s).liveStands
  | goNext => exact (goNextRequest_banks s).liveStands
  | hold slot => exact (holdRequest_banks slot s).liveStands
  | holdAll => exact (holdAllRequest_banks s).liveStands
  | release slot => exact (releaseRequest_banks slot s).liveStands
  | releaseAll => exact (releaseAllRequest_banks s).liveStands
  | writeCueEntry | writeGroupEntry | writePositionEntry | writeZoneEntry =>
    exact writeEntry_liveStands fun _ _ => setEdit_liveStands s _
  | writeProfile index entry => exact (writeProfileRequest_banks p index entry s).liveStands
  | writeChannelEntry => exact (writeEntry_banks fun c e => storeChannel_banks s c e).liveStands
  | writeNoticeControl index entry => exact (writeNoticeRequest_banks index entry s).liveStands
  | writeRouterSettings => exact BanksStand.liveStands (writeEntry_banks fun _ _ => ⟨rfl, rfl, rfl⟩)
  | copyLiveToEdit => exact copyRequest_liveStands s
  | cancelSwap => exact (cancelSwapRequest_banks s).liveStands
  | set c v => exact (counterControl_banks (commandSet_banks v) c s).liveStands
  | preset c v => exact (counterControl_banks (commandPreset_banks v) c s).liveStands
  | armIndex c => exact (counterControl_banks (commandArm_banks true) c s).liveStands
  | disarmIndex c => exact (counterControl_banks (commandArm_banks false) c s).liveStands
  | start c => exact (counterControl_banks commandStart_banks c s).liveStands
  | stop c => exact (counterControl_banks commandStop_banks c s).liveStands
  | seek c i => exact (counterControl_banks (commandSeek_banks i) c s).liveStands
  | mode c m => exact (counterControl_banks (commandMode_banks m) c s).liveStands
  | misfit c => exact (counterMisfit_banks c s).liveStands
  | enable n => exact (portControl_banks commandEnable_banks n s).liveStands
  | disable n => exact (portControl_banks (commandDisable_banks p) n s).liveStands
  | quiet n => exact (portControl_banks commandQuiet_banks n s).liveStands
  | unquiet n => exact (portControl_banks commandUnquiet_banks n s).liveStands
  | portRestart n => exact (portControl_banks (commandRestart_banks p) n s).liveStands
  | noticeHold x => exact (noticeHoldRequest_banks x s).liveStands
  | noticeUnhold x => exact (noticeUnholdRequest_banks x s).liveStands
  | noticeClear x => exact (noticeClearRequest_banks x s).liveStands
  | noticeOpen x => exact (laneCommand_banks commandOpen_banks x s).liveStands
  | noticeClose x => exact (laneCommand_banks commandClose_banks x s).liveStands
  | save => exact (saveRequest_banks s).liveStands
  | restart => exact (restartRequest_banks p s).liveStands
  | unnamed what =>
    cases what with
    | counter c => exact (counterMisfit_banks c s).liveStands
    | status | port | notice => exact ⟨rfl, rfl⟩
  | _ => exact ⟨rfl, rfl⟩

theorem owner_liveChange (p : Port) (r : Request) (s : State) : LiveChange s (owner p r s).1 := by
  cases h : Request.maySwap r with
  | false => exact .inl (owner_liveStands p s h)
  | true =>
    cases r with
    | swap => exact swapRequest_liveChange s
    | cancel slot => exact cancelRequest_liveChange slot s
    | cancelAll => exact cancelAllRequest_liveChange s
    | _ => cases h

/-- R177: messages apart, the acceptance of a message does nothing or what its owner does. -/
theorem accept_sansMsgs (s : State) (p : Port) (kind tag : Octet) (right : Right) (o : State → State × Answer) :
    (s.accept p kind tag right o).sansMsgs = s.sansMsgs
      ∨ (s.accept p kind tag right o).sansMsgs = (o (s.reserve p)).1.sansMsgs := by
  unfold State.accept
  split
  · split
    · split
      · exact .inr (answer_sansMsgs _ _ _ _ _)
      · exact .inl ((answer_sansMsgs _ _ _ _ _).trans (reserve_sansMsgs s p))
    · exact .inl (raise_sansMsgs _ _)
  · exact .inl rfl

theorem accept_liveChange {o : State → State × Answer} (h : ∀ s, LiveChange s (o s).1) (s : State) (p : Port)
    (kind tag : Octet) (right : Right) : LiveChange s (s.accept p kind tag right o) := by
  rcases accept_sansMsgs s p kind tag right o with hnothing | howner
  · exact (BanksStand.refl s).liveChange.of_sansMsgs rfl hnothing
  · exact (h (s.reserve p)).of_sansMsgs (reserve_sansMsgs s p).symm howner

theorem request_liveChange (s : State) (p : Port) (tag : Octet) (r : Request) : LiveChange s (s.request p tag r) :=
  accept_liveChange (owner_liveChange p r) s p _ tag _

/-- R101: a request that is neither a SWAP nor a removal leaves the live tables. -/
theorem request_liveStands (s : State) (p : Port) (tag : Octet) {r : Request} (h : Request.maySwap r = false) :
    LiveStands s (s.request p tag r) := by
  rcases accept_sansMsgs s p (requestKind r) tag (requestRight r) (owner p r) with hnothing | howner
  · exact (BanksStand.refl s).liveStands.of_sansMsgs rfl hnothing
  · exact (owner_liveStands p (s.reserve p) h).of_sansMsgs (reserve_sansMsgs s p).symm howner

theorem acceptMessage_liveChange (s : State) (p : Port) (kind tag : Octet) (payload : List Octet) :
    LiveChange s (s.acceptMessage p kind tag payload) := by
  unfold State.acceptMessage
  split
  · exact BanksStand.liveChange (by simp)
  · refine accept_liveChange (fun t => ?_) s p kind tag _
    unfold payloadOwner
    split
    · exact (BanksStand.refl t).liveChange
    · exact owner_liveChange p _ t

theorem completeMessage_liveChange (s : State) (p : Port) (kind tag : Octet) (payload : List Octet) (keys : Keys) :
    LiveChange s (s.completeMessage p kind tag payload keys) := by
  have haccepted : LiveChange s (if kind = identReplyKind then s else s.acceptMessage p kind tag payload) := by
    split
    · exact (BanksStand.refl s).liveChange
    · exact acceptMessage_liveChange s p kind tag payload
  unfold State.completeMessage
  split
  · unfold State.probingMessage
    split
    · split
      · exact (takeIdent_banks s p _ _ _ _ _).liveChange
      · exact (BanksStand.refl s).liveChange
    · exact (BanksStand.refl s).liveChange
  · exact haccepted
  · exact haccepted
  · exact (BanksStand.refl s).liveChange

/-! ### Frames -/

/-- What the part of a frame ahead of its message octet leaves of what a swap reads: the banks, the selector and the flag
stand, and the list is no emptier. -/
structure BeforeMessage (s t : State) : Prop where
  banks : BanksStand s t
  swap : t.swapPending = s.swapPending
  list : t.active = [] → s.active = []

namespace BeforeMessage

theorem same {s t : State} (banks : BanksStand s t) (swap : t.swapPending = s.swapPending) (list : t.active = s.active) :
    BeforeMessage s t := ⟨banks, swap, fun h => list.symm.trans h⟩

theorem refl (s : State) : BeforeMessage s s := same (.refl s) rfl rfl

theorem trans {s t u : State} (first : BeforeMessage s t) (next : BeforeMessage t u) : BeforeMessage s u :=
  ⟨first.banks.trans next.banks, next.swap.trans first.swap, first.list ∘ next.list⟩

theorem foldl {β : Type} {f : State → β → State} (h : ∀ t x, BeforeMessage t (f t x)) :
    ∀ (l : List β) (s : State), BeforeMessage s (l.foldl f s)
  | [], s => refl s
  | x :: l, s => (h s x).trans (foldl h l (f s x))

/-- A change of the live tables, seen from the beginning of the frame. -/
theorem liveChange {s t u : State} (first : BeforeMessage s t) (next : LiveChange t u) : LiveChange s u := by
  rcases next with ⟨hlive', htables⟩ | hdone
  · obtain ⟨hlive, hbank⟩ := first.banks.liveStands
    exact .inl ⟨hlive'.trans hlive, htables.trans hbank⟩
  · have ⟨_, _, _, _, hcause⟩ := hdone
    exact .inr (hdone.of_banks first.banks (hcause.imp first.list fun h => first.swap.symm.trans h))

end BeforeMessage

theorem laneOctet_liveChange (s : State) (p : Port) (start : Bool) (o : Octet) (keys : Keys) :
    LiveChange s (s.laneOctet p start o keys) := by
  have hassembly : ∀ a, BeforeMessage s (s.setAssembly p a) := fun a => .same (by simp) (by simp) (by simp)
  unfold State.laneOctet
  split
  · exact BanksStand.liveChange (by simp)
  · exact (BanksStand.refl s).liveChange
  · exact BanksStand.liveChange (by simp)
  · unfold State.storeOctet
    split
    · exact BanksStand.liveChange (by simp)
    split
    · refine (hassembly .empty).liveChange ?_
      unfold State.finishAssembly
      split
      · split
        · exact completeMessage_liveChange _ p _ _ _ keys
        · exact (BanksStand.refl _).liveChange
      · exact BanksStand.liveChange (by simp)
    · exact BanksStand.liveChange (by simp)

theorem frameOctet_liveChange (s : State) (p : Port) (f : UpFrame) : LiveChange s (s.frameOctet p f) := by
  unfold State.frameOctet
  split
  · exact laneOctet_liveChange s p _ _ _
  · exact (BanksStand.refl s).liveChange

theorem talkEdge_beforeMessage (s : State) (p : Port) (old new : Keys) (k : KeySlot) :
    BeforeMessage s (s.talkEdge p old new k) := by
  unfold State.talkEdge
  split
  · exact .same (by simp) (by simp) (by simp)
  split
  · exact .same (by simp) (by simp) (by simp)
  · exact .refl s

theorem callEdge_beforeMessage (s : State) (p : Port) (old new : Keys) (k : KeySlot) :
    BeforeMessage s (s.callEdge p old new k) := by
  unfold State.callEdge
  split
  · unfold State.callPress
    split
    · exact .refl s
    · exact .same (by simp [State.takeCall]) (by simp [State.takeCall]) (by simp [State.takeCall])
  · exact .refl s

/-- R22: a cue-key press changes records in their places. -/
theorem cueEdge_beforeMessage (s : State) (p : Port) (old new : Keys) : BeforeMessage s (s.cueEdge p old new) := by
  unfold State.cueEdge
  split
  · have hslots : (s.cuePress p).active.map ActiveCue.slot = s.active.map ActiveCue.slot :=
      foldl_changeCue_slots (fun t r => t.ackedCue r p) _ s
    refine ⟨by simp, by simp, fun h => ?_⟩
    rw [h, List.map_nil] at hslots
    exact List.map_eq_nil_iff.1 hslots.symm
  · exact .refl s

theorem edges_beforeMessage (s : State) (p : Port) (old new : Keys) : BeforeMessage s (s.edges p old new) := by
  unfold State.edges
  split
  · exact ((BeforeMessage.foldl (fun t k => talkEdge_beforeMessage t p old new k) allSlots s).trans
      (.foldl (fun t k => callEdge_beforeMessage t p old new k) allSlots _)).trans (cueEdge_beforeMessage _ p old new)
  · exact cueEdge_beforeMessage s p old new
  · exact .refl s

theorem takeKeys_beforeMessage (s : State) (p : Port) (new : Keys) : BeforeMessage s (s.takeKeys p new) := by
  have hset : BeforeMessage s (s.setPort p { s.ports[p] with keyRef := some new }) :=
    .same (by simp) (by simp) (by simp)
  unfold State.takeKeys
  simp only
  split
  · exact hset.trans (edges_beforeMessage _ p _ _)
  · exact hset

theorem takeGood_liveChange (s : State) (p : Port) (f : UpFrame) : LiveChange s (s.takeGood p f) := by
  have hcleared : BeforeMessage s ((s.setSample p (some (UpFrame.sample f))).clearLoss p) :=
    .same (by simp [State.clearLoss]) (by simp [State.clearLoss]) (by simp [State.clearLoss])
  unfold State.takeGood
  simp only
  split
  · exact (BanksStand.refl s).liveChange
  · exact BanksStand.liveChange (by simp [State.startProbing])
  · exact hcleared.liveChange (frameOctet_liveChange _ p f)
  · exact (hcleared.trans (takeKeys_beforeMessage _ p _)).liveChange (frameOctet_liveChange _ p f)
  · exact (hcleared.trans (takeKeys_beforeMessage _ p _)).liveChange (frameOctet_liveChange _ p f)
  · exact hcleared.banks.liveChange

theorem takeFrame_liveChange (s : State) (p : Port) (f : UpFrame) : LiveChange s (s.takeFrame p f) := by
  unfold State.takeFrame
  split
  · split
    · exact takeGood_liveChange s p f
    · exact (takeMissing_banks s p).liveChange
  · exact (BanksStand.refl s).liveChange

/-! ### One command -/

/-- The commands that a swap may complete in: SWAP, a removal, and a frame that may carry such a request. -/
def Instr.MaySwap (c : Instr) : Prop :=
  (∃ p tag, c = .swap p tag ∨ c = .cancelAll p tag ∨ ∃ slot, c = .cancel p tag slot) ∨ (∃ slot, c = .goDisplayExpiry slot)
    ∨ ∃ p f, c = .goodFrame p f ∨ c = .frameDiscarded p f

/-- R178: a command whose request may complete a swap is SWAP or a CANCEL. -/
theorem maySwap_of_requestOf {c : Instr} {p : Port} {tag kind : Octet} {r : Request}
    (h : requestOf c = some (p, tag, kind, r)) (hr : Request.maySwap r = true) : Instr.MaySwap c := by
  cases c with
  | swap p tag => exact .inl ⟨p, tag, .inl rfl⟩
  | cancelAll p tag => exact .inl ⟨p, tag, .inr (.inl rfl)⟩
  | cancel p tag slot => exact .inl ⟨p, tag, .inr (.inr ⟨slot, rfl⟩)⟩
  | badTable q t isWrite n =>
    simp only [requestOf] at h
    split at h <;> cases h
    cases hr
  | unnamedSubjectOrCommand q t what =>
    cases what <;> cases h <;> cases hr
  | _ => cases h <;> cases hr

/-- R101: a command of a running part leaves the live tables, or is one that a swap may complete in. -/
theorem exec_liveChange {c : Instr} {s t : State} (hc : Instr.startsUp c = false) (h : exec c s = .next t) :
    LiveStands s t ∨ (SwapDone s t ∧ Instr.MaySwap c) := by
  cases hr : requestOf c with
  | some x =>
    obtain ⟨p, tag, kind, r⟩ := x
    rw [(exec_requestOf hr).2] at h
    cases h
    cases hswap : Request.maySwap r with
    | false => exact .inl (request_liveStands s p tag hswap)
    | true => exact (request_liveChange s p tag r).imp_right fun hdone => ⟨hdone, maySwap_of_requestOf hr hswap⟩
  | none =>
    cases c <;> try contradiction
    case goodFrame p f =>
      cases h
      exact (takeFrame_liveChange s p f).imp_right fun hdone => ⟨hdone, .inr (.inr ⟨p, f, .inl rfl⟩)⟩
    case frameDiscarded p f =>
      cases h
      exact (takeFrame_liveChange s p f).imp_right fun hdone => ⟨hdone, .inr (.inr ⟨p, f, .inr rfl⟩)⟩
    case goDisplayExpiry slot =>
      cases h
      exact (goDisplayExpiry_liveChange s slot).imp_right fun hdone => ⟨hdone, .inr (.inl ⟨slot, rfl⟩)⟩
    case badTable p tag isWrite table =>
      cases h
      have hnamed : 1 ≤ table ∧ table ≤ 8 := by simpa [requestOf] using hr
      exact .inl (by rw [State.badTableRequest, if_pos hnamed]; exact ⟨rfl, rfl⟩)
    case unnamedSubjectOrCommand p tag what => cases what <;> contradiction
    all_goals refine .inl (BanksStand.liveStands ?_)
    case frameMissing p => cases h; exact frameMissed_banks s p
    case linkLoss p => cases h; exact linkLossEvent_banks s p
    case downstreamFrame p => cases h; exact downstream_banks s p
    case deferredAction p => cases h; exact deferredEvent_banks s p
    case restartCarriedOut => cases h; exact restartEvent_banks s
    case identReply p tag cls n serial keys => cases h; exact takeIdent_banks s p tag cls n serial keys
    case askDeadlineExpiry p => cases h; exact askExpiry_banks s p
    case step k a b => cases h; exact levelAB_banks s k a b
    case indexPulse k => cases h; exact levelZ_banks s k true
    case saveWriteAnswered => cases h; exact saveStep_banks writeAnswered_banks s
    case saveCompletion => cases h; exact saveAtMarker_banks s
    case saveFailure => cases h; exact saveStep_banks writeFailed_banks s
    case changeOfLevel k l => cases h; exact changeLevel_banks s k l
    case unknownKind p tag kind => cases h; exact unknownMessage_banks s p tag kind
    case ackDeadlineExpiry | followDeadlineExpiry | noticeBuild | idleTimerExpiry | deniedPeriodExpiry
      | displayDeadlineExpiry | holdoffDeadlineExpiry => cases h; simp

/-- Settles O60: the commands that start the part up are those it excepts, and any other does as `exec_liveChange` says. -/
theorem liveTablesChangeOnlyAtSwapOrLoad : Obligations.LiveTablesChangeOnlyAtSwapOrLoad := by
  intro s t c hload hon hloss h
  have hc : Instr.startsUp c = false := by
    cases hstarts : Instr.startsUp c with
    | false => rfl
    | true =>
      rcases startsUp_cases hstarts with (rfl | rfl) | ⟨answered, rfl⟩
      · exact absurd rfl hon
      · exact absurd rfl hloss
      · exact absurd rfl (hload answered)
  refine (exec_liveChange hc h).imp_right fun hswap => ?_
  obtain ⟨⟨hlive, hclear, htables, hactive, hcause⟩, hcommand⟩ := hswap
  exact ⟨hlive, hclear, htables, hactive, hcause, hcommand⟩

end Sys2Proof.Machine
end

section
/-! SUPPORT. What keeps the talk lists within their bounds (R120): the operations of the Talk Arbiter, channel by channel, and
what leaves the lists and the Channel Table as they stand. -/

namespace Sys2Proof.Machine

/-- R120: a channel's lists within a number of places and the eight of the wait queue. -/
def ChannelTalk.Fits (t : ChannelTalk) (places : Nat) : Prop := t.talkers.length ≤ places ∧ t.waiters.length ≤ 8

/-- R120 on every channel. -/
def TalkFits (s : State) : Prop := ∀ c : Chan, s.talk[c].Fits s.channels[c].maxTalkers

theorem talkBounded_iff (s : State) : TalkBounded s ↔ LoadingQuiet s ∧ TalkFits s := Iff.rfl

/-- The talk lists with their timers and the Channel Table stand. -/
@[simp] abbrev TalkStands (s t : State) : Prop := t.talk = s.talk ∧ t.channels = s.channels

/-- A change that keeps the lists within their bounds. -/
def KeepsFit (s t : State) : Prop := TalkFits s → TalkFits t

namespace TalkStands

theorem refl (s : State) : TalkStands s s := ⟨rfl, rfl⟩

theorem trans {s t u : State} (first : TalkStands s t) (next : TalkStands t u) : TalkStands s u :=
  ⟨next.1.trans first.1, next.2.trans first.2⟩

theorem foldl {β : Type} {f : State → β → State} (h : ∀ t x, TalkStands t (f t x)) :
    ∀ (l : List β) (s : State), TalkStands s (l.foldl f s)
  | [], s => refl s
  | x :: l, s => (h s x).trans (foldl h l (f s x))

theorem keepsFit {s t : State} (h : TalkStands s t) : KeepsFit s t := by
  obtain ⟨htalk, hchannels⟩ := h
  intro hs c
  rw [htalk, hchannels]
  exact hs c

end TalkStands

namespace KeepsFit

theorem refl (s : State) : KeepsFit s s := id

theorem trans {s t u : State} (first : KeepsFit s t) (next : KeepsFit t u) : KeepsFit s u := next ∘ first

theorem foldl {β : Type} {f : State → β → State} (h : ∀ t x, KeepsFit t (f t x)) :
    ∀ (l : List β) (s : State), KeepsFit s (l.foldl f s)
  | [], s => refl s
  | x :: l, s => (h s x).trans (foldl h l (f s x))

end KeepsFit

/-! ### One channel -/

/-- Replacing one channel's lists by lists that fit where the old ones did. -/
theorem setTalk_keepsFit {s : State} {c : Chan} {x : ChannelTalk}
    (h : s.talk[c].Fits s.channels[c].maxTalkers → x.Fits s.channels[c].maxTalkers) : KeepsFit s (s.setTalk c x) := by
  intro hs d
  simp only [setTalk_fields, get_put]
  split
  · rename_i hd
    exact hd ▸ h (hs c)
  · exact hs d

theorem ChannelTalk.Fits.of_lists {t x : ChannelTalk} {n : Nat} (h : t.Fits n) (talkers : x.talkers = t.talkers)
    (waiters : x.waiters = t.waiters) : x.Fits n := ⟨talkers ▸ h.1, waiters ▸ h.2⟩

/-- R126: a grant fills the places that are free and no more. -/
theorem ChannelTalk.granted_fits {t : ChannelTalk} {n : Nat} (h : t.Fits n) : (t.granted n).Fits n := by
  obtain ⟨htalkers, hwaiters⟩ := h
  constructor
  · simp only [granted, room, List.length_append, List.length_take]
    omega
  · simp only [granted, List.length_drop]
    omega

theorem ChannelTalk.without_fits {t : ChannelTalk} {n : Nat} (p : Port) (h : t.Fits n) : (t.without p).Fits n :=
  ⟨(List.length_filter_le _ _).trans h.1, (List.length_filter_le _ _).trans h.2⟩

theorem ChannelTalk.unlatched_fits {t : ChannelTalk} {n : Nat} (h : t.Fits n) : t.unlatched.Fits n :=
  ⟨(List.length_filter_le _ _).trans h.1, (List.length_filter_le _ _).trans h.2⟩

theorem ChannelTalk.latch_fits {t : ChannelTalk} {n : Nat} (p : Port) (h : t.Fits n) : (t.latch p).Fits n := by
  simpa [ChannelTalk.Fits, latch] using h

@[simp] theorem queueAtEnd_length (e : TalkEntry) (q : List TalkEntry) : (queueAtEnd e q).length = q.length + 1 := by
  have := congrArg List.length (List.takeWhile_append_dropWhile (p := fun x => decide (e.priority ≤ x.priority)) (l := q))
  simp only [queueAtEnd, List.length_append, List.length_cons] at this ⊢
  omega

@[simp] theorem queueAtFront_length (placed : List Port) (e : TalkEntry) (q : List TalkEntry) :
    (queueAtFront placed e q).length = q.length + 1 := by
  simp only [queueAtFront]
  generalize (fun x : TalkEntry =>
    decide (e.priority < x.priority) || (x.priority == e.priority && placed.contains x.port)) = ahead
  have := congrArg List.length (List.takeWhile_append_dropWhile (p := ahead) (l := q))
  simp only [List.length_append, List.length_cons] at this ⊢
  omega

/-! ### The Talk Arbiter -/

theorem reloadIdle_keepsFit (s : State) (c : Chan) : KeepsFit s (s.reloadIdle c) :=
  setTalk_keepsFit fun h => h.of_lists rfl rfl

theorem grantHeads_keepsFit (s : State) (c : Chan) (b : Bool) : KeepsFit s (s.grantHeads c b) := by
  have hgranted : KeepsFit s (s.setTalk c (s.talk[c].granted s.channels[c].maxTalkers)) :=
    setTalk_keepsFit ChannelTalk.granted_fits
  unfold State.grantHeads
  simp only
  split
  · exact hgranted.trans (reloadIdle_keepsFit _ c)
  · exact hgranted

theorem removeTalk_keepsFit (s : State) (c : Chan) (p : Port) : KeepsFit s (s.removeTalk c p) := by
  have hremoved : KeepsFit s (s.setTalk c (s.talk[c].without p)) := setTalk_keepsFit (ChannelTalk.without_fits p)
  unfold State.removeTalk
  simp only
  split
  · exact hremoved.trans (grantHeads_keepsFit _ c true)
  · exact hremoved

theorem releaseTalk_keepsFit (s : State) (c : Chan) (p : Port) : KeepsFit s (s.releaseTalk c p) :=
  (removeTalk_keepsFit s c p).trans (reloadIdle_keepsFit _ c)

/-- R121: one more waits only while the queue holds fewer than eight. -/
theorem setWaiters_keepsFit {s : State} {c : Chan} {q : List TalkEntry} (h : q.length ≤ 8) :
    KeepsFit s (s.setTalk c { s.talk[c] with waiters := q }) :=
  setTalk_keepsFit fun ⟨htalkers, _⟩ => ⟨htalkers, h⟩

theorem displace_keepsFit (s : State) (c : Chan) (placed : List Port) (cause : PreemptCause) (e : TalkEntry) :
    KeepsFit s (s.displace c placed cause e) := by
  unfold State.displace
  split
  · refine KeepsFit.trans (setWaiters_keepsFit (c := c) (q := queueAtFront placed e s.talk[c].waiters) ?_)
      (TalkStands.keepsFit (by simp))
    rw [queueAtFront_length]
    omega
  · exact TalkStands.keepsFit (by simp [State.startDenied])

/-- R125: an entry that is displaced leaves the talkers as they stand. -/
theorem displace_talkers (s : State) (c : Chan) (placed : List Port) (cause : PreemptCause) (e : TalkEntry) :
    (s.displace c placed cause e).talk[c].talkers = s.talk[c].talkers := by
  unfold State.displace
  split <;> simp [State.startDenied]

theorem appendTalker_keepsFit {s : State} {c : Chan} (e : TalkEntry)
    (h : s.talk[c].talkers.length < s.channels[c].maxTalkers) : KeepsFit s (s.appendTalker c e) :=
  setTalk_keepsFit fun ⟨_, hwaiters⟩ => ⟨by simpa using h, hwaiters⟩

theorem dropTalker_keepsFit (s : State) (c : Chan) (e : TalkEntry) : KeepsFit s (s.dropTalker c e) :=
  setTalk_keepsFit fun ⟨htalkers, hwaiters⟩ => ⟨(List.length_filter_le _ _).trans htalkers, hwaiters⟩

/-- R125: the victim of a request is one of the talkers. -/
theorem victimOf_mem {s : State} {c : Chan} {e v : TalkEntry} (h : s.victimOf c e = some v) : v ∈ s.talk[c].talkers := by
  unfold State.victimOf at h
  split at h
  · unfold ChannelTalk.victim at h
    split at h
    · cases h
    · split at h
      · exact List.mem_reverse.1 (List.mem_of_find?_eq_some h)
      · cases h
  · cases h

/-- R125: a victim's place becomes free. -/
theorem dropTalker_length {s : State} {c : Chan} {v : TalkEntry} (h : v ∈ s.talk[c].talkers) :
    (s.dropTalker c v).talk[c].talkers.length < s.talk[c].talkers.length := by
  simp only [State.dropTalker, setTalk_fields, get_put, if_true]
  exact List.length_filter_lt_length_iff_exists.2 ⟨v, h, by simp⟩

theorem requestTalk_keepsFit (s : State) (c : Chan) (e : TalkEntry) : KeepsFit s (s.requestTalk c e) := by
  refine KeepsFit.trans (t := s.requestSteps c e) ?_ (reloadIdle_keepsFit _ c)
  unfold State.requestSteps
  split
  · rename_i hroom
    exact (appendTalker_keepsFit e hroom).trans (TalkStands.keepsFit (by simp))
  · split
    · rename_i v hv
      intro hs
      have hplace : ((s.dropTalker c v).displace c [] (.priority e.port) v).talk[c].talkers.length
          < ((s.dropTalker c v).displace c [] (.priority e.port) v).channels[c].maxTalkers := by
        rw [displace_talkers]
        have hfits := (hs c).1
        have hfewer := dropTalker_length (victimOf_mem hv)
        simp only [displace_fields, State.dropTalker, setTalk_fields] at hfewer ⊢
        omega
      have hdisplaced := (dropTalker_keepsFit s c v).trans (displace_keepsFit _ c [] (.priority e.port) v)
      exact ((hdisplaced.trans (appendTalker_keepsFit e hplace)).trans (TalkStands.keepsFit (by simp))) hs
    · split
      · refine KeepsFit.trans (setWaiters_keepsFit (c := c) (q := queueAtEnd e s.talk[c].waiters) ?_)
          (TalkStands.keepsFit (by simp))
        rw [queueAtEnd_length]
        omega
      · exact TalkStands.keepsFit (by simp [State.startDenied])

theorem talkPress_keepsFit (s : State) (p : Port) (k : KeySlot) : KeepsFit s (s.talkPress p k) := by
  unfold State.talkPress
  split
  · exact .refl s
  · split
    · exact .refl s
    · exact requestTalk_keepsFit s _ _
    · exact releaseTalk_keepsFit s _ _
    · exact requestTalk_keepsFit s _ _
    · exact releaseTalk_keepsFit s _ _
    · exact requestTalk_keepsFit s _ _

theorem talkRelease_keepsFit (s : State) (p : Port) (k : KeySlot) : KeepsFit s (s.talkRelease p k) := by
  unfold State.talkRelease
  split
  · exact .refl s
  · split
    · exact releaseTalk_keepsFit s _ _
    · split
      · exact setTalk_keepsFit (ChannelTalk.latch_fits p)
      · exact releaseTalk_keepsFit s _ _
    · exact .refl s

theorem idleExpiry_keepsFit (s : State) (c : Chan) : KeepsFit s (s.idleExpiry c) := by
  unfold State.idleExpiry
  split
  · unfold State.idleExpired
    split
    · exact setTalk_keepsFit fun h => h.of_lists rfl rfl
    · have hunlatched : KeepsFit s (s.setTalk c s.talk[c].unlatched) := setTalk_keepsFit ChannelTalk.unlatched_fits
      exact (hunlatched.trans (grantHeads_keepsFit _ c false)).trans (TalkStands.keepsFit (by simp))
  · exact .refl s

theorem leaveUp_keepsFit (s : State) (p : Port) : KeepsFit s (s.leaveUp p) := by
  have hremoved := KeepsFit.foldl (fun t c => removeTalk_keepsFit t c p) allChannels s
  have hcleared : ∀ t : State, KeepsFit t (t.clearDenied p) := fun t => TalkStands.keepsFit (by simp)
  exact hremoved.trans (hcleared _)

theorem rewriteTalkSlot_keepsFit (s : State) (p : Port) (old new : Vector SlotConfig 4) (k : KeySlot) :
    KeepsFit s (s.rewriteTalkSlot p old new k) := by
  unfold State.rewriteTalkSlot
  split
  · exact .refl s
  · split
    · exact TalkStands.keepsFit (by simp)
    · rename_i c _
      exact (removeTalk_keepsFit s c p).trans (TalkStands.keepsFit (by simp))

theorem callPress_keepsFit (s : State) (p : Port) (k : KeySlot) : KeepsFit s (s.callPress p k) := by
  unfold State.callPress
  split
  · exact .refl s
  · rename_i c _
    exact KeepsFit.trans (t := (s.flashRecipients p c).startHoldoff p k) (TalkStands.keepsFit (by simp))
      (reloadIdle_keepsFit _ c)

/-! ### Channel Table writes -/

theorem displaceExcess_keepsFit (c : Chan) :
    ∀ (l : List TalkEntry) (placed : List Port) (s : State), KeepsFit s (s.displaceExcess c placed l)
  | [], _, s => .refl s
  | e :: l, placed, s =>
    (displace_keepsFit s c placed .channelWrite e).trans (displaceExcess_keepsFit c l (e.port :: placed) _)

/-- R115: a channel whose talkers exceed its places is brought within them; the other channels stand. -/
theorem resizeTalkers_fits {s : State} {c : Chan} (others : ∀ d : Chan, d ≠ c → s.talk[d].Fits s.channels[d].maxTalkers)
    (waiters : s.talk[c].waiters.length ≤ 8) : TalkFits (s.resizeTalkers c s.channels[c].maxTalkers) := by
  unfold State.resizeTalkers
  split
  · refine displaceExcess_keepsFit c _ _ _ fun d => ?_
    simp only [setTalk_fields, get_put]
    split
    · rename_i hd
      subst hd
      exact ⟨by simp, waiters⟩
    · exact others d ‹_›
  · rename_i hfew
    refine grantHeads_keepsFit s c true fun d => ?_
    by_cases hd : d = c
    · subst hd
      exact ⟨Nat.le_of_not_lt hfew, waiters⟩
    · exact others d hd

/-- R114–R116: the lists fit the entry that a Channel Table write leaves. -/
theorem storeChannel_keepsFit (s : State) (c : Chan) (e : ChannelEntry) : KeepsFit s (s.storeChannel c e) := by
  intro hs
  have hlists : ∀ d : Chan, ((s.setChannel c e).restopIdle c e).talk[d].talkers = s.talk[d].talkers
      ∧ ((s.setChannel c e).restopIdle c e).talk[d].waiters = s.talk[d].waiters := by
    intro d
    unfold State.restopIdle
    split
    · simp only [setTalk_fields, get_put]
      split
      · rename_i hd
        subst hd
        exact ⟨rfl, rfl⟩
      · exact ⟨rfl, rfl⟩
    · exact ⟨rfl, rfl⟩
  have hchannels : ∀ d : Chan, ((s.setChannel c e).restopIdle c e).channels[d] = if d = c then e else s.channels[d] :=
    fun d => by simp only [restopIdle_fields, setChannel_fields, get_put]
  unfold State.storeChannel
  simp only
  generalize (s.setChannel c e).restopIdle c e = t at hlists hchannels ⊢
  have hfits : ∀ d : Chan, t.talk[d].Fits s.channels[d].maxTalkers := fun d =>
    (hs d).of_lists (hlists d).1 (hlists d).2
  have hplaces : t.channels[c].maxTalkers = e.maxTalkers := by rw [hchannels, if_pos rfl]
  split
  · rename_i hsame
    intro d
    rw [hchannels]
    split
    · rename_i hd
      subst hd
      exact hsame ▸ hfits d
    · exact hfits d
  · rw [← hplaces]
    refine resizeTalkers_fits (fun d hd => ?_) (hfits c).2
    rw [hchannels, if_neg hd]
    exact hfits d

end Sys2Proof.Machine
end

section
/-! SUPPORT. What leaves the talk lists and the Channel Table as they stand: the Cue Engine, the counters, the banks, Notice
Control and a running save. -/

namespace Sys2Proof.Machine

/-! ### The Cue Engine -/

theorem standbyRequest_talk (p : Port) (slot : CueSlot) (s : State) : TalkStands s (standbyRequest p slot s).1 := by
  unfold standbyRequest
  split <;> simp

theorem goRequest_talk (slot : CueSlot) (s : State) : TalkStands s (goRequest slot s).1 := by
  unfold goRequest
  split <;> simp

theorem goNextRequest_talk (s : State) : TalkStands s (goNextRequest s).1 := by
  unfold goNextRequest
  split
  · exact .refl s
  · split <;> simp

theorem holdRequest_talk (slot : CueSlot) (s : State) : TalkStands s (holdRequest slot s).1 := by
  unfold holdRequest
  split <;> simp

theorem releaseRequest_talk (slot : CueSlot) (s : State) : TalkStands s (releaseRequest slot s).1 := by
  unfold releaseRequest
  split <;> simp

theorem cancelRequest_talk (slot : CueSlot) (s : State) : TalkStands s (cancelRequest slot s).1 := by
  unfold cancelRequest
  split <;> simp

/-- R31, R34: records changed one after the other. -/
theorem changeCues_talk (f : State → ActiveCue → ActiveCue) (l : List ActiveCue) (s : State) :
    TalkStands s (l.foldl (fun t r => t.changeCue (f t r)) s) :=
  .foldl (fun t r => by simp) l s

theorem holdAllRequest_talk (s : State) : TalkStands s (holdAllRequest s).1 := by
  unfold holdAllRequest
  split
  · exact changeCues_talk (fun t r => t.heldCue r) _ s
  · split <;> [skip; split] <;> exact .refl s

theorem releaseAllRequest_talk (s : State) : TalkStands s (releaseAllRequest s).1 := by
  unfold releaseAllRequest
  split
  · exact changeCues_talk (fun t r => t.releasedCue r) _ s
  · split <;> exact .refl s

theorem cancelAllRequest_talk (s : State) : TalkStands s (cancelAllRequest s).1 := by
  unfold cancelAllRequest
  split
  · exact .foldl (fun t r => by simp) _ s
  · split <;> exact .refl s

/-! ### The counters -/

@[simp] theorem advance_talk (s : State) (c : CounterId) : TalkStands s (s.advance c) := by
  unfold State.advance
  split <;> simp

@[simp] theorem testPosition_talk (s : State) (c : CounterId) (up : Bool) : TalkStands s (s.testPosition c up) := by
  unfold State.testPosition
  split
  · split
    · split <;> simp
    · exact .refl s
  · exact .refl s

@[simp] theorem applyStep_talk (s : State) (c : CounterId) (up : Bool) : TalkStands s (s.applyStep c up) := by
  unfold State.applyStep
  split
  · exact .refl s
  · split <;> simp [State.overrange]

@[simp] theorem applyIndex_talk (s : State) (c : CounterId) : TalkStands s (s.applyIndex c) := by
  unfold State.applyIndex
  split <;> simp [State.jumpTo]

theorem levelAB_talk (s : State) (c : CounterId) (a b : Bool) : TalkStands s (s.levelAB c a b) := by
  unfold State.levelAB
  simp only
  split
  · split <;> simp [State.takeAB]
  · simp

theorem levelZ_talk (s : State) (c : CounterId) (z : Bool) : TalkStands s (s.levelZ c z) := by
  unfold State.levelZ
  simp only
  split
  · split <;> simp [State.takeZ]
  · simp

theorem changeLevel_talk (s : State) (c : CounterId) (l : LevelChange) : TalkStands s (s.changeLevel c l) := by
  cases l with
  | ab a b => exact levelAB_talk s c a b
  | z level => exact levelZ_talk s c level
  | pins a b z => exact .refl s

/-- R94: a request about a counter does what its command does to that counter. -/
theorem counterControl_talk {command : CounterId → State → State × Status} (h : ∀ c s, TalkStands s (command c s).1)
    (c : Named CounterId) (s : State) : TalkStands s (counterControl c command s).1 := by
  cases c with
  | none => exact .refl s
  | some x => exact h x s

theorem commandSet_talk (v : Int) (c : CounterId) (s : State) : TalkStands s (commandSet v c s).1 := by
  unfold commandSet
  split <;> simp [State.jumpTo]

theorem commandPreset_talk (v : Int) (c : CounterId) (s : State) : TalkStands s (commandPreset v c s).1 := by
  unfold commandPreset
  split <;> simp

theorem commandStart_talk (c : CounterId) (s : State) : TalkStands s (commandStart c s).1 := by
  unfold commandStart
  split
  · exact .refl s
  · split <;> simp

theorem commandSeek_talk (i : Nat) (c : CounterId) (s : State) : TalkStands s (commandSeek i c s).1 := by
  unfold commandSeek
  split
  · exact .refl s
  · split <;> simp

theorem commandMode_talk (m : Named CountMode) (c : CounterId) (s : State) : TalkStands s (commandMode m c s).1 := by
  unfold commandMode
  split
  · exact .refl s
  · split <;> simp

theorem counterMisfit_talk (c : Named CounterId) (s : State) : TalkStands s (counterMisfit c s).1 := by
  cases c with
  | none | some x => exact .refl s

/-! ### The banks and Notice Control -/

theorem setEdit_talk (s : State) (x : BankTables) : TalkStands s (s.setEdit x) := by
  unfold State.setEdit
  split <;> exact .refl s

theorem copyRequest_talk (s : State) : TalkStands s (copyRequest s).1 := by
  unfold copyRequest
  split
  · exact .refl s
  · exact setEdit_talk s _

theorem swapRequest_talk (s : State) : TalkStands s (swapRequest s).1 := by
  unfold swapRequest
  split
  · exact .refl s
  · split <;> simp [State.bankAnswer]

theorem cancelSwapRequest_talk (s : State) : TalkStands s (cancelSwapRequest s).1 := by
  unfold cancelSwapRequest
  split <;> exact .refl s

theorem writeNoticeRequest_talk (index : Nat) (w : NoticeEntryWrite) (s : State) :
    TalkStands s (writeNoticeRequest index w s).1 := by
  unfold writeNoticeRequest
  split
  · exact .refl s
  · split <;> simp

theorem noticeHoldRequest_talk (x : Option Nat) (s : State) : TalkStands s (noticeHoldRequest x s).1 := by
  unfold noticeHoldRequest
  split
  · exact .refl s
  · split <;> simp

theorem noticeUnholdRequest_talk (x : Option Nat) (s : State) : TalkStands s (noticeUnholdRequest x s).1 := by
  unfold noticeUnholdRequest
  split
  · exact .refl s
  · split <;> simp

theorem noticeClearRequest_talk (x : Option Nat) (s : State) : TalkStands s (noticeClearRequest x s).1 := by
  unfold noticeClearRequest
  split
  · exact .refl s
  · split <;> simp

theorem laneCommand_talk {command : Lane → State → State × Answer} (h : ∀ l s, TalkStands s (command l s).1)
    (x : Option Nat) (s : State) : TalkStands s (laneCommand x command s).1 := by
  unfold laneCommand
  split
  · exact .refl s
  · split
    · exact .refl s
    · exact h _ s

theorem commandOpen_talk (l : Lane) (s : State) : TalkStands s (commandOpen l s).1 := by
  unfold commandOpen
  split <;> simp [State.setOpen]

theorem commandClose_talk (l : Lane) (s : State) : TalkStands s (commandClose l s).1 := by
  unfold commandClose
  split <;> simp [State.setOpen]

/-! ### SAVE -/

@[simp] theorem endSave_talk (s : State) (ok : Bool) : TalkStands s (s.endSave ok) := by
  simp [State.endSave]

theorem saveRequest_talk (s : State) : TalkStands s (saveRequest s).1 := by
  unfold saveRequest
  split
  · unfold State.beginSave
    split <;> simp
  · exact .refl s

@[simp] theorem completeSave_talk (s : State) (x : Save) : TalkStands s (s.completeSave x) := by
  simp [State.completeSave]

theorem writeAnswered_talk (s : State) (x : Save) : TalkStands s (s.writeAnswered x) := by
  unfold State.writeAnswered
  split <;> simp

theorem saveStep_talk {event : State → Save → State} (h : ∀ s x, TalkStands s (event s x)) (s : State) :
    TalkStands s (s.saveStep event) := by
  unfold State.saveStep
  split
  · split
    · exact h _ _
    · exact .refl s
  · exact .refl s

theorem saveAtMarker_talk (s : State) : TalkStands s s.saveAtMarker :=
  saveStep_talk (fun t x => by split <;> simp) s

theorem restartRequest_talk (p : Port) (s : State) : TalkStands s (restartRequest p s).1 := by
  unfold restartRequest
  split <;> exact .refl s

end Sys2Proof.Machine
end

section
/-! SUPPORT. What keeps the talk lists within their bounds (R120): RESTART, the ports, the requests and the frames. -/

namespace Sys2Proof.Machine

/-! ### RESTART and the ports -/

/-- R199: a RESTART empties every list. -/
theorem restart_keepsFit (s : State) : KeepsFit s s.restart := by
  intro _ c
  have htalk : s.restart.talk = Vector.replicate 16 ChannelTalk.powerOn := by
    unfold State.restart
    rw [abandonSave_eq]
    simp [State.emptied]
  rw [htalk, get_replicate]
  exact ⟨Nat.zero_le _, Nat.zero_le _⟩

/-- R154, R158, R163: a fall, of a present port or of another. -/
theorem fall_keepsFit (s : State) (p : Port) (target : PortState) (cause : Option DownCause) :
    KeepsFit s (s.fall p target cause) := by
  have hcleared : KeepsFit s (s.clearPort p (s.fallTarget p target)) := TalkStands.keepsFit (.refl s)
  have hleft : ∀ t : State, KeepsFit t (t.leavePresence p) := fun t => by
    have hlost : KeepsFit t (t.portLost p) := TalkStands.keepsFit (by simp)
    have htold : KeepsFit ((t.portLost p).leaveUp p) (t.leavePresence p) :=
      TalkStands.keepsFit (by simp [State.leavePresence])
    exact (hlost.trans (leaveUp_keepsFit _ p)).trans htold
  have horphan : ∀ t : State, KeepsFit t (t.orphanRestart p) := fun t => by
    unfold State.orphanRestart
    split
    · exact restart_keepsFit t
    · exact .refl t
  unfold State.fall
  split
  · have hdown := TalkStands.keepsFit (s := (s.clearPort p (s.fallTarget p target)).leavePresence p)
      (t := ((s.clearPort p (s.fallTarget p target)).leavePresence p).portDown p cause) (by simp)
    exact ((hcleared.trans (hleft _)).trans hdown).trans (horphan _)
  · exact hcleared

theorem carryOut_keepsFit (s : State) (p : Port) : KeepsFit s (s.carryOut p) := by
  unfold State.carryOut
  split
  · exact .refl s
  · exact fall_keepsFit s p _ _
  · exact fall_keepsFit s p _ _

theorem takeIdent_talk (s : State) (p : Port) (tag cls keyCount : Octet) (serial : BitVec 32) (keys : Keys) :
    TalkStands s (s.takeIdent p tag cls keyCount serial keys) := by
  unfold State.takeIdent
  split
  · exact .refl s
  · unfold State.judgeIdent State.enterUp State.enterFault
    split <;> simp

theorem askExpiry_talk (s : State) (p : Port) : TalkStands s (s.askExpiry p) := by
  unfold State.askExpiry
  split
  · unfold State.askExpired State.enterFault
    split <;> simp
  · exact .refl s

/-! ### PORT_CONTROL and profile writes -/

theorem portControl_keepsFit {command : Port → State → State × Answer} (h : ∀ n s, KeepsFit s (command n s).1)
    (n : Nat) (s : State) : KeepsFit s (portControl n command s).1 := by
  unfold portControl
  split
  · exact .refl s
  · exact h _ s

theorem commandEnable_keepsFit (n : Port) (s : State) : KeepsFit s (commandEnable n s).1 := by
  unfold commandEnable
  split <;> exact TalkStands.keepsFit (.refl s)

theorem commandDisable_keepsFit (p n : Port) (s : State) : KeepsFit s (commandDisable p n s).1 := by
  have hset : KeepsFit s (s.setEnabled n false) := TalkStands.keepsFit (.refl s)
  unfold commandDisable
  split
  · exact .refl s
  · split
    · exact TalkStands.keepsFit (.refl s)
    · exact hset.trans (fall_keepsFit _ n _ _)

theorem commandQuiet_keepsFit (n : Port) (s : State) : KeepsFit s (commandQuiet n s).1 := by
  have hset : ∀ r, KeepsFit s (s.setPort n r) := fun r => TalkStands.keepsFit (by simp)
  unfold commandQuiet
  split
  · exact (hset _).trans (leaveUp_keepsFit _ n)
  · exact .refl s
  · exact .refl s

theorem commandUnquiet_keepsFit (n : Port) (s : State) : KeepsFit s (commandUnquiet n s).1 := by
  unfold commandUnquiet
  split <;> exact TalkStands.keepsFit (.refl s)

theorem commandRestart_keepsFit (p n : Port) (s : State) : KeepsFit s (commandRestart p n s).1 := by
  unfold commandRestart
  split
  · exact .refl s
  · split
    · split <;> exact TalkStands.keepsFit (.refl s)
    · exact fall_keepsFit s n _ _

theorem rewriteSlots_keepsFit (s : State) (n : Port) (old new : Vector SlotConfig 4) :
    KeepsFit s (s.rewriteSlots n old new) :=
  .foldl (fun t k => (rewriteTalkSlot_keepsFit t n old new k).trans (TalkStands.keepsFit (by simp))) allSlots s

theorem storeProfile_keepsFit (s : State) (p n : Port) (f : Profile) : KeepsFit s (s.storeProfile p n f).1 := by
  have hset : KeepsFit s (s.setProfile n f) := TalkStands.keepsFit (.refl s)
  have hwritten := hset.trans (rewriteSlots_keepsFit _ n s.profiles[n].slots f.slots)
  unfold State.storeProfile
  generalize (s.setProfile n f).rewriteSlots n s.profiles[n].slots f.slots = t at hwritten ⊢
  refine hwritten.trans ?_
  simp only
  split
  · exact .refl t
  split
  · unfold State.reenable
    split
    · exact TalkStands.keepsFit (.refl t)
    · split <;> exact TalkStands.keepsFit (.refl t)
  split
  · exact .refl t
  split
  · exact TalkStands.keepsFit (.refl t)
  · exact fall_keepsFit t n _ _

theorem writeProfileRequest_keepsFit (p : Port) (index : Nat) (w : ProfileWrite) (s : State) :
    KeepsFit s (writeProfileRequest p index w s).1 := by
  unfold writeProfileRequest
  split
  · exact .refl s
  split
  · exact .refl s
  split
  · exact storeProfile_keepsFit s p _ _
  · exact .refl s

/-! ### Requests and messages -/

theorem writeEntry_keepsFit {ι α : Type} {index : Option ι} {entry : ι → Option α} {store : ι → α → State} {s : State}
    (h : ∀ i x, KeepsFit s (store i x)) : KeepsFit s (writeEntry index entry store s).1 := by
  unfold writeEntry
  split
  · exact .refl s
  · split
    · exact .refl s
    · exact h _ _

/-- R177: the owner of each request keeps the lists within their bounds. -/
theorem owner_keepsFit (p : Port) (r : Request) (s : State) : KeepsFit s (owner p r s).1 := by
  cases r with
  | standby slot => exact (standbyRequest_talk p slot s).keepsFit
  | go slot => exact (goRequest_talk slot s).keepsFit
  | goNext => exact (goNextRequest_talk s).keepsFit
  | hold slot => exact (holdRequest_talk slot s).keepsFit
  | holdAll => exact (holdAllRequest_talk s).keepsFit
  | release slot => exact (releaseRequest_talk slot s).keepsFit
  | releaseAll => exact (releaseAllRequest_talk s).keepsFit
  | cancel slot => exact (cancelRequest_talk slot s).keepsFit
  | cancelAll => exact (cancelAllRequest_talk s).keepsFit
  | writeCueEntry | writeGroupEntry | writePositionEntry | writeZoneEntry =>
    exact writeEntry_keepsFit fun _ _ => (setEdit_talk s _).keepsFit
  | writeProfile index entry => exact writeProfileRequest_keepsFit p index entry s
  | writeChannelEntry => exact writeEntry_keepsFit fun c e => storeChannel_keepsFit s c e
  | writeNoticeControl index entry => exact (writeNoticeRequest_talk index entry s).keepsFit
  | writeRouterSettings => exact writeEntry_keepsFit fun _ _ => TalkStands.keepsFit (.refl s)
  | copyLiveToEdit => exact (copyRequest_talk s).keepsFit
  | swap => exact (swapRequest_talk s).keepsFit
  | cancelSwap => exact (cancelSwapRequest_talk s).keepsFit
  | set c v => exact (counterControl_talk (commandSet_talk v) c s).keepsFit
  | preset c v => exact (counterControl_talk (commandPreset_talk v) c s).keepsFit
  | armIndex c | disarmIndex c | stop c => exact (counterControl_talk (fun _ t => .refl t) c s).keepsFit
  | start c => exact (counterControl_talk commandStart_talk c s).keepsFit
  | seek c i => exact (counterControl_talk (commandSeek_talk i) c s).keepsFit
  | mode c m => exact (counterControl_talk (commandMode_talk m) c s).keepsFit
  | misfit c => exact (counterMisfit_talk c s).keepsFit
  | enable n => exact portControl_keepsFit commandEnable_keepsFit n s
  | disable n => exact portControl_keepsFit (commandDisable_keepsFit p) n s
  | quiet n => exact portControl_keepsFit commandQuiet_keepsFit n s
  | unquiet n => exact portControl_keepsFit commandUnquiet_keepsFit n s
  | portRestart n => exact portControl_keepsFit (commandRestart_keepsFit p) n s
  | noticeHold x => exact (noticeHoldRequest_talk x s).keepsFit
  | noticeUnhold x => exact (noticeUnholdRequest_talk x s).keepsFit
  | noticeClear x => exact (noticeClearRequest_talk x s).keepsFit
  | noticeOpen x => exact (laneCommand_talk commandOpen_talk x s).keepsFit
  | noticeClose x => exact (laneCommand_talk commandClose_talk x s).keepsFit
  | save => exact (saveRequest_talk s).keepsFit
  | restart => exact (restartRequest_talk p s).keepsFit
  | unnamed what =>
    cases what with
    | counter c => exact (counterMisfit_talk c s).keepsFit
    | status | port | notice => exact .refl s
  | _ => exact .refl s

/-- R177: the acceptance of a message adds messages to what its owner does. -/
theorem accept_keepsFit {o : State → State × Answer} (h : ∀ s, KeepsFit s (o s).1) (s : State) (p : Port)
    (kind tag : Octet) (right : Right) : KeepsFit s (s.accept p kind tag right o) := by
  have hmessages : ∀ {t u : State}, u.sansMsgs = t.sansMsgs → KeepsFit t u := fun h =>
    TalkStands.keepsFit ⟨(congrArg State.talk h :), (congrArg State.channels h :)⟩
  rcases accept_sansMsgs s p kind tag right o with hnothing | howner
  · exact hmessages hnothing
  · exact ((hmessages (reserve_sansMsgs s p)).trans (h _)).trans (hmessages howner)

theorem request_keepsFit (s : State) (p : Port) (tag : Octet) (r : Request) : KeepsFit s (s.request p tag r) :=
  accept_keepsFit (owner_keepsFit p r) s p _ tag _

theorem acceptMessage_keepsFit (s : State) (p : Port) (kind tag : Octet) (payload : List Octet) :
    KeepsFit s (s.acceptMessage p kind tag payload) := by
  unfold State.acceptMessage
  split
  · exact TalkStands.keepsFit (by simp)
  · refine accept_keepsFit (fun t => ?_) s p kind tag _
    unfold payloadOwner
    split
    · exact .refl t
    · exact owner_keepsFit p _ t

theorem completeMessage_keepsFit (s : State) (p : Port) (kind tag : Octet) (payload : List Octet) (keys : Keys) :
    KeepsFit s (s.completeMessage p kind tag payload keys) := by
  have haccepted : KeepsFit s (if kind = identReplyKind then s else s.acceptMessage p kind tag payload) := by
    split
    · exact .refl s
    · exact acceptMessage_keepsFit s p kind tag payload
  unfold State.completeMessage
  split
  · unfold State.probingMessage
    split
    · split
      · exact (takeIdent_talk s p _ _ _ _ _).keepsFit
      · exact .refl s
    · exact .refl s
  · exact haccepted
  · exact haccepted
  · exact .refl s

/-! ### The frames -/

theorem laneOctet_keepsFit (s : State) (p : Port) (start : Bool) (o : Octet) (keys : Keys) :
    KeepsFit s (s.laneOctet p start o keys) := by
  have hassembly : ∀ a, KeepsFit s (s.setAssembly p a) := fun a => TalkStands.keepsFit (by simp)
  unfold State.laneOctet
  split
  · exact hassembly _
  · exact .refl s
  · exact TalkStands.keepsFit (by simp)
  · unfold State.storeOctet
    split
    · exact TalkStands.keepsFit (by simp)
    split
    · refine (hassembly .empty).trans ?_
      unfold State.finishAssembly
      split
      · split
        · exact completeMessage_keepsFit _ p _ _ _ keys
        · exact .refl _
      · exact TalkStands.keepsFit (by simp)
    · exact hassembly _

theorem frameOctet_keepsFit (s : State) (p : Port) (f : UpFrame) : KeepsFit s (s.frameOctet p f) := by
  unfold State.frameOctet
  split
  · exact laneOctet_keepsFit s p _ _ _
  · exact .refl s

theorem talkEdge_keepsFit (s : State) (p : Port) (old new : Keys) (k : KeySlot) :
    KeepsFit s (s.talkEdge p old new k) := by
  unfold State.talkEdge
  split
  · exact (talkPress_keepsFit s p k).trans (TalkStands.keepsFit (by simp))
  split
  · exact talkRelease_keepsFit s p k
  · exact .refl s

theorem callEdge_keepsFit (s : State) (p : Port) (old new : Keys) (k : KeySlot) :
    KeepsFit s (s.callEdge p old new k) := by
  unfold State.callEdge
  split
  · exact callPress_keepsFit s p k
  · exact .refl s

theorem cueEdge_keepsFit (s : State) (p : Port) (old new : Keys) : KeepsFit s (s.cueEdge p old new) := by
  unfold State.cueEdge
  split
  · exact (changeCues_talk (fun t r => t.ackedCue r p) _ s).keepsFit
  · exact .refl s

theorem edges_keepsFit (s : State) (p : Port) (old new : Keys) : KeepsFit s (s.edges p old new) := by
  unfold State.edges
  split
  · exact ((KeepsFit.foldl (fun t k => talkEdge_keepsFit t p old new k) allSlots s).trans
      (.foldl (fun t k => callEdge_keepsFit t p old new k) allSlots _)).trans (cueEdge_keepsFit _ p old new)
  · exact cueEdge_keepsFit s p old new
  · exact .refl s

theorem takeKeys_keepsFit (s : State) (p : Port) (new : Keys) : KeepsFit s (s.takeKeys p new) := by
  have hset : KeepsFit s (s.setPort p { s.ports[p] with keyRef := some new }) := TalkStands.keepsFit (by simp)
  unfold State.takeKeys
  simp only
  split
  · exact hset.trans (edges_keepsFit _ p _ _)
  · exact hset

theorem takeGood_keepsFit (s : State) (p : Port) (f : UpFrame) : KeepsFit s (s.takeGood p f) := by
  have hcleared : KeepsFit s ((s.setSample p (some (UpFrame.sample f))).clearLoss p) :=
    TalkStands.keepsFit (by simp [State.clearLoss])
  unfold State.takeGood
  simp only
  split
  · exact .refl s
  · exact TalkStands.keepsFit (by simp [State.startProbing])
  · exact hcleared.trans (frameOctet_keepsFit _ p f)
  · exact (hcleared.trans (takeKeys_keepsFit _ p _)).trans (frameOctet_keepsFit _ p f)
  · exact (hcleared.trans (takeKeys_keepsFit _ p _)).trans (frameOctet_keepsFit _ p f)
  · exact hcleared

theorem takeMissing_keepsFit (s : State) (p : Port) : KeepsFit s (s.takeMissing p) := by
  have hvoid : KeepsFit s (s.setSample p none) := TalkStands.keepsFit (by simp)
  unfold State.takeMissing
  simp only
  split
  · exact .refl s
  · exact hvoid
  · split
    · exact hvoid.trans (fall_keepsFit _ p _ _)
    · exact hvoid.trans (TalkStands.keepsFit (by simp))

theorem takeFrame_keepsFit (s : State) (p : Port) (f : UpFrame) : KeepsFit s (s.takeFrame p f) := by
  unfold State.takeFrame
  split
  · split
    · exact takeGood_keepsFit s p f
    · exact takeMissing_keepsFit s p
  · exact .refl s

theorem frameMissed_keepsFit (s : State) (p : Port) : KeepsFit s (s.frameMissed p) := by
  unfold State.frameMissed
  split
  · exact takeMissing_keepsFit s p
  · exact .refl s

theorem linkLossEvent_keepsFit (s : State) (p : Port) : KeepsFit s (s.linkLossEvent p) := by
  unfold State.linkLossEvent
  split
  · exact takeMissing_keepsFit s p
  · exact .refl s

theorem octetSent_keepsFit (s : State) (p : Port) : KeepsFit s (s.octetSent p) := by
  unfold State.octetSent
  split
  · exact .refl s
  · rename_i e rest _
    split
    · exact TalkStands.keepsFit (by simp)
    · have hsent : KeepsFit s ((s.setQueue p rest).askSent p e) := by
        unfold State.askSent
        split
        · split <;> exact TalkStands.keepsFit (.refl s)
        · exact TalkStands.keepsFit (.refl s)
      refine hsent.trans ?_
      cases e.waits with
      | nothing => exact .refl _
      | deferred => exact carryOut_keepsFit _ p
      | restart => exact restart_keepsFit _

theorem downstream_keepsFit (s : State) (p : Port) : KeepsFit s (s.downstream p) := by
  have hline : ∀ f, KeepsFit s (s.setLine p f) := fun _ => TalkStands.keepsFit (by simp)
  have hservice : KeepsFit s (((s.setLine p (some (s.serviceFrame p))).setShown p (s.lampsNow p))) :=
    TalkStands.keepsFit (by simp)
  unfold State.downstream State.sendFrame
  split
  · split
    · exact hline _
    · exact hline _
    · exact hline _
    · exact (hline _).trans (octetSent_keepsFit _ p)
    · exact hservice.trans (octetSent_keepsFit _ p)
    · exact hservice.trans (octetSent_keepsFit _ p)
  · exact .refl s

theorem deferredEvent_keepsFit (s : State) (p : Port) : KeepsFit s (s.deferredEvent p) := by
  unfold State.deferredEvent
  split
  · exact carryOut_keepsFit s p
  · exact .refl s

theorem restartEvent_keepsFit (s : State) : KeepsFit s s.restartEvent := by
  unfold State.restartEvent
  split
  · exact .refl s
  · split
    · exact restart_keepsFit s
    · exact .refl s

/-! ### One command -/

/-- Every command of a running part keeps the lists within their bounds. -/
theorem exec_keepsFit {c : Instr} {s t : State} (hc : Instr.startsUp c = false) (h : exec c s = .next t) :
    KeepsFit s t := by
  cases hr : requestOf c with
  | some x =>
    obtain ⟨p, tag, kind, r⟩ := x
    rw [(exec_requestOf hr).2] at h
    cases h
    exact request_keepsFit s p tag r
  | none =>
    cases c <;> try contradiction
    case goodFrame p f => cases h; exact takeFrame_keepsFit s p f
    case frameDiscarded p f => cases h; exact takeFrame_keepsFit s p f
    case frameMissing p => cases h; exact frameMissed_keepsFit s p
    case linkLoss p => cases h; exact linkLossEvent_keepsFit s p
    case downstreamFrame p => cases h; exact downstream_keepsFit s p
    case deferredAction p => cases h; exact deferredEvent_keepsFit s p
    case restartCarriedOut => cases h; exact restartEvent_keepsFit s
    case identReply p tag cls n serial keys => cases h; exact (takeIdent_talk s p tag cls n serial keys).keepsFit
    case askDeadlineExpiry p => cases h; exact (askExpiry_talk s p).keepsFit
    case step k a b => cases h; exact (levelAB_talk s k a b).keepsFit
    case indexPulse k => cases h; exact (levelZ_talk s k true).keepsFit
    case idleTimerExpiry k => cases h; exact idleExpiry_keepsFit s k
    case deniedPeriodExpiry p k =>
      cases h
      unfold State.deniedExpiry
      split <;> exact TalkStands.keepsFit (.refl s)
    case ackDeadlineExpiry | followDeadlineExpiry | goDisplayExpiry | noticeBuild | displayDeadlineExpiry
      | holdoffDeadlineExpiry => cases h; exact TalkStands.keepsFit (by simp)
    case unknownKind p tag kind =>
      cases h
      unfold State.unknownMessage
      split
      · exact TalkStands.keepsFit (by simp)
      · exact .refl s
    case saveWriteAnswered => cases h; exact (saveStep_talk writeAnswered_talk s).keepsFit
    case saveCompletion => cases h; exact (saveAtMarker_talk s).keepsFit
    case saveFailure => cases h; exact (saveStep_talk (fun t x => by simp [State.writeFailed]) s).keepsFit
    case changeOfLevel k l => cases h; exact (changeLevel_talk s k l).keepsFit
    case badTable p tag isWrite table =>
      cases h
      unfold State.badTableRequest
      split
      · exact .refl s
      · exact request_keepsFit s p tag _
    case unnamedSubjectOrCommand p tag what => cases h; exact request_keepsFit s p tag _

end Sys2Proof.Machine
end

section
/-! Every step keeps the talker lists and the wait queues within their bounds (R120). -/

namespace Sys2Proof.Machine

/-- Lists that are all empty fit any Channel Table. -/
theorem talkFits_of_powerOn {s : State} (h : ∀ c : Chan, s.talk[c] = ChannelTalk.powerOn) : TalkFits s := by
  intro c
  rw [h c]
  exact ⟨Nat.zero_le _, Nat.zero_le _⟩

/-- R196: the end of a load leaves the empty lists of a part that loads. -/
theorem loadEnd_keepsFit {s t : State} {answered : Bool} (hs : TalkBounded s) (h : exec (.loadEnd answered) s = .next t) :
    TalkFits t := by
  change Host.Outcome.next (if (s.powered && s.loader == .loading) = true then s.endLoad answered else s) = _ at h
  obtain ⟨hquiet, hfits⟩ := hs
  split at h
  · rename_i hloading
    simp only [Bool.and_eq_true, beq_iff_eq] at hloading
    obtain ⟨-, -, hpowerOn, -⟩ := hquiet hloading.2
    obtain ⟨b, cause, hend, hb, -⟩ := endLoad_cases s answered
    cases h
    have hfinished : (b.finishLoad cause).talk = b.readied.talk := by
      rw [finishLoad_eq]
      simp only [raise_fields, evalZones_fields]
    have htalk : (s.endLoad answered).talk = s.talk := by
      rw [hend, hfinished, readied_eq, ← hb]
      rfl
    exact talkFits_of_powerOn fun c => htalk ▸ hpowerOn c
  · cases h
    exact hfits

/-- R120: every command keeps the lists within their bounds. -/
theorem exec_keeps_talk (c : Instr) (s t : State) (hs : TalkBounded s) (h : exec c s = .next t) : TalkBounded t := by
  refine ⟨exec_keeps_loadingQuiet c s t hs.1 h, ?_⟩
  cases hc : Instr.startsUp c with
  | false => exact exec_keepsFit hc h hs.2
  | true =>
    obtain hpower | ⟨answered, rfl⟩ := startsUp_cases hc
    · obtain ⟨power, rfl⟩ := exec_powerOn hpower h
      exact talkFits_of_powerOn fun c => get_replicate _ _
    · exact loadEnd_keepsFit hs h

theorem tick_keeps_talk (s : State) (hs : TalkBounded s) : TalkBounded s.tick := by
  refine ⟨tick_keeps_loadingQuiet hs.1, ?_⟩
  unfold State.tick
  split
  · exact hs.2
  · exact hs.2

/-- Settles O59: a place is taken only where one is free, and one more waits only behind fewer than eight. -/
theorem stepKeepsTalkBounded : Obligations.StepKeepsTalkBounded := fun _ _ hs h =>
  step_keeps (fun _ _ => id) tick_keeps_talk exec_keeps_talk hs h

end Sys2Proof.Machine
end

section
/-! The mix of a listener and its listen set (R136, R148, R149). -/

namespace Sys2Proof.Machine

/-! ### The sums -/

/-- R147: a void sample contributes 0. -/
theorem sampleValue_eq (s : State) (p : Port) : s.sampleValue p = ((s.samples[p]).map BitVec.toInt).getD 0 := by
  unfold State.sampleValue
  cases s.samples[p] <;> rfl

/-- R148 step 1. -/
theorem channelSum_eq (s : State) (p : Port) (c : Chan) :
    s.channelSum p c =
      ((s.talk[c].talkers.filter fun e => e.port ≠ p ∨ s.profiles[p].sidetone = true).map fun e =>
        ((s.samples[e.port]).map BitVec.toInt).getD 0).sum := by
  have hheard : (fun e : TalkEntry => e.port != p || s.profiles[p].sidetone) =
      fun e => decide (e.port ≠ p ∨ s.profiles[p].sidetone = true) := by
    funext e
    rw [Bool.eq_iff_iff]
    simp
  simp only [State.channelSum, hheard, sampleValue_eq]

/-- A sum over the entries that pass a test, and over all of them with 0 for the others. -/
theorem sum_filter_map {α : Type} (f : α → Int) (test : α → Bool) :
    ∀ l : List α, ((l.filter test).map f).sum = (l.map fun x => if test x = true then f x else 0).sum
  | [] => rfl
  | x :: l => by
    cases h : test x <;> simp [h, sum_filter_map f test l]

/-- R149: a value clamped to the sample range is what its sixteen bits hold. -/
theorem clampSample_toInt (v : Int) :
    (BitVec.ofInt 16 (clampSample v)).toInt = if v < -32768 then -32768 else if 32767 < v then 32767 else v := by
  have hclamped : clampSample v = if v < -32768 then -32768 else if 32767 < v then 32767 else v := by
    unfold clampSample
    omega
  have hrange : -32768 ≤ clampSample v ∧ clampSample v ≤ 32767 := by
    unfold clampSample
    omega
  rw [← hclamped, BitVec.toInt_ofInt]
  obtain ⟨hlow, hhigh⟩ := hrange
  exact Int.bmod_eq_of_le (by omega) (by omega)

/-! ### The listen set -/

theorem SlotMode.hears_iff (m : SlotMode) : m.hears = true ↔ m ≠ .talk := by
  cases m <;> decide

theorem CueState.forces_iff (x : CueState) : x.forces = true ↔ x ≠ .going := by
  cases x <;> decide

theorem mem_allSlots (k : KeySlot) : k ∈ allSlots := by
  revert k
  decide

/-- R136: the channels of a port's own slots. -/
theorem slotListens_iff (s : State) (p : Port) (c : Chan) :
    s.slotListens p c = true ↔
      ∃ k : KeySlot, s.inert p k = false ∧ s.profiles[p].slots[k].channel = some c ∧ s.profiles[p].slots[k].mode ≠ .talk := by
  simp only [State.slotListens, List.any_eq_true, mem_allSlots, true_and, Bool.and_eq_true, Bool.not_eq_true', beq_iff_eq,
    SlotMode.hears_iff, State.slotConfig, and_assoc]

/-- R136: the cue channels that force a port to listen. -/
theorem forced_iff (s : State) (p : Port) (c : Chan) :
    s.forced p c = true ↔
      ∃ r ∈ s.active, r.state ≠ .going ∧ r.targets.mem p = true ∧ s.liveTables.cues[r.slot].cueChannel = some c := by
  simp only [State.forced, List.any_eq_true, Bool.and_eq_true, beq_iff_eq, CueState.forces_iff, State.cue, and_assoc]

/-- Settles O41: the sums channel by channel, the clamp, and the two sources of the listen set. -/
theorem mixIsTheClampedSum : Obligations.MixIsTheClampedSum := by
  refine ⟨fun s p => ?_, fun s p c => ?_⟩
  · simp only [State.mixSample, clampSample_toInt, State.mixTotal, sum_filter_map, State.channelResult, channelSum_eq,
      allChannels]
  · rw [State.listens, Bool.and_eq_true, Bool.or_eq_true, slotListens_iff, forced_iff]

end Sys2Proof.Machine
end

section
/-! Deadlines of talk and calls that the clock has reached (R132, R135, R142). -/

namespace Sys2Proof.Machine

/-- R132: an idle release without its notice: the latched entries gone, the heads granted, the timer stopped. -/
def State.idleReleased (s : State) (c : Chan) : State :=
  let talkers := s.talk[c].talkers.filter fun e => !e.latched
  let waiters := s.talk[c].waiters.filter fun e => !e.latched
  let room := s.channels[c].maxTalkers - talkers.length
  { s with
    talk := put s.talk c { talkers := talkers ++ waiters.take room, waiters := waiters.drop room, idle := none } }

/-- R126, R132: grants that an idle expiry makes do not reload the timer. -/
theorem unlatched_granted (s : State) (c : Chan) :
    (s.setTalk c s.talk[c].unlatched).grantHeads c false = s.idleReleased c := by
  simp [State.grantHeads, State.setTalk, State.idleReleased, ChannelTalk.granted, ChannelTalk.room,
    ChannelTalk.unlatched]

/-- R132: what the expiry of an idle timer that is due does. -/
theorem idleExpiry_due {s : State} {c : Chan} {d : Time} (hidle : s.talk[c].idle = some d) (hdue : d ≤ s.clock) :
    s.idleExpiry c =
      if s.talk[c].latchedCount = 0 then s.setTalk c { s.talk[c] with idle := none }
      else (s.idleReleased c).raise (.idleRelease c s.talk[c].latchedCount) := by
  rw [State.idleExpiry, hidle, if_pos ((reached_some s d).2 hdue), State.idleExpired, unlatched_granted]

/-- Settles O39: each deadline that stands and is due is expired. -/
theorem talkAndCallDeadlinesExpire : Obligations.TalkAndCallDeadlinesExpire := by
  intro s c p k d hdue
  have hreached := (reached_some s d).2 hdue
  refine ⟨fun hidle => ⟨fun hlatched => ?latched, fun hnone => ?unlatched⟩, fun hdenied => ?denied, fun q hflash => ?display,
    fun hholdoff => ?holdoff⟩
  case latched =>
    refine ⟨_, congrArg Host.Outcome.next ((idleExpiry_due hidle hdue).trans (if_neg hlatched.ne')), ?_, ?_⟩
    · exact (messagesAside_iff _ _).2 (raise_sansMsgs _ _)
    · exact (raise_detail _ _ _).trans (if_pos rfl)
  case unlatched => exact congrArg Host.Outcome.next ((idleExpiry_due hidle hdue).trans (if_pos hnone))
  case denied => exact congrArg Host.Outcome.next (if_pos (hdenied ▸ hreached))
  case display =>
    have hdisplay : s.reached (s.calls[p][k].flash.map Flash.deadline) = true := by rw [hflash]; exact hreached
    exact congrArg Host.Outcome.next (if_pos hdisplay)
  case holdoff => exact congrArg Host.Outcome.next (if_pos (hholdoff ▸ hreached))

end Sys2Proof.Machine
end

section
/-! The downstream frame of a port (R156, R172) and the lamps it carries (R117, R134, R145). -/

namespace Sys2Proof.Machine

/-! ### The frame of each port state -/

/-- R171: the frame check of six octets 0. -/
theorem crc8_zeros : crc8 0 [0, 0, 0, 0, 0, 0] = 0 := by
  have hzero : crcOctet 0 0 = 0 := by decide
  simp only [crc8, List.foldl_cons, List.foldl_nil, hzero]

/-- R156, R172: a frame that carries nothing. -/
theorem downFrame_zeros (start : Octet) : downFrame start 0 0 0 0 0 0 = #v[start, 0, 0, 0, 0, 0, 0, 0] := by
  simp only [downFrame, crc8_zeros]

/-- R156: a loaded part sends. -/
theorem downstream_loaded {s : State} (hl : s.loader ≠ .loading) (p : Port) : s.downstream p = s.sendFrame p := by
  unfold State.downstream State.loaded
  exact if_pos (by simpa using hl)

theorem present_iff (s : State) (p : Port) :
    s.present p = true ↔ s.ports[p].state = .up ∨ s.ports[p].state = .quiet := by
  unfold State.present
  cases s.ports[p].state <;> simp [PortState.present]

/-- R156: a port that is identifying sends PROBE frames. -/
theorem sendFrame_probing {s : State} {p : Port} (h : s.ports[p].state = .probing) :
    s.sendFrame p = (s.setLine p (some (s.probeFrame p))).octetSent p := by
  unfold State.sendFrame
  rw [h]

/-- R156: a present port sends SERVICE frames. -/
theorem sendFrame_present {s : State} {p : Port} (h : s.present p = true) :
    s.sendFrame p = ((s.setLine p (some (s.serviceFrame p))).setShown p (s.lampsNow p)).octetSent p := by
  unfold State.sendFrame
  rcases (present_iff s p).1 h with h | h <;> rw [h]

theorem nextOctet_nil {s : State} {p : Port} (h : s.queues[p] = []) : s.nextOctet p = none := by
  unfold State.nextOctet
  rw [h]

theorem octetSent_nil {s : State} {p : Port} (h : s.queues[p] = []) : s.octetSent p = s := by
  unfold State.octetSent
  rw [h]

/-- R156, R172: the frame of each port state with nothing to send. -/
theorem downstreamFrame_of_emptyQueue {s : State} (p : Port) (hl : s.loader ≠ .loading) (hq : s.queues[p] = []) :
    (s.ports[p].state = .probing →
        exec (.downstreamFrame p) s = .next { s with line := put s.line p (some #v[0x72, 0, 0, 0, 0, 0, 0, 0]) })
      ∧ (s.present p = true →
        exec (.downstreamFrame p) s = .next
          { s with
            line := put s.line p
              (some (downFrame 0x71 ((s.mixSample p).extractLsb' 8 8) ((s.mixSample p).extractLsb' 0 8)
                (talkOctet (s.lampsNow p).talk) (lampOctet (s.lampsNow p).call (s.cueLamp p) false) 0 0))
            shown := put s.shown p (s.lampsNow p) }) := by
  have hsent : ∀ t : State, t.queues = s.queues → t.octetSent p = t := fun t ht => octetSent_nil (ht ▸ hq)
  refine ⟨fun hprobing => congrArg Host.Outcome.next ?_, fun hpresent => congrArg Host.Outcome.next ?_⟩
  · have hframe : s.probeFrame p = #v[0x72, 0, 0, 0, 0, 0, 0, 0] := by
      unfold State.probeFrame
      rw [nextOctet_nil hq]
      exact downFrame_zeros 0x72
    rw [downstream_loaded hl, sendFrame_probing hprobing, hsent _ (by simp), hframe]
    rfl
  · rw [downstream_loaded hl, sendFrame_present hpresent, hsent _ (by simp), State.serviceFrame, nextOctet_nil hq]
    rfl

/-- R156: the frames of the ports that are not identified. -/
theorem downstreamFrame_of_unidentified {s : State} (p : Port) (hl : s.loader ≠ .loading) :
    (s.ports[p].state = .disabled → exec (.downstreamFrame p) s = .next { s with line := put s.line p none })
      ∧ (s.ports[p].state = .down ∨ s.ports[p].state = .fault →
        exec (.downstreamFrame p) s = .next { s with line := put s.line p (some #v[0x74, 0, 0, 0, 0, 0, 0, 0]) }) := by
  have hframe : idleFrame = #v[0x74, 0, 0, 0, 0, 0, 0, 0] := downFrame_zeros 0x74
  refine ⟨fun h => congrArg Host.Outcome.next ?_, fun h => congrArg Host.Outcome.next ?_⟩
  · rw [downstream_loaded hl, State.sendFrame, h]
    rfl
  · rw [downstream_loaded hl, State.sendFrame, ← hframe]
    rcases h with h | h <;> rw [h] <;> rfl

/-! ### The lamps -/

/-- R117: a slot above the key count of the station is inert. -/
theorem inert_iff (s : State) (p : Port) (k : KeySlot) :
    s.inert p k = true ↔ ∃ i, s.ports[p].ident = some i ∧ i.keyCount < k.val + 1 := by
  unfold State.inert State.keyCount
  cases s.ports[p].ident with
  | some i => simp
  | none => simp

theorem lampsNow_talk (s : State) (p : Port) (k : KeySlot) : (s.lampsNow p).talk[k] = s.talkLamp p k := by
  fin_cases k <;> rfl

theorem lampsNow_call (s : State) (p : Port) (k : KeySlot) : (s.lampsNow p).call[k] = s.callLamp p k := by
  fin_cases k <;> rfl

/-- R134: an entry of a slot stands in one list of some channel. -/
theorem any_isFrom_iff (s : State) (list : ChannelTalk → List TalkEntry) (p : Port) (k : KeySlot) :
    (s.talk.toList.any fun t => (list t).any fun e => e.isFrom p k) = true ↔
      ∃ c : Chan, ∃ e ∈ list s.talk[c], e.port = p ∧ e.slot = k := by
  simp only [List.any_eq_true, TalkEntry.isFrom, Bool.and_eq_true, beq_iff_eq, Vector.mem_toList_iff]
  constructor
  · rintro ⟨t, ht, e, he, hfrom⟩
    obtain ⟨i, hi, rfl⟩ := Vector.mem_iff_getElem.1 ht
    exact ⟨⟨i, hi⟩, e, he, hfrom⟩
  · rintro ⟨c, e, he, hfrom⟩
    exact ⟨s.talk[c], Vector.getElem_mem c.isLt, e, he, hfrom⟩

theorem SlotMode.talks_iff (m : SlotMode) : m.talks = true ↔ m ≠ .listen := by
  cases m <;> decide

/-- R134: the lamp of a slot that cannot talk is OFF. -/
theorem talkLamp_off {s : State} {p : Port} {k : KeySlot}
    (h : s.inert p k = true ∨ s.profiles[p].slots[k].channel = none ∨ s.profiles[p].slots[k].mode = .listen) :
    s.talkLamp p k = .off := by
  unfold State.talkLamp State.slotConfig
  refine if_pos ?_
  rcases h with h | h | h <;> rw [h] <;> simp [SlotMode.talks]

/-- R134: the lamp of a slot that may talk: its entries first, talkers before waiters, then its DENIED period. -/
theorem talkLamp_talks {s : State} {p : Port} {k : KeySlot} (hinert : s.inert p k = false)
    (hchannel : s.profiles[p].slots[k].channel ≠ none) (hmode : s.profiles[p].slots[k].mode ≠ .listen) :
    s.talkLamp p k =
      if (s.talk.toList.any fun t => t.talkers.any fun e => e.isFrom p k) = true then .talking
      else if (s.talk.toList.any fun t => t.waiters.any fun e => e.isFrom p k) = true then .waiting
      else if s.denied[p][k].isSome = true then .denied
      else .off := by
  have htalks := (SlotMode.talks_iff _).2 hmode
  have hsome : (s.profiles[p].slots[k].channel).isNone = false :=
    Bool.eq_false_iff.2 fun h => hchannel (Option.isNone_iff_eq_none.1 h)
  unfold State.talkLamp State.slotConfig
  rw [hinert, htalks, hsome, if_neg (by decide)]

/-- R145: a call lamp flashes while the record of a slot that is not inert does. -/
theorem callLamp_iff (s : State) (p : Port) (k : KeySlot) :
    s.callLamp p k = true ↔ s.inert p k = false ∧ s.calls[p][k].flash ≠ none := by
  simp [State.callLamp, Option.isSome_iff_ne_none]

/-! ### The octets of the lamps -/

/-- R172: the two bits of a slot's talk lamp. -/
theorem talkOctet_extract (talk : Vector TalkLamp 4) (k : KeySlot) :
    (talkOctet talk).extractLsb' (2 * k.val) 2 = talk[k].code := by
  apply BitVec.eq_of_getLsbD_eq
  intro i hi
  fin_cases k <;> simp [talkOctet] <;> grind

/-- R172: the bits of a slot's call lamp, of the cue lamp, and the bit of the message octet. -/
theorem lampOctet_bits (call : Vector Bool 4) (cue : CueLamp) (lane : Bool) :
    (∀ k : KeySlot, (lampOctet call cue lane).getLsbD (4 + k.val) = call[k])
      ∧ (lampOctet call cue lane).extractLsb' 1 3 = cue.code ∧ (lampOctet call cue lane).getLsbD 0 = lane := by
  refine ⟨fun k => ?_, ?_, ?_⟩
  · fin_cases k <;> simp [lampOctet] <;> grind
  · apply BitVec.eq_of_getLsbD_eq
    intro i hi
    simp only [lampOctet, BitVec.getLsbD_extractLsb', hi]
    grind
  · simp only [lampOctet]
    grind

/-! ### The statement -/

/-- Settles O14: the frame by the state of the port, the lamps by the lists, the octets bit by bit. -/
theorem downstreamFrameByPortState : Obligations.DownstreamFrameByPortState := by
  refine ⟨fun s p hl => ?frames, fun s p k => ?lamps, fun talk k => ?talkBits, fun call cue lane => ?lampBits,
    fun _ _ _ _ _ _ _ => rfl⟩
  case frames =>
    obtain ⟨hdisabled, hdown⟩ := downstreamFrame_of_unidentified p hl
    exact ⟨hdisabled, hdown, downstreamFrame_of_emptyQueue p hl⟩
  case lamps =>
    refine ⟨inert_iff s p k, ?_, ?_, ?_⟩
    · rw [lampsNow_talk]
      exact talkLamp_off
    · intro hinert hchannel hmode
      have htalking := any_isFrom_iff s ChannelTalk.talkers p k
      have hwaiting := any_isFrom_iff s ChannelTalk.waiters p k
      have hdenied : s.denied[p][k].isSome = true ↔ s.denied[p][k] ≠ none := Option.isSome_iff_ne_none
      rw [lampsNow_talk, talkLamp_talks hinert hchannel hmode]
      refine ⟨fun h => if_pos (htalking.2 h), fun h h' => ?_, fun h h' h'' => ?_, fun h h' h'' => ?_⟩
      · rw [if_neg (mt htalking.1 h), if_pos (hwaiting.2 h')]
      · rw [if_neg (mt htalking.1 h), if_neg (mt hwaiting.1 h'), if_pos (hdenied.2 h'')]
      · rw [if_neg (mt htalking.1 h), if_neg (mt hwaiting.1 h'), if_neg fun hd => hdenied.1 hd h'']
    · rw [lampsNow_call]
      exact callLamp_iff s p k
  case talkBits =>
    rw [talkOctet_extract]
    cases talk[k] <;> rfl
  case lampBits =>
    obtain ⟨hcall, hcue, hlane⟩ := lampOctet_bits call cue lane
    refine ⟨hcall, ?_, hlane⟩
    rw [hcue]
    cases cue <;> rfl

end Sys2Proof.Machine
end

section
/-! SUPPORT. The operations of the Talk Arbiter as whole states (R121–R131): what each leaves of the lists, the timers and the
DENIED periods, and the notice that a preemption raises behind them. -/

namespace Sys2Proof.Machine

/-! ### Notices and the lists do not meet -/

/-- A change of one channel's lists may stand ahead of a notice raised before it. -/
theorem raise_setTalk (s : State) (d : NoticeDetail) (c : Chan) (x : ChannelTalk) :
    (s.raise d).setTalk c x = (s.setTalk c x).raise d := by
  have hmailed : (s.setTalk c x).raise d = (s.setTalk c x).mailed (s.raise d) :=
    raise_mailed (x := s.setTalk c x) (m := s) ⟨rfl, rfl, rfl⟩ d
  rw [hmailed, eq_mailed (raise_sansMsgs s d)]
  rfl

/-- A change of a DENIED period may stand ahead of a notice raised before it. -/
theorem raise_setDenied (s : State) (d : NoticeDetail) (p : Port) (k : KeySlot) (x : Option Time) :
    (s.raise d).setDenied p k x = (s.setDenied p k x).raise d := by
  have hmailed : (s.setDenied p k x).raise d = (s.setDenied p k x).mailed (s.raise d) :=
    raise_mailed (x := s.setDenied p k x) (m := s) ⟨rfl, rfl, rfl⟩ d
  rw [hmailed, eq_mailed (raise_sansMsgs s d)]
  rfl

theorem raise_appendTalker (s : State) (d : NoticeDetail) (c : Chan) (e : TalkEntry) :
    (s.raise d).appendTalker c e = (s.appendTalker c e).raise d := by
  simp only [State.appendTalker, raise_fields, raise_setTalk]

theorem raise_reloadIdle (s : State) (d : NoticeDetail) (c : Chan) :
    (s.raise d).reloadIdle c = (s.reloadIdle c).raise d := by
  simp only [State.reloadIdle, raise_fields, raise_setTalk]

/-! ### DENIED periods and timers -/

/-- Reading a DENIED period after one has been replaced. -/
theorem setDenied_at (s : State) (p q : Port) (k j : KeySlot) (d : Option Time) :
    (s.setDenied p k d).denied[q][j] = if q = p ∧ j = k then d else s.denied[q][j] := by
  simp only [setDenied_fields, get_put]
  by_cases hq : q = p
  · subst hq
    simp only [if_true, get_put, true_and]
  · simp only [hq, if_false, false_and]

/-- R131: the deadline that a reload gives a channel's idle timer. -/
def State.idleDeadline (s : State) (c : Chan) : Option Time :=
  if s.channels[c].idleRelease = 0 then none else some (s.clock + 8000 * s.channels[c].idleRelease)

theorem reloadIdle_eq (s : State) (c : Chan) :
    s.reloadIdle c = s.setTalk c { s.talk[c] with idle := s.idleDeadline c } := rfl

/-! ### Displacement -/

/-- R115, R125: a displaced entry without its notice: placed at the front of its class or denied. -/
def State.displaced (s : State) (c : Chan) (placed : List Port) (e : TalkEntry) : State :=
  if s.talk[c].waiters.length < 8 then
    s.setTalk c { s.talk[c] with waiters := queueAtFront placed e s.talk[c].waiters }
  else s.startDenied e.port e.slot

/-- R115, R125: how an offer to the wait queue ends. -/
def State.outcome (s : State) (c : Chan) : PreemptOutcome :=
  if s.talk[c].waiters.length < 8 then .queued else .dropped

theorem displace_eq (s : State) (c : Chan) (placed : List Port) (cause : PreemptCause) (e : TalkEntry) :
    s.displace c placed cause e = (s.displaced c placed e).raise (.talkPreempted c e.port cause (s.outcome c)) := by
  unfold State.displace State.displaced State.outcome
  split <;> rfl

/-- R115, R125: what the displacement of an entry leaves of the lists and of the DENIED periods. -/
theorem displaced_spec (s : State) (c : Chan) (placed : List Port) (e : TalkEntry) :
    s.displaced c placed e = { s with talk := (s.displaced c placed e).talk, denied := (s.displaced c placed e).denied }
      ∧ (s.displaced c placed e).talk[c] =
        { s.talk[c] with
          waiters :=
            if s.talk[c].waiters.length < 8 then queueAtFront placed e s.talk[c].waiters else s.talk[c].waiters }
      ∧ (∀ x : Chan, x ≠ c → (s.displaced c placed e).talk[x] = s.talk[x])
      ∧ ∀ (q : Port) (k : KeySlot), (s.displaced c placed e).denied[q][k] =
        if 8 ≤ s.talk[c].waiters.length ∧ q = e.port ∧ k = e.slot then some (s.clock + 8 * 1000) else s.denied[q][k] := by
  unfold State.displaced
  split
  · rename_i hroom
    refine ⟨rfl, ?_, fun x hx => ?_, fun q k => ?_⟩
    · simp only [setTalk_fields, get_put, if_true]
    · simp only [setTalk_fields, get_put, if_neg hx]
    · exact (if_neg fun ⟨hfull, _⟩ => Nat.not_lt.2 hfull hroom).symm
  · rename_i hfull
    refine ⟨rfl, rfl, fun x hx => rfl, fun q k => ?_⟩
    rw [State.startDenied, setDenied_at]
    simp only [Nat.not_lt.1 hfull, true_and]
    rfl

/-! ### The victim of a request -/

/-- R125: the most recently granted talker of the lowest priority is the victim of a request above it. -/
theorem victim_eq {t : ChannelTalk} {front after : List TalkEntry} {v : TalkEntry} {priority : Fin 4}
    (hlist : t.talkers = front ++ v :: after) (hbelow : v.priority < priority)
    (hfront : ∀ x ∈ front, v.priority ≤ x.priority) (hafter : ∀ x ∈ after, v.priority < x.priority) :
    t.victim priority = some v := by
  have hmin : (t.talkers.map TalkEntry.priority).min? = some v.priority := by
    rw [List.min?_eq_some_iff]
    refine ⟨List.mem_map.2 ⟨v, by simp [hlist], rfl⟩, fun b hb => ?_⟩
    obtain ⟨x, hx, rfl⟩ := List.mem_map.1 hb
    rw [hlist, List.mem_append, List.mem_cons] at hx
    rcases hx with hx | rfl | hx
    · exact hfront x hx
    · exact le_rfl
    · exact (hafter x hx).le
  have hlast : (after.reverse.find? fun e => e.priority == v.priority) = none := by
    rw [List.find?_eq_none]
    intro x hx
    simpa using (hafter x (List.mem_reverse.1 hx)).ne'
  unfold ChannelTalk.victim
  rw [hmin]
  simp only [if_pos hbelow, hlist, List.reverse_append, List.reverse_cons, List.append_assoc, List.find?_append, hlast]
  simp

/-- R125: nobody is preempted by a request that is above no talker. -/
theorem victim_none {t : ChannelTalk} {priority : Fin 4} (h : ∀ x ∈ t.talkers, priority ≤ x.priority) :
    t.victim priority = none := by
  unfold ChannelTalk.victim
  split
  · rfl
  · rename_i low hlow
    have hmem := List.min?_mem hlow
    obtain ⟨x, hx, rfl⟩ := List.mem_map.1 hmem
    exact if_neg (not_lt.2 (h x hx))

/-! ### A request -/

/-- R124 step 1: a request that finds a free place. -/
theorem requestTalk_granted {s : State} {c : Chan} (e : TalkEntry)
    (h : s.talk[c].talkers.length < s.channels[c].maxTalkers) :
    s.requestTalk c e = ((s.appendTalker c e).setDenied e.port e.slot none).reloadIdle c := by
  rw [State.requestTalk, State.requestSteps, if_pos h]

/-- R124 step 2: a request that preempts: the lists first, then TALK_PREEMPTED. -/
theorem requestTalk_preempts {s : State} {c : Chan} {e v : TalkEntry}
    (hfull : s.channels[c].maxTalkers ≤ s.talk[c].talkers.length) (hv : s.victimOf c e = some v) :
    s.requestTalk c e =
      (((((s.dropTalker c v).displaced c [] v).appendTalker c e).setDenied e.port e.slot none).reloadIdle c).raise
        (.talkPreempted c v.port (.priority e.port) (s.outcome c)) := by
  have houtcome : (s.dropTalker c v).outcome c = s.outcome c := by
    simp only [State.outcome, State.dropTalker, setTalk_fields, get_put, if_true]
  rw [State.requestTalk, State.requestSteps, if_neg (Nat.not_lt.2 hfull), hv]
  simp only [displace_eq, houtcome, raise_appendTalker, raise_setDenied, raise_reloadIdle]

/-- R124 step 3: a request that waits. -/
theorem requestTalk_waits {s : State} {c : Chan} {e : TalkEntry}
    (hfull : s.channels[c].maxTalkers ≤ s.talk[c].talkers.length) (hv : s.victimOf c e = none)
    (hroom : s.talk[c].waiters.length < 8) :
    s.requestTalk c e =
      ((s.setTalk c { s.talk[c] with waiters := queueAtEnd e s.talk[c].waiters }).setDenied e.port e.slot none).reloadIdle
        c := by
  rw [State.requestTalk, State.requestSteps, if_neg (Nat.not_lt.2 hfull), hv]
  exact congrArg (State.reloadIdle · c) (if_pos hroom)

/-- R124 step 4: a request that is denied. -/
theorem requestTalk_denied {s : State} {c : Chan} {e : TalkEntry}
    (hfull : s.channels[c].maxTalkers ≤ s.talk[c].talkers.length) (hv : s.victimOf c e = none)
    (hwait : 8 ≤ s.talk[c].waiters.length) : s.requestTalk c e = (s.startDenied e.port e.slot).reloadIdle c := by
  rw [State.requestTalk, State.requestSteps, if_neg (Nat.not_lt.2 hfull), hv]
  exact congrArg (State.reloadIdle · c) (if_neg (Nat.not_lt.2 hwait))

/-- R131: a request reloads the idle timer, whatever its outcome. -/
theorem requestTalk_idle (s : State) (c : Chan) (e : TalkEntry) : (s.requestTalk c e).talk[c].idle = s.idleDeadline c := by
  simp only [State.requestTalk, reloadIdle_eq, setTalk_fields, get_put, if_true, State.idleDeadline,
    requestSteps_fields]

/-- R124: a request leaves the other channels. -/
theorem requestTalk_other (s : State) {c x : Chan} (e : TalkEntry) (hx : x ≠ c) :
    (s.requestTalk c e).talk[x] = s.talk[x] := by
  have hreload : ∀ t : State, (t.reloadIdle c).talk[x] = t.talk[x] := fun t => by
    simp only [reloadIdle_eq, setTalk_fields, get_put, if_neg hx]
  by_cases hroom : s.talk[c].talkers.length < s.channels[c].maxTalkers
  · rw [requestTalk_granted e hroom, hreload]
    simp only [setDenied_fields, State.appendTalker, setTalk_fields, get_put, if_neg hx]
  · cases hv : s.victimOf c e with
    | some v =>
      obtain ⟨-, -, hother, -⟩ := displaced_spec (s.dropTalker c v) c [] v
      have hdropped : (s.dropTalker c v).talk[x] = s.talk[x] := by
        simp only [State.dropTalker, setTalk_fields, get_put, if_neg hx]
      rw [requestTalk_preempts (Nat.not_lt.1 hroom) hv]
      simp only [raise_fields, hreload, setDenied_fields, State.appendTalker, setTalk_fields, get_put, if_neg hx, hother x hx,
        hdropped]
    | none =>
      by_cases hwait : s.talk[c].waiters.length < 8
      · rw [requestTalk_waits (Nat.not_lt.1 hroom) hv hwait, hreload]
        simp only [setDenied_fields, setTalk_fields, get_put, if_neg hx]
      · rw [requestTalk_denied (Nat.not_lt.1 hroom) hv (Nat.not_lt.1 hwait), hreload]
        rfl

end Sys2Proof.Machine
end

section
/-! A talk request, and what a press and a release of a talk key do under each key action (R121, R123–R131, R135). -/

namespace Sys2Proof.Machine

/-! ### Releases -/

/-- R126: grants stand in their channel's entry. -/
theorem grantHeads_eq (s : State) (c : Chan) (b : Bool) : s.grantHeads c b = s.setTalk c (s.grantHeads c b).talk[c] := by
  unfold State.grantHeads
  simp only
  split <;> simp [State.setTalk, State.reloadIdle]

/-- R118, R126: a removal and the grants behind it stand in their channel's entry. -/
theorem removeTalk_eq (s : State) (c : Chan) (p : Port) : s.removeTalk c p = s.setTalk c (s.talkFreed c p) := by
  have hlists := removeTalk_talk s c c p
  rw [if_pos rfl] at hlists
  rw [← hlists]
  unfold State.removeTalk
  simp only
  split
  · rw [grantHeads_eq]
    simp [State.setTalk]
  · simp [State.setTalk]

/-- R123, R131: a release by a key: the places freed, and the timer reloaded. -/
theorem releaseTalk_eq (s : State) (c : Chan) (p : Port) :
    s.releaseTalk c p = s.setTalk c { s.talkFreed c p with idle := s.idleDeadline c } := by
  rw [State.releaseTalk, removeTalk_eq, reloadIdle_eq]
  simp only [State.setTalk, get_put, if_true, put_put]
  rfl

/-! ### Keys -/

/-- R122: a port holds no entry on a channel. -/
theorem entryOf_none {t : ChannelTalk} {p : Port} : t.entryOf p = none ↔ ∀ e ∈ t.talkers ++ t.waiters, e.port ≠ p := by
  simp only [ChannelTalk.entryOf, List.find?_eq_none, beq_iff_eq, ne_eq]

/-- R122: the first entry of a port is the one it holds. -/
theorem entryOf_some {t : ChannelTalk} {p : Port} {front after : List TalkEntry} {e : TalkEntry}
    (hlist : t.talkers ++ t.waiters = front ++ e :: after) (hfront : ∀ x ∈ front, x.port ≠ p) (he : e.port = p) :
    t.entryOf p = some e := by
  have hnone : (front.find? fun x => x.port == p) = none := by simpa using hfront
  rw [ChannelTalk.entryOf, hlist, List.find?_append, hnone, List.find?_cons_of_pos (by simpa using he)]
  rfl

/-- R123: a slot that may not talk acts on no channel. -/
theorem talkChannel_none {s : State} {p : Port} {k : KeySlot}
    (h : s.inert p k = true ∨ s.profiles[p].slots[k].channel = none ∨ s.profiles[p].slots[k].mode = .listen) :
    s.talkChannel p k = none := by
  unfold State.talkChannel State.slotConfig
  rcases h with h | h | h <;> rw [h]
  · rfl
  · exact ite_self none
  · simp [SlotMode.talks]

theorem talkChannel_some {s : State} {p : Port} {k : KeySlot} {c : Chan} (hinert : s.inert p k = false)
    (hchannel : s.profiles[p].slots[k].channel = some c) (hmode : s.profiles[p].slots[k].mode ≠ .listen) :
    s.talkChannel p k = some c := by
  unfold State.talkChannel State.slotConfig
  rw [hinert, (SlotMode.talks_iff _).2 hmode, hchannel]
  rfl

/-- R130: the entry of a port latched. -/
theorem latch_eq (t : ChannelTalk) (p : Port) :
    t.latch p =
      { t with
        talkers := t.talkers.map fun e => if e.port = p then { e with latched := true, pressTime := none } else e
        waiters := t.waiters.map fun e => if e.port = p then { e with latched := true, pressTime := none } else e } := by
  simp only [ChannelTalk.latch, beq_iff_eq]

/-- R130: a release is a tap below the tap threshold after the press. -/
theorem isTap_some (s : State) {e : TalkEntry} {d : Nat} (hd : e.pressTime = some d) :
    s.isTap e = true ↔ s.clock - d < ms s.router.threshold := by
  unfold State.isTap
  rw [hd]
  exact decide_eq_true_iff

theorem isTap_none (s : State) {e : TalkEntry} (hd : e.pressTime = none) : s.isTap e = false := by
  unfold State.isTap
  rw [hd]

section
variable {s : State} {p : Port} {k : KeySlot} {c : Chan} (hchannel : s.talkChannel p k = some c)
include hchannel

/-- R127–R129: a press of a slot whose port holds no entry on the channel makes a request. -/
theorem talkPress_absent (h : s.talk[c].entryOf p = none) :
    s.talkPress p k = s.requestTalk c
      (match s.profiles[p].slots[k].action with
      | .momentary => s.newTalkEntry p k false none
      | .latching => s.newTalkEntry p k true none
      | .auto => s.newTalkEntry p k false (some s.clock)) := by
  simp only [State.talkPress, hchannel, h, State.slotConfig]
  cases s.profiles[p].slots[k].action <;> rfl

/-- R127–R129: a press of a slot whose port holds an entry on the channel releases it, or under MOMENTARY does nothing. -/
theorem talkPress_holds {e : TalkEntry} (h : s.talk[c].entryOf p = some e) :
    s.talkPress p k = if s.profiles[p].slots[k].action = .momentary then s else s.releaseTalk c p := by
  simp only [State.talkPress, hchannel, h, State.slotConfig]
  cases s.profiles[p].slots[k].action <;> rfl

/-- R127–R130: a release of a slot whose port holds no entry on the channel does nothing. -/
theorem talkRelease_absent (h : s.talk[c].entryOf p = none) : s.talkRelease p k = s := by
  simp only [State.talkRelease, hchannel, h, State.slotConfig]
  cases s.profiles[p].slots[k].action <;> rfl

/-- R127, R128, R130: a release of a slot whose port holds an entry: MOMENTARY releases, LATCHING does nothing, and AUTO
latches the entry of a tap and releases any other. -/
theorem talkRelease_holds {e : TalkEntry} (h : s.talk[c].entryOf p = some e) :
    s.talkRelease p k =
      match s.profiles[p].slots[k].action with
      | .momentary => s.releaseTalk c p
      | .latching => s
      | .auto => if s.isTap e then s.setTalk c (s.talk[c].latch p) else s.releaseTalk c p := by
  simp only [State.talkRelease, hchannel, h, State.slotConfig]
  cases s.profiles[p].slots[k].action <;> rfl

end

/-! ### Requests that preempt, wait or are denied -/

/-- R124 step 2, R125: what a request that preempts leaves without its notice. -/
def State.preempted (s : State) (c : Chan) (e v : TalkEntry) : State :=
  ((((s.dropTalker c v).displaced c [] v).appendTalker c e).setDenied e.port e.slot none).reloadIdle c

theorem preempted_eq (s : State) (c : Chan) (e v : TalkEntry) :
    s.preempted c e v = { s with talk := (s.preempted c e v).talk, denied := (s.preempted c e v).denied } := by
  have hdisplaced : ∃ x y, (s.dropTalker c v).displaced c [] v = { s with talk := x, denied := y } := by
    unfold State.displaced
    split <;> exact ⟨_, _, rfl⟩
  have hpreempted : ∃ x y, s.preempted c e v = { s with talk := x, denied := y } := by
    obtain ⟨x, y, h⟩ := hdisplaced
    unfold State.preempted
    rw [h]
    exact ⟨_, _, rfl⟩
  obtain ⟨x, y, h⟩ := hpreempted
  rw [h]

/-- R121: the front of a class, with nobody placed before. -/
theorem queueAtFront_nil (v : TalkEntry) (q : List TalkEntry) :
    queueAtFront [] v q =
      (q.takeWhile fun x => decide (v.priority < x.priority)) ++
        v :: q.dropWhile fun x => decide (v.priority < x.priority) := by
  simp [queueAtFront]

/-- R125: the channel of a preemption: the victim's place taken by the request, the victim offered to the queue. -/
theorem preempted_talk (s : State) (c : Chan) (e v : TalkEntry) :
    (s.preempted c e v).talk[c] =
      { talkers := (s.talk[c].talkers.filter fun x => x.port != v.port) ++ [e]
        waiters := if s.talk[c].waiters.length < 8 then queueAtFront [] v s.talk[c].waiters else s.talk[c].waiters
        idle := s.idleDeadline c } := by
  obtain ⟨hdisplaced, htalk, -, -⟩ := displaced_spec (s.dropTalker c v) c [] v
  have hchannels : ((s.dropTalker c v).displaced c [] v).channels = s.channels := by rw [hdisplaced]; rfl
  have hclock : ((s.dropTalker c v).displaced c [] v).clock = s.clock := by rw [hdisplaced]; rfl
  simp only [State.preempted, reloadIdle_eq, State.appendTalker, setDenied_fields, setTalk_fields, get_put, if_true, htalk,
    State.idleDeadline, hchannels, hclock]
  simp only [State.dropTalker, setTalk_fields, get_put, if_true]

/-- R124, R125, R135: the DENIED periods after a preemption: the request's ended, and a dropped victim's begun. -/
theorem preempted_denied (s : State) (c : Chan) (e v : TalkEntry) (q : Port) (k : KeySlot) :
    (s.preempted c e v).denied[q][k] =
      if q = e.port ∧ k = e.slot then none
      else if 8 ≤ s.talk[c].waiters.length ∧ q = v.port ∧ k = v.slot then some (s.clock + 8 * 1000)
      else s.denied[q][k] := by
  obtain ⟨-, -, -, hdenied⟩ := displaced_spec (s.dropTalker c v) c [] v
  have hwaiters : (s.dropTalker c v).talk[c].waiters = s.talk[c].waiters := by
    simp only [State.dropTalker, setTalk_fields, get_put, if_true]
  rw [hwaiters] at hdenied
  simp only [State.preempted, reloadIdle_eq, State.appendTalker, setTalk_fields, setDenied_at]
  exact ite_congr rfl (fun _ => rfl) fun _ => hdenied q k

/-- R124: nobody is preempted on a channel that lets nobody be, or by a request above no talker. -/
theorem victimOf_none {s : State} {c : Chan} {e : TalkEntry}
    (h : s.channels[c].preemption = false ∨ ∀ x ∈ s.talk[c].talkers, e.priority ≤ x.priority) : s.victimOf c e = none := by
  unfold State.victimOf
  rcases h with h | h
  · rw [h]
    rfl
  · rw [victim_none h, ite_self]

/-- R125: the victim's entry alone is taken out. -/
theorem filter_victim {front after : List TalkEntry} {v : TalkEntry} (h : ∀ x ∈ front ++ after, x.port ≠ v.port) :
    (front ++ v :: after).filter (fun x => x.port != v.port) = front ++ after := by
  have hkept : (front ++ after).filter (fun x => x.port != v.port) = front ++ after :=
    List.filter_eq_self.2 fun x hx => bne_iff_ne.2 (h x hx)
  rw [← hkept, List.filter_append, List.filter_append, List.filter_cons_of_neg (by simp)]

/-! ### The statement -/

/-- Settles O38: the four outcomes of a request, and each key action with and without an entry. -/
theorem talkRequestIsTaken : Obligations.TalkRequestIsTaken := by
  refine ⟨fun s c e => ⟨fun hroom => ?granted, fun front v after hfull hpreempts hlist hbelow hfront hafter hothers => ?preempts,
    fun hfull hnone => ?waits, requestTalk_idle s c e, fun x hx => requestTalk_other s e hx⟩,
    fun s p k => ⟨fun h => ?mute, fun c hinert hchannel hmode => ?keys⟩⟩
  case granted =>
    rw [requestTalk_granted e hroom]
    refine ⟨?_, ?_, rfl, fun q k => setDenied_at _ _ _ _ _ _⟩ <;>
      simp [reloadIdle_eq, State.appendTalker]
  case preempts =>
    have hv : s.victimOf c e = some v := (if_pos hpreempts).trans (victim_eq hlist hbelow hfront hafter)
    have ht : s.requestTalk c e = (s.preempted c e v).raise
        (.talkPreempted c v.port (.priority e.port) (s.outcome c)) := requestTalk_preempts hfull hv
    have htalk := preempted_talk s c e v
    rw [hlist, filter_victim hothers] at htalk
    rw [ht]
    simp only [raise_fields, htalk]
    refine ⟨trivial, (raise_detail _ _ _).trans (if_pos rfl), ?_, preempted_denied s c e v, fun hroom => ?_, fun hwait => ?_⟩
    · rw [← preempted_eq]
      rfl
    · rw [if_pos hroom, queueAtFront_nil]
    · rw [if_neg (Nat.not_lt.2 hwait)]
  case waits =>
    have hv := victimOf_none hnone
    by_cases hroom : s.talk[c].waiters.length < 8
    · rw [requestTalk_waits hfull hv hroom]
      refine ⟨?_, rfl, fun q k => ?_, fun _ => ?_, fun hwait => absurd hroom (Nat.not_lt.2 hwait)⟩
      · simp [reloadIdle_eq]
      · rw [if_pos hroom]
        exact setDenied_at _ _ _ _ _ _
      · simp [reloadIdle_eq, queueAtEnd]
    · have hwait := Nat.not_lt.1 hroom
      rw [requestTalk_denied hfull hv hwait]
      refine ⟨?_, rfl, fun q k => ?_, fun h => absurd h hroom, fun _ => ?_⟩
      · simp [reloadIdle_eq, State.startDenied]
      · rw [if_neg hroom]
        exact setDenied_at _ _ _ _ _ _
      · simp [reloadIdle_eq, State.startDenied]
  case mute =>
    have hnone := talkChannel_none h
    exact ⟨by rw [State.talkPress, hnone], by rw [State.talkRelease, hnone]⟩
  case keys =>
    have hc := talkChannel_some hinert hchannel hmode
    have hreleased := releaseTalk_eq s c p
    have hholds : (¬∀ e ∈ s.talk[c].talkers ++ s.talk[c].waiters, e.port ≠ p) → ∃ e, s.talk[c].entryOf p = some e :=
      fun h => Option.ne_none_iff_exists'.1 (mt entryOf_none.1 h)
    refine ⟨fun haction => ⟨fun h => ?_, fun h => ?_⟩, fun haction => ⟨?_, fun h => ?_, fun h => ?_⟩,
      fun haction => ⟨fun h => ?_, fun h => ?_, fun front e after hlist hfront he => ?_⟩⟩
    · rw [talkPress_absent hc (entryOf_none.2 h), talkRelease_absent hc (entryOf_none.2 h), haction]
      exact ⟨rfl, rfl⟩
    · obtain ⟨e, he⟩ := hholds h
      rw [talkPress_holds hc he, talkRelease_holds hc he, haction]
      exact ⟨rfl, hreleased⟩
    · cases he : s.talk[c].entryOf p with
      | none => exact talkRelease_absent hc he
      | some e => rw [talkRelease_holds hc he, haction]
    · rw [talkPress_absent hc (entryOf_none.2 h), haction]
      rfl
    · obtain ⟨e, he⟩ := hholds h
      rw [talkPress_holds hc he, haction]
      exact hreleased
    · rw [talkPress_absent hc (entryOf_none.2 h), talkRelease_absent hc (entryOf_none.2 h), haction]
      exact ⟨rfl, rfl⟩
    · obtain ⟨e, he⟩ := hholds h
      rw [talkPress_holds hc he, haction]
      exact hreleased
    · rw [talkRelease_holds hc (entryOf_some hlist hfront he), haction]
      have hlatch := latch_eq s.talk[c] p
      refine ⟨fun d hd hshort => ?_, fun hd => ?_, fun d hd hlong => ?_⟩
      · refine (if_pos ((isTap_some s hd).2 hshort)).trans ?_
        rw [hlatch]
        rfl
      · exact (if_neg (by rw [isTap_none s hd]; exact Bool.false_ne_true)).trans hreleased
      · exact (if_neg (mt (isTap_some s hd).1 (Nat.not_lt.2 hlong))).trans hreleased

end Sys2Proof.Machine
end


section
/-! WRITE_ENTRY of the router settings, the Channel Table and Notice Control (R114–R116, R119, R121, R189). -/

namespace Sys2Proof.Machine

/-! ### Joining the wait queue at the front of a class -/

/-- R121: the wait queue in the order of its classes, the highest first. -/
def ClassOrder (q : List TalkEntry) : Prop := q.Pairwise fun x y => y.priority ≤ x.priority

/-- The entries of one priority class. -/
def ofClass (n : Fin 4) (q : List TalkEntry) : List TalkEntry := q.filter fun x => x.priority = n

theorem ofClass_append (n : Fin 4) (q r : List TalkEntry) : ofClass n (q ++ r) = ofClass n q ++ ofClass n r :=
  List.filter_append ..

theorem ofClass_cons (n : Fin 4) (x : TalkEntry) (q : List TalkEntry) :
    ofClass n (x :: q) = if x.priority = n then x :: ofClass n q else ofClass n q := by
  simp only [ofClass, List.filter_cons, decide_eq_true_eq]

theorem ofClass_below {n : Fin 4} {q : List TalkEntry} (h : ∀ x ∈ q, x.priority < n) : ofClass n q = [] :=
  List.filter_eq_nil_iff.2 fun x hx => by simpa using (h x hx).ne

/-- R115: whether a joining entry takes its place behind an entry of the queue. -/
def standsAhead (placed : List Port) (e x : TalkEntry) : Bool :=
  decide (e.priority < x.priority) || (x.priority == e.priority && placed.contains x.port)

theorem queueAtFront_eq (placed : List Port) (e : TalkEntry) (q : List TalkEntry) :
    queueAtFront placed e q = q.takeWhile (standsAhead placed e) ++ e :: q.dropWhile (standsAhead placed e) := rfl

section
variable {placed : List Port} {e x : TalkEntry}

theorem standsAhead_of_class (h : x.priority = e.priority) : standsAhead placed e x = placed.contains x.port := by
  simp [standsAhead, h]

theorem le_of_standsAhead (h : standsAhead placed e x = true) : e.priority ≤ x.priority := by
  simp only [standsAhead, Bool.or_eq_true, decide_eq_true_eq, Bool.and_eq_true, beq_iff_eq] at h
  rcases h with h | ⟨h, -⟩
  · exact h.le
  · exact h.ge

theorem le_of_not_standsAhead (h : ¬standsAhead placed e x = true) : x.priority ≤ e.priority := by
  simp only [standsAhead, Bool.or_eq_true, decide_eq_true_eq, not_or, not_lt] at h
  exact h.1

end

/-- R115: of the joining entry's class, those already placed stand ahead of it and the others behind it. -/
theorem ofClass_split (placed : List Port) (e : TalkEntry) : ∀ {q : List TalkEntry}, ClassOrder q →
    ofClass e.priority (q.takeWhile (standsAhead placed e)) =
        (ofClass e.priority q).takeWhile (fun x => placed.contains x.port)
      ∧ ofClass e.priority (q.dropWhile (standsAhead placed e)) =
        (ofClass e.priority q).dropWhile (fun x => placed.contains x.port)
  | [], _ => ⟨rfl, rfl⟩
  | x :: q, h => by
    obtain ⟨hhead, htail⟩ := List.pairwise_cons.1 h
    obtain ⟨ihtake, ihdrop⟩ := ofClass_split placed e htail
    by_cases hclass : x.priority = e.priority
    · rw [List.takeWhile_cons, List.dropWhile_cons, standsAhead_of_class hclass, ofClass_cons, if_pos hclass,
        List.takeWhile_cons, List.dropWhile_cons]
      split
      · exact ⟨by rw [ofClass_cons, if_pos hclass, ihtake], ihdrop⟩
      · exact ⟨rfl, by rw [ofClass_cons, if_pos hclass]⟩
    · rw [List.takeWhile_cons, List.dropWhile_cons, ofClass_cons, if_neg hclass]
      split
      · exact ⟨by rw [ofClass_cons, if_neg hclass, ihtake], ihdrop⟩
      · rename_i hbehind
        have hbelow : x.priority < e.priority := lt_of_le_of_ne (le_of_not_standsAhead hbehind) hclass
        have hnone : ofClass e.priority q = [] := ofClass_below fun y hy => (hhead y hy).trans_lt hbelow
        rw [ofClass_cons, if_neg hclass, hnone]
        exact ⟨rfl, rfl⟩

theorem mem_queueAtFront {placed : List Port} {e x : TalkEntry} {q : List TalkEntry} :
    x ∈ queueAtFront placed e q ↔ x = e ∨ x ∈ q := by
  have hq : x ∈ q ↔ x ∈ q.takeWhile (standsAhead placed e) ∨ x ∈ q.dropWhile (standsAhead placed e) := by
    rw [← List.mem_append, List.takeWhile_append_dropWhile]
  rw [hq, queueAtFront_eq, List.mem_append, List.mem_cons]
  exact or_left_comm

theorem queueAtFront_cons (placed : List Port) (e x : TalkEntry) (q : List TalkEntry) :
    queueAtFront placed e (x :: q) =
      if standsAhead placed e x = true then x :: queueAtFront placed e q else e :: x :: q := by
  rw [queueAtFront_eq, queueAtFront_eq, List.takeWhile_cons, List.dropWhile_cons]
  split <;> rfl

/-- R121: a joining entry keeps the order of the classes. -/
theorem queueAtFront_classOrder (placed : List Port) (e : TalkEntry) : ∀ {q : List TalkEntry}, ClassOrder q →
    ClassOrder (queueAtFront placed e q)
  | [], _ => List.pairwise_singleton _ _
  | x :: q, h => by
    obtain ⟨hhead, htail⟩ := List.pairwise_cons.1 h
    rw [queueAtFront_cons]
    split
    · rename_i hahead
      refine List.pairwise_cons.2 ⟨fun y hy => ?_, queueAtFront_classOrder placed e htail⟩
      rcases mem_queueAtFront.1 hy with rfl | hy
      · exact le_of_standsAhead hahead
      · exact hhead y hy
    · rename_i hbehind
      have hx := le_of_not_standsAhead hbehind
      refine List.pairwise_cons.2 ⟨fun y hy => ?_, h⟩
      rcases List.mem_cons.1 hy with rfl | hy
      · exact hx
      · exact (hhead y hy).trans hx

/-- R115: an entry joins its class behind those placed before it and ahead of those that waited. -/
theorem ofClass_queueAtFront {placed : List Port} {e : TalkEntry} {q joined old : List TalkEntry} (horder : ClassOrder q)
    (hclass : ∀ n, ofClass n q = ofClass n joined ++ ofClass n old) (hjoined : ∀ x ∈ joined, x.port ∈ placed)
    (hold : ∀ x ∈ old, x.port ∉ placed) (n : Fin 4) :
    ofClass n (queueAtFront placed e q) = ofClass n (joined ++ [e]) ++ ofClass n old := by
  rw [queueAtFront_eq, ofClass_append, ofClass_cons, ofClass_append, ofClass_cons]
  split
  · rename_i he
    subst he
    obtain ⟨htake, hdrop⟩ := ofClass_split placed e horder
    have hplaced : ∀ x ∈ ofClass e.priority joined, placed.contains x.port = true := fun x hx =>
      List.contains_iff_mem.2 (hjoined x (List.mem_filter.1 hx).1)
    have hwaiting : ∀ x ∈ ofClass e.priority old, ¬placed.contains x.port = true := fun x hx =>
      mt List.contains_iff_mem.1 (hold x (List.mem_filter.1 hx).1)
    have htakeOld : (ofClass e.priority old).takeWhile (fun x => placed.contains x.port) = [] := by
      cases hlist : ofClass e.priority old with
      | nil => rfl
      | cons x l => exact List.takeWhile_cons_of_neg (hwaiting x (hlist ▸ List.mem_cons_self))
    have hdropOld : (ofClass e.priority old).dropWhile (fun x => placed.contains x.port) = ofClass e.priority old := by
      cases hlist : ofClass e.priority old with
      | nil => rfl
      | cons x l => exact List.dropWhile_cons_of_neg (hwaiting x (hlist ▸ List.mem_cons_self))
    rw [htake, hdrop, hclass, List.takeWhile_append_of_pos hplaced, List.dropWhile_append_of_pos hplaced, htakeOld, hdropOld]
    simp [ofClass]
  · rw [← ofClass_append, List.takeWhile_append_dropWhile, hclass]
    simp [ofClass]

/-! ### The excess talkers offered to the wait queue -/

/-- R115: the lists and the DENIED periods that a displacement of several entries leaves, without its notices. -/
def State.displacedAll (s : State) (c : Chan) : List Port → List TalkEntry → State
  | _, [] => s
  | placed, e :: rest => (s.displaced c placed e).displacedAll c (e.port :: placed) rest

/-- R115: the notices of a displacement by a channel write: the entries that fit, then those that do not. -/
def State.displacements (s : State) (c : Chan) (l : List TalkEntry) : List NoticeDetail :=
  ((l.take (8 - s.talk[c].waiters.length)).map fun x => .talkPreempted c x.port .channelWrite .queued) ++
    (l.drop (8 - s.talk[c].waiters.length)).map fun x => .talkPreempted c x.port .channelWrite .dropped

theorem raise_displaced (s : State) (d : NoticeDetail) (c : Chan) (placed : List Port) (e : TalkEntry) :
    (s.raise d).displaced c placed e = (s.displaced c placed e).raise d := by
  simp only [State.displaced, State.startDenied, raise_fields, raise_setTalk, raise_setDenied]
  exact (apply_ite (State.raise · d) ..).symm

theorem raise_displacedAll (d : NoticeDetail) (c : Chan) : ∀ (l : List TalkEntry) (placed : List Port) (s : State),
    (s.raise d).displacedAll c placed l = (s.displacedAll c placed l).raise d
  | [], _, _ => rfl
  | e :: l, placed, s => by
    rw [State.displacedAll, raise_displaced, raise_displacedAll d c l]
    rfl

theorem displaced_waiters (s : State) (c : Chan) (placed : List Port) (e : TalkEntry) :
    (s.displaced c placed e).talk[c].waiters =
      if s.talk[c].waiters.length < 8 then queueAtFront placed e s.talk[c].waiters else s.talk[c].waiters := by
  obtain ⟨-, htalk, -, -⟩ := displaced_spec s c placed e
  rw [htalk]

/-- R115: the room left in the wait queue behind one offer. -/
theorem displaced_room (s : State) (c : Chan) (placed : List Port) (e : TalkEntry) :
    8 - (s.displaced c placed e).talk[c].waiters.length = 8 - s.talk[c].waiters.length - 1 := by
  rw [displaced_waiters]
  split
  · rw [queueAtFront_length]
    omega
  · omega

theorem displacements_cons (s : State) (c : Chan) (placed : List Port) (e : TalkEntry) (l : List TalkEntry) :
    s.displacements c (e :: l) =
      .talkPreempted c e.port .channelWrite (s.outcome c) :: (s.displaced c placed e).displacements c l := by
  unfold State.displacements State.outcome
  rw [displaced_room]
  split
  · rename_i hroom
    obtain ⟨n, hn⟩ : ∃ n, 8 - s.talk[c].waiters.length = n + 1 := ⟨7 - s.talk[c].waiters.length, by omega⟩
    rw [hn]
    rfl
  · rename_i hfull
    have hn : 8 - s.talk[c].waiters.length = 0 := by omega
    rw [hn]
    rfl

/-- R115: the lists as all offers leave them, then a TALK_PREEMPTED for each. -/
theorem displaceExcess_eq (c : Chan) : ∀ (l : List TalkEntry) (placed : List Port) (s : State),
    s.displaceExcess c placed l = (s.displacedAll c placed l).raised (s.displacements c l)
  | [], placed, s => by simp [State.displaceExcess, State.displacedAll, State.displacements, State.raised]
  | e :: l, placed, s => by
    have hnotices : ∀ (t : State) (d : NoticeDetail), (t.raise d).displacements c l = t.displacements c l := fun t d => by
      simp only [State.displacements, raise_fields]
    rw [State.displaceExcess, displace_eq, displaceExcess_eq c l, raise_displacedAll, hnotices,
      displacements_cons s c placed e]
    rfl

/-- R135: the DENIED period of a slot once the entries of a list have been dropped. -/
def State.deniedAfter (s : State) (dropped : List TalkEntry) (q : Port) (k : KeySlot) : Option Time :=
  if ∃ x ∈ dropped, x.port = q ∧ x.slot = k then some (s.clock + 8 * 1000) else s.denied[q][k]

/-- R115, R135: a DENIED period behind one offer and the offers after it. -/
theorem deniedAfter_cons (s : State) (c : Chan) (placed : List Port) (e : TalkEntry) (l : List TalkEntry) (q : Port)
    (k : KeySlot) :
    (s.displaced c placed e).deniedAfter (l.drop (8 - s.talk[c].waiters.length - 1)) q k =
      s.deniedAfter ((e :: l).drop (8 - s.talk[c].waiters.length)) q k := by
  obtain ⟨hrest, -, -, hdenied⟩ := displaced_spec s c placed e
  have hclock : (s.displaced c placed e).clock = s.clock := by rw [hrest]
  unfold State.deniedAfter
  rw [hclock, hdenied]
  by_cases hroom : s.talk[c].waiters.length < 8
  · obtain ⟨n, hn⟩ : ∃ n, 8 - s.talk[c].waiters.length = n + 1 := ⟨7 - s.talk[c].waiters.length, by omega⟩
    have hnew : ¬(8 ≤ s.talk[c].waiters.length ∧ q = e.port ∧ k = e.slot) := fun h => Nat.not_lt.2 h.1 hroom
    rw [if_neg hnew, hn]
    rfl
  · have hfull := Nat.not_lt.1 hroom
    have hn : 8 - s.talk[c].waiters.length = 0 := by omega
    have hnew : (8 ≤ s.talk[c].waiters.length ∧ q = e.port ∧ k = e.slot) ↔ (e.port = q ∧ e.slot = k) := by
      simp only [hfull, true_and, eq_comm]
    simp only [hn, hnew, List.drop_zero, Nat.zero_sub, List.exists_mem_cons_iff]
    by_cases hlater : ∃ x ∈ l, x.port = q ∧ x.slot = k
    · simp only [hlater, if_true, or_true]
    · simp only [hlater, if_false, or_false]

/-- R115: the entries that wait behind one offer: those placed before it, the one it places, and those that waited. -/
theorem ofClass_displaced {s : State} {c : Chan} {placed : List Port} {joined old : List TalkEntry} (e : TalkEntry)
    (horder : ClassOrder s.talk[c].waiters)
    (hclass : ∀ n, ofClass n s.talk[c].waiters = ofClass n joined ++ ofClass n old) (hjoined : ∀ x ∈ joined, x.port ∈ placed)
    (hold : ∀ x ∈ old, x.port ∉ placed) :
    ClassOrder (s.displaced c placed e).talk[c].waiters
      ∧ ∀ n, ofClass n (s.displaced c placed e).talk[c].waiters =
        ofClass n (joined ++ [e].take (8 - s.talk[c].waiters.length)) ++ ofClass n old := by
  rw [displaced_waiters]
  split
  · rename_i hroom
    obtain ⟨n, hn⟩ : ∃ n, 8 - s.talk[c].waiters.length = n + 1 := ⟨7 - s.talk[c].waiters.length, by omega⟩
    rw [hn, List.take_succ_cons, List.take_nil]
    exact ⟨queueAtFront_classOrder placed e horder, ofClass_queueAtFront horder hclass hjoined hold⟩
  · rename_i hfull
    have hn : 8 - s.talk[c].waiters.length = 0 := by omega
    rw [hn, List.take_zero, List.append_nil]
    exact ⟨horder, hclass⟩

/-- R115: what the offers leave: the wait queue with as many as fit in front of their classes, and a DENIED period for each
of the others. -/
theorem displacedAll_spec (c : Chan) {old : List TalkEntry} :
    ∀ (l : List TalkEntry) (placed : List Port) (joined : List TalkEntry) (s : State), ClassOrder s.talk[c].waiters →
      (∀ n, ofClass n s.talk[c].waiters = ofClass n joined ++ ofClass n old) → (∀ x ∈ joined, x.port ∈ placed) →
      (∀ x ∈ old, x.port ∉ placed ∧ ∀ y ∈ l, x.port ≠ y.port) →
      ∃ (waiters : List TalkEntry) (denied : Vector (Vector (Option Time) 4) 32),
        ClassOrder waiters
          ∧ (∀ n, ofClass n waiters = ofClass n (joined ++ l.take (8 - s.talk[c].waiters.length)) ++ ofClass n old)
          ∧ (∀ (q : Port) (k : KeySlot),
            denied[q][k] = s.deniedAfter (l.drop (8 - s.talk[c].waiters.length)) q k)
          ∧ s.displacedAll c placed l =
            { s with talk := put s.talk c { s.talk[c] with waiters := waiters }, denied := denied }
  | [], placed, joined, s, horder, hclass, _, _ => by
    refine ⟨s.talk[c].waiters, s.denied, horder, by simpa using hclass, fun q k => by simp [State.deniedAfter], ?_⟩
    rw [put_get]
    rfl
  | e :: l, placed, joined, s, horder, hclass, hjoined, hold => by
    obtain ⟨hrest, htalk, hother, -⟩ := displaced_spec s c placed e
    obtain ⟨horderNext, hclassNext⟩ := ofClass_displaced e horder hclass hjoined fun x hx => (hold x hx).1
    have hjoinedNext : ∀ x ∈ joined ++ [e].take (8 - s.talk[c].waiters.length), x.port ∈ e.port :: placed := by
      intro x hx
      rcases List.mem_append.1 hx with hx | hx
      · exact List.mem_cons_of_mem _ (hjoined x hx)
      · rw [List.mem_singleton.1 (List.mem_of_mem_take hx)]
        exact List.mem_cons_self
    have holdNext : ∀ x ∈ old, x.port ∉ e.port :: placed ∧ ∀ y ∈ l, x.port ≠ y.port := fun x hx =>
      ⟨List.not_mem_cons_of_ne_of_not_mem ((hold x hx).2 e List.mem_cons_self) (hold x hx).1,
        fun y hy => (hold x hx).2 y (List.mem_cons_of_mem _ hy)⟩
    obtain ⟨waiters, denied, hw, hwclass, hd, hall⟩ :=
      displacedAll_spec c l (e.port :: placed) _ (s.displaced c placed e) horderNext hclassNext hjoinedNext holdNext
    rw [displaced_room] at hwclass hd
    have htaken : (joined ++ [e].take (8 - s.talk[c].waiters.length)) ++ l.take (8 - s.talk[c].waiters.length - 1) =
        joined ++ (e :: l).take (8 - s.talk[c].waiters.length) := by
      cases 8 - s.talk[c].waiters.length <;> simp
    have hlists : put (s.displaced c placed e).talk c { (s.displaced c placed e).talk[c] with waiters := waiters } =
        put s.talk c { s.talk[c] with waiters := waiters } := by
      refine Vector.ext fun i hi => ?_
      let x : Chan := ⟨i, hi⟩
      change (put _ c _)[x] = (put _ c _)[x]
      simp only [get_put, htalk]
      by_cases hx : x = c
      · simp only [hx, if_true]
      · simp only [if_neg hx, hother x hx]
    refine ⟨waiters, denied, hw, fun n => htaken ▸ hwclass n, fun q k => ?_, ?_⟩
    · rw [hd, deniedAfter_cons]
    · rw [State.displacedAll, hall, hlists, hrest]

/-! ### A channel write -/

/-- R114: a channel with its new entry and the lists that the entry leaves. -/
def State.rechannelled (s : State) (c : Chan) (e : ChannelEntry) (x : ChannelTalk) : State :=
  { s with channels := put s.channels c e, talk := put s.talk c x }

/-- R116: the idle timer once an entry has replaced another. -/
def ChannelEntry.timer (e : ChannelEntry) (idle : Option Time) : Option Time := if e.idleRelease = 0 then none else idle

theorem restopIdle_setChannel (s : State) (c : Chan) (e : ChannelEntry) :
    (s.setChannel c e).restopIdle c e = s.rechannelled c e { s.talk[c] with idle := e.timer s.talk[c].idle } := by
  unfold State.restopIdle ChannelEntry.timer
  split
  · rfl
  · exact congrArg (fun lists => { s with channels := put s.channels c e, talk := lists }) (put_get s.talk c).symm

theorem storeChannel_same {s : State} {c : Chan} {e : ChannelEntry} (h : e.maxTalkers = s.channels[c].maxTalkers) :
    s.storeChannel c e = s.rechannelled c e { s.talk[c] with idle := e.timer s.talk[c].idle } :=
  (if_pos h).trans (restopIdle_setChannel s c e)

/-- R131: grants reload the idle timer; otherwise it runs on. -/
theorem timer_after_grants (e : ChannelEntry) (idle : Option Time) (clock room : Nat) (q : List TalkEntry) :
    (if room = 0 ∨ q = [] then e.timer idle
      else if e.idleRelease = 0 then none else some (clock + 8000 * e.idleRelease)) =
      if 0 < room ∧ q ≠ [] ∧ e.idleRelease ≠ 0 then some (clock + 8000 * e.idleRelease) else e.timer idle := by
  by_cases hgrants : room = 0 ∨ q = []
  · have hkept : ¬(0 < room ∧ q ≠ [] ∧ e.idleRelease ≠ 0) := fun ⟨hplaces, hqueue, _⟩ =>
      hgrants.elim (Nat.ne_of_gt hplaces) hqueue
    rw [if_pos hgrants, if_neg hkept]
  · obtain ⟨hplaces, hqueue⟩ := not_or.1 hgrants
    by_cases hstopped : e.idleRelease = 0
    · rw [if_neg hgrants, if_pos hstopped, if_neg fun h => h.2.2 hstopped, ChannelEntry.timer, if_pos hstopped]
    · rw [if_neg hgrants, if_neg hstopped, if_pos ⟨Nat.pos_of_ne_zero hplaces, hqueue, hstopped⟩]

/-- R115: a channel that has places for its talkers grants its queue in order. -/
theorem storeChannel_grows {s : State} {c : Chan} {e : ChannelEntry} (h : e.maxTalkers ≠ s.channels[c].maxTalkers)
    (hroom : s.talk[c].talkers.length ≤ e.maxTalkers) :
    s.storeChannel c e = s.rechannelled c e
      { s.talk[c].granted e.maxTalkers with
        idle :=
          if 0 < e.maxTalkers - s.talk[c].talkers.length ∧ s.talk[c].waiters ≠ [] ∧ e.idleRelease ≠ 0 then
            some (s.clock + 8000 * e.idleRelease)
          else e.timer s.talk[c].idle } := by
  have hlists := grantHeads_talk (s.rechannelled c e { s.talk[c] with idle := e.timer s.talk[c].idle }) c c
  have hresize : s.storeChannel c e =
      (s.rechannelled c e { s.talk[c] with idle := e.timer s.talk[c].idle }).grantHeads c true := by
    refine (if_neg h).trans ?_
    rw [restopIdle_setChannel, State.resizeTalkers, if_neg]
    simpa [State.rechannelled] using hroom
  rw [hresize, grantHeads_eq, hlists, if_pos rfl]
  simp only [State.rechannelled, State.setTalk, get_put, if_true, put_put, ChannelTalk.granted, ChannelTalk.room]
  rw [timer_after_grants]

/-- R115: a channel that has fewer places than talkers offers the latest granted to the wait queue. -/
theorem storeChannel_shrinks {s : State} {c : Chan} {e : ChannelEntry} (h : e.maxTalkers ≠ s.channels[c].maxTalkers)
    (hexcess : e.maxTalkers < s.talk[c].talkers.length) :
    s.storeChannel c e =
      (s.rechannelled c e
          { s.talk[c] with talkers := s.talk[c].talkers.take e.maxTalkers, idle := e.timer s.talk[c].idle }).displaceExcess
        c [] (s.talk[c].talkers.drop e.maxTalkers) := by
  refine (if_neg h).trans ?_
  rw [restopIdle_setChannel, State.resizeTalkers, if_pos]
  · simp [State.rechannelled, State.setTalk]
  · simpa [State.rechannelled] using hexcess

/-! ### Writes with notices -/

theorem setControl_answer (s : State) (c : NoticeControl) (p : Port) (kind tag : Octet) (a : Answer) :
    (s.setControl c).answer p kind tag a = (s.answer p kind tag a).setControl c := rfl

theorem testAll_answer (s : State) (p : Port) (kind tag : Octet) (a : Answer) (ha : a.waits ≠ .deferred) :
    s.testAll.answer p kind tag a = (s.answer p kind tag a).testAll := testNotices_answer s _ p kind tag a ha

theorem testPlace_answer (s : State) (place : NoticePlace) (p : Port) (kind tag : Octet) (a : Answer)
    (ha : a.waits ≠ .deferred) : (s.testPlace place).answer p kind tag a = (s.answer p kind tag a).testPlace place := by
  cases place with
  | global => exact testNotices_answer s _ p kind tag a ha
  | kind k => exact testNotice_answer s k p kind tag a ha
  | lane l => exact testNotices_answer s _ p kind tag a ha

section
variable {s : State} {p : Port} (tag : Octet) (hs : MaySend s p .write)
include hs

/-- R179: as `write_replied`, for an owner whose notices do not meet its reply. -/
theorem write_through {cmd : Instr} {r : Request} {u : State} {st : Status} (F : State → State)
    (hF : ∀ (t : State) (kind tag : Octet) (a : Answer), a.waits ≠ .deferred →
      (F t).answer p kind tag a = F (t.answer p kind tag a))
    (hc : requestOf cmd = some (p, tag, 0x21, r)) (ho : owner p r (s.reserve p) = (F (u.reserve p), Answer.bare st)) :
    exec cmd s = .next (F (u.replied p (replyOf 0xA1 tag st .nothing))) := by
  obtain ⟨hk, he⟩ := exec_requestOf (s := s) hc
  have hr : requestRight r = .write := by rw [requestRight, hk]; rfl
  rw [he, request_through tag u F st .nothing (hr ▸ hs) ho hF, hk]
  rfl

/-- R114: a Channel Table write is what the store of its entry leaves, and the notices it raises. -/
theorem writeChannel_stores {c : Chan} {w : ChannelWrite} {e : ChannelEntry} (hw : checkChannel w = some e) {u : State}
    {l : List NoticeDetail} (hstore : (s.reserve p).storeChannel c e = (u.reserve p).raised l) :
    exec (.writeChannelEntry p tag (c.val + 1) w) s = .next
      ((u.replied p (replyOf 0xA1 tag .ok .nothing)).raised l) := by
  refine write_through tag hs (fun t => t.raised l) (fun t kind tag a ha => raised_answer p kind tag a ha l t) rfl ?_
  have howner : owner p (.writeChannelEntry (c.val + 1) w) (s.reserve p) =
      ((s.reserve p).storeChannel c e, Answer.bare .ok) := by
    show writeChannel _ _ _ = _
    rw [writeChannel, oneBased_val]
    simp only [writeEntry, hw]
  rw [howner, hstore]

/-- R115: a channel write that leaves fewer places than talkers. -/
theorem writeChannel_shrinks {c : Chan} {w : ChannelWrite} {e : ChannelEntry} (hw : checkChannel w = some e)
    (h : e.maxTalkers ≠ s.channels[c].maxTalkers) (hexcess : e.maxTalkers < s.talk[c].talkers.length)
    (horder : ClassOrder s.talk[c].waiters) (hports : ((s.talk[c].talkers ++ s.talk[c].waiters).map TalkEntry.port).Nodup) :
    ∃ (waiters : List TalkEntry) (denied : Vector (Vector (Option Time) 4) 32),
      ClassOrder waiters
        ∧ (∀ n, ofClass n waiters =
          ofClass n ((s.talk[c].talkers.drop e.maxTalkers).take (8 - s.talk[c].waiters.length)) ++
            ofClass n s.talk[c].waiters)
        ∧ (∀ (q : Port) (k : KeySlot), denied[q][k] =
          s.deniedAfter ((s.talk[c].talkers.drop e.maxTalkers).drop (8 - s.talk[c].waiters.length)) q k)
        ∧ exec (.writeChannelEntry p tag (c.val + 1) w) s = .next
          (State.raised
            { (s.rechannelled c e
                { talkers := s.talk[c].talkers.take e.maxTalkers, waiters := waiters, idle := e.timer s.talk[c].idle }).replied
                  p (replyOf 0xA1 tag .ok .nothing) with
              denied := denied }
            (s.displacements c (s.talk[c].talkers.drop e.maxTalkers))) := by
  have hdisjoint : ∀ x ∈ s.talk[c].waiters, x.port ∉ [] ∧ ∀ y ∈ s.talk[c].talkers.drop e.maxTalkers, x.port ≠ y.port := by
    rw [List.map_append, List.nodup_append] at hports
    obtain ⟨-, -, hapart⟩ := hports
    exact fun x hx => ⟨List.not_mem_nil, fun y hy =>
      (hapart _ (List.mem_map_of_mem (List.mem_of_mem_drop hy)) _ (List.mem_map_of_mem hx)).symm⟩
  have hstored : (s.reserve p).storeChannel c e =
      ((s.reserve p).rechannelled c e
          { s.talk[c] with
            talkers := s.talk[c].talkers.take e.maxTalkers, idle := e.timer s.talk[c].idle }).displaceExcess
        c [] (s.talk[c].talkers.drop e.maxTalkers) := storeChannel_shrinks (s := s.reserve p) h hexcess
  rw [displaceExcess_eq] at hstored
  generalize hu : (s.reserve p).rechannelled c e
    { s.talk[c] with talkers := s.talk[c].talkers.take e.maxTalkers, idle := e.timer s.talk[c].idle } = u at hstored
  have htalk : u.talk[c] = { s.talk[c] with talkers := s.talk[c].talkers.take e.maxTalkers, idle := e.timer s.talk[c].idle } := by
    rw [← hu]
    simp only [State.rechannelled, get_put, if_true]
  have hwaiters : u.talk[c].waiters = s.talk[c].waiters := by rw [htalk]
  obtain ⟨waiters, denied, horder', hclass, hdenied, hlists⟩ :=
    displacedAll_spec c (old := s.talk[c].waiters) (s.talk[c].talkers.drop e.maxTalkers) [] [] u (by rwa [hwaiters])
      (fun n => by rw [hwaiters]; rfl) (fun x hx => nomatch hx) hdisjoint
  rw [hwaiters] at hclass hdenied
  have hnotices : u.displacements c (s.talk[c].talkers.drop e.maxTalkers) =
      s.displacements c (s.talk[c].talkers.drop e.maxTalkers) := by rw [State.displacements, hwaiters]; rfl
  have hleft : u.displacedAll c [] (s.talk[c].talkers.drop e.maxTalkers) =
      State.reserve
        { s.rechannelled c e
            { talkers := s.talk[c].talkers.take e.maxTalkers, waiters := waiters, idle := e.timer s.talk[c].idle } with
          denied := denied } p := by
    rw [hlists, htalk, ← hu]
    simp only [State.rechannelled, put_put]
    rfl
  refine ⟨waiters, denied, horder', hclass, fun q k => ?_, writeChannel_stores tag hs hw (hstored.trans (congrArg₂ State.raised hleft hnotices))⟩
  rw [hdenied, ← hu]
  rfl

/-- R119: a Router Settings write. -/
theorem writeRouter_spec (w : RouterWrite) :
    (∀ r, checkRouter w = some r → exec (.writeRouterSettings p tag 0 w) s = .next
        ({ s with router := r }.replied p (replyOf 0xA1 tag .ok .nothing)))
      ∧ (checkRouter w = none →
        exec (.writeRouterSettings p tag 0 w) s = .next (s.replied p (replyOf 0xA1 tag .badValue .nothing))) := by
  have howner : owner p (.writeRouterSettings 0 w) (s.reserve p) =
      writeEntry (some (0 : Fin 1)) (fun _ => checkRouter w) (fun _ r => { s.reserve p with router := r }) (s.reserve p) := rfl
  refine ⟨fun r hr => write_replied tag hs rfl ?_, fun hr => write_replied tag hs rfl ?_⟩
  · rw [howner]
    simp only [writeEntry, hr]
    rfl
  · rw [howner]
    simp only [writeEntry, hr]

/-- R189: an accepted Notice Control write tests the notices it reaches, behind those that wait for freed entries. -/
theorem writeNotice_accepted {i : Nat} {place : NoticePlace} {w : NoticeEntryWrite} {c : NoticeControl}
    (hi : noticePlace i = some place) (hw : writeNoticeEntry s.noticeControl place w = some c) :
    exec (.writeNoticeControl p tag i w) s = .next
      (((s.replied p (replyOf 0xA1 tag .ok .nothing)).testAll.setControl c).testPlace place) := by
  refine write_through tag hs (fun t => (t.testAll.setControl c).testPlace place) (fun t kind tag a ha => ?_) rfl ?_
  · rw [testPlace_answer _ _ _ _ _ _ ha, setControl_answer, testAll_answer _ _ _ _ _ ha]
  · show writeNoticeRequest i w (s.reserve p) = _
    have hw' : writeNoticeEntry (s.reserve p).noticeControl place w = some c := hw
    simp only [writeNoticeRequest, hi, hw']

theorem writeNotice_refused {i : Nat} {place : NoticePlace} {w : NoticeEntryWrite} (hi : noticePlace i = some place)
    (hw : writeNoticeEntry s.noticeControl place w = none) :
    exec (.writeNoticeControl p tag i w) s = .next (s.replied p (replyOf 0xA1 tag .badValue .nothing)) := by
  refine write_replied tag hs rfl ?_
  show writeNoticeRequest i w (s.reserve p) = _
  have hw' : writeNoticeEntry (s.reserve p).noticeControl place w = none := hw
  simp only [writeNoticeRequest, hi, hw']

end

/-! ### The statement -/

/-- Settles O46: each write is refused, or stored and answered ahead of its notices. -/
theorem noticeRouterAndChannelWrites : Obligations.NoticeRouterAndChannelWrites := by
  refine ⟨fun s p tag hs => ⟨fun w r hr => (writeRouter_spec tag hs w).1 r hr, fun w hr => (writeRouter_spec tag hs w).2 hr,
      fun c w => ⟨fun hw => ?refused, fun e hw => ⟨fun h => ?same, fun h hroom => ?grows,
        fun h hexcess horder hports => ?shrinks⟩⟩⟩,
    fun s p tag i place w hs hi => ⟨writeNotice_refused tag hs hi, fun c hc => ?notice⟩⟩
  case refused =>
    refine write_replied tag hs rfl ?_
    show writeChannel _ _ _ = _
    rw [writeChannel, oneBased_val]
    simp only [writeEntry, hw]
  case same => exact writeChannel_stores tag hs hw (l := []) (storeChannel_same (s := s.reserve p) h)
  case grows => exact writeChannel_stores tag hs hw (l := []) (storeChannel_grows (s := s.reserve p) h hroom)
  case shrinks => exact writeChannel_shrinks tag hs hw h hexcess horder hports
  case notice =>
    rw [writeNotice_accepted tag hs hi hc]
    cases place <;> rfl

end Sys2Proof.Machine
end

section
/-! SUPPORT. RESTART carried out (R199), and the departure of a port as a whole state (R25, R133, R154, R158, R192). -/

namespace Sys2Proof.Machine

/-! ### RESTART -/

/-- R170, R199: behind a RESTART no port is present. -/
theorem fallPorts_present (s : State) (p : Port) : s.fallPorts.present p = false := by
  unfold State.present State.fallPorts
  simp only [Fin.getElem_fin, Vector.getElem_map, fallenPort]
  cases s.profiles[p.val].enabled <;> rfl

theorem deliverable_of_absent {s : State} (h : ∀ p, s.present p = false) (k : NoticeKind) : s.deliverable k = false := by
  simp [State.deliverable, h]

/-- R188, R190: a notice raised while no port is present is recorded and built for nobody. -/
theorem raise_of_absent {s : State} (h : ∀ p, s.present p = false) (d : NoticeDetail) : s.raise d = s.record d := by
  have hoffer : s.offer (s.laneOf d.kind).dest = s := testNotices_idle s _ fun k _ => deliverable_of_absent h k
  have hrecorded : (s.record d).deliverable d.kind = false := deliverable_of_absent (s := s.record d) h d.kind
  rw [State.raise, hoffer, State.testNotice, hrecorded]
  rfl

theorem restart_eq (s : State) : s.restart = s.emptied.fallPorts.abandonSave.record (.started .restart) := by
  refine raise_of_absent (fun p => ?_) _
  rw [present_of_ports (s := s.emptied.fallPorts) (by rw [abandonSave_eq])]
  exact fallPorts_present _ p

/-- R198, R199: what RESTART leaves, block by block. -/
theorem restart_restarts (s : State) : HasRestarted s s.restart := by
  have hnotice : ∀ k : NoticeKind, s.restart.notices[k] =
      if k = 16 then { pending := true, count := 1, detail := some (.started .restart), sent := false }
      else NoticeRecord.empty := fun k => by
    rw [restart_eq, abandonSave_eq]
    simp only [State.record, State.setNotice, get_put]
    simp only [State.fallPorts, State.emptied, Fin.getElem_fin, Vector.getElem_replicate]
    rfl
  have hcounters : ∀ c : CounterId, s.restart.counter c = { s.counter c with comparison := .stopped } := fun c => by
    rw [restart_eq, abandonSave_eq]
    simp only [State.counter, State.record, State.setNotice, State.fallPorts, State.emptied, Fin.getElem_fin,
      Vector.getElem_map]
    rfl
  have hcleared : ∀ {α : Type} {n : Nat} (x : α) (i : Fin n), (Vector.replicate n x)[i] = x := fun x i =>
    Vector.getElem_replicate i.isLt
  have hcalls : ∀ {α : Type} (x : α) (q : Port) (k : KeySlot), (Vector.replicate 32 (Vector.replicate 4 x))[q][k] = x :=
    fun x q k => by rw [hcleared, hcleared]
  have hports : ∀ q : Port, (s.profiles.map fallenPort)[q] =
      { PortRecord.powerOn with state := if s.profiles[q].enabled then .down else .disabled } := fun q =>
    Vector.getElem_map _ q.isLt
  rw [restart_eq, abandonSave_eq] at hnotice hcounters ⊢
  exact ⟨rfl, rfl, rfl, rfl, rfl, hcounters, rfl, rfl, rfl, rfl, rfl, rfl, hcleared _,
    fun q => ⟨hports q, hcleared _ q, hcleared _ q, hcleared _ q, hcleared _ q, hcleared _ q,
      fun k => ⟨hcalls _ q k, hcalls _ q k⟩⟩,
    rfl, rfl, rfl, rfl, rfl, fun k hk => (hnotice k).trans (if_neg hk), (hnotice 16).trans (if_pos rfl), rfl, rfl, rfl, rfl⟩

/-! ### What a port that leaves takes with it -/

/-- States alike but for messages hold the same lists and records, and wait for the same RESTART. -/
theorem lists_of_sansMsgs {a b : State} (h : a.sansMsgs = b.sansMsgs) :
    a.talk = b.talk ∧ a.active = b.active ∧ a.restartBy = b.restartBy :=
  ⟨(congrArg State.talk h :), (congrArg State.active h :), (congrArg State.restartBy h :)⟩

theorem mailed_sansMsgs (x m : State) : (x.mailed m).sansMsgs = x.sansMsgs := rfl

/-- R133, R154, R158, R182: a state without a port's own things, its entries and its places in the lists and records as
given. -/
def State.departed (s : State) (p : Port) (target : PortState) (lists : Vector ChannelTalk 16) (records : List ActiveCue) :
    State :=
  { s with
    ports := put s.ports p { PortRecord.powerOn with state := target }
    assemblies := put s.assemblies p .empty
    queues := put s.queues p []
    gaps := put s.gaps p false
    samples := put s.samples p none
    calls := put s.calls p (Vector.replicate 4 CallRecord.cleared)
    denied := put s.denied p (Vector.replicate 4 none)
    shown := put s.shown p ShownLamps.off
    talk := lists
    active := records }

/-- R199: RESTART leaves the same whether a port has departed or not. -/
theorem restart_departed (s m : State) (p : Port) (target : PortState) (lists : Vector ChannelTalk 16)
    (records : List ActiveCue) : ((s.departed p target lists records).mailed m).restart = s.restart := by
  have hemptied : ((s.departed p target lists records).mailed m).emptied.fallPorts = s.emptied.fallPorts := by
    simp only [State.mailed, State.departed, State.emptied, State.fallPorts]
  unfold State.restart
  rw [hemptied]

/-- R133: what leaving UP leaves: the lists, and the DENIED periods of the port ended. -/
theorem leaveUp_eq (s : State) (p : Port) :
    s.leaveUp p = { s with talk := (s.leaveUp p).talk, denied := put s.denied p (Vector.replicate 4 none) } := by
  have hfold : ∀ (l : List Chan) (t : State),
      l.foldl (fun t c => t.removeTalk c p) t = { t with talk := (l.foldl (fun t c => t.removeTalk c p) t).talk } := by
    intro l
    induction l with
    | nil => exact fun _ => rfl
    | cons c l ih =>
      intro t
      rw [List.foldl_cons, ih, removeTalk_eq]
      rfl
  obtain ⟨lists, hlists⟩ : ∃ lists, allChannels.foldl (fun t c => t.removeTalk c p) s = { s with talk := lists } :=
    ⟨_, hfold allChannels s⟩
  rw [State.leaveUp, hlists]
  rfl

/-- R25: the loss of a port changes records and tells the desks. -/
theorem portLost_eq (s : State) (p : Port) : s.portLost p = (s.setActive (s.portLost p).active).mailed (s.portLost p) :=
  eq_mailed (sansMsgs_of_sansCues ((portLost_sansCues s p).trans rfl) rfl)

/-- R158: LANE_LOST for each lane, then the cause. -/
theorem lanesLost_portDown (s : State) (p : Port) (cause : Option DownCause) :
    (s.lanesLost p).portDown p cause = s.raised (s.lanesLeading p ++ cause.toList.map (.portDown p)) := by
  have hlanes : s.lanesLost p = s.raised (s.lanesLeading p) := (List.foldl_map ..).symm
  rw [hlanes, State.raised, State.raised, List.foldl_append]
  cases cause <;> rfl

/-- The state in which a port that has left presence is told of: its things gone, the desks told about the records. -/
def State.departing (s : State) (p : Port) (target : PortState) : State :=
  let lost := (s.clearPort p target).portLost p
  (s.departed p target (lost.leaveUp p).talk lost.active).mailed lost

/-- R158: the departure of a port, up to the notices. -/
theorem leavePresence_eq (s : State) (p : Port) (target : PortState) (cause : Option DownCause) :
    ((s.clearPort p target).leavePresence p).portDown p cause =
      (s.departing p target).raised (s.lanesLeading p ++ cause.toList.map (.portDown p)) := by
  have hleft : ((((((s.clearPort p target).portLost p).leaveUp p).clearCalls p).setSample p none).setShown p ShownLamps.off) =
      s.departing p target := by
    obtain ⟨records, q, g, n, hlost⟩ : ∃ records q g n, (s.clearPort p target).portLost p =
        { s.clearPort p target with active := records, queues := q, gaps := g, notices := n } := ⟨_, _, _, _, portLost_eq _ p⟩
    simp only [State.departing, hlost]
    rw [leaveUp_eq]
    simp only [State.departed, State.mailed, State.clearCalls, State.setSample, State.setShown, State.clearPort,
      State.setGap, State.setQueue, State.setAssembly, State.setPort]
  rw [State.leavePresence, hleft, lanesLost_portDown]
  rfl

/-! ### The desks about a departure -/

theorem told_mailed {x m : State} (h : SameGates x m) (htables : x.liveTables = m.liveTables) (r : ActiveCue) (d : DeskState) :
    (x.mailed m).told r d = x.mailed (m.told r d) := by
  have htables' : (x.mailed m).liveTables = m.liveTables := htables
  unfold State.told
  rw [htables', deskStatus_mailed h]

theorem toldAll_mailed {x : State} : ∀ (l : List ActiveCue) {m : State}, SameGates x m → x.liveTables = m.liveTables →
    (x.mailed m).toldAll l = x.mailed (m.toldAll l)
  | [], _, _, _ => rfl
  | r :: l, m, h, htables => by
    have htold := told_sansMsgs m r (.inList r.state)
    have hnext : x.liveTables = (m.told r (.inList r.state)).liveTables :=
      htables.trans (liveTables_of_banks (congrArg State.bankA htold) (congrArg State.bankB htold)
        (congrArg State.live htold)).symm
    show ((x.mailed m).told r _).toldAll l = _
    rw [told_mailed h htables, toldAll_mailed l (h.trans_sansMsgs htold) hnext]
    rfl

/-- R25: the record of a port that has left presence. -/
theorem lostCue_eq (s : State) (r : ActiveCue) (p : Port) :
    s.lostCue r p =
      if r.state = .standby ∧ s.policyMet
          { r with awaited := r.awaited.erase p, acked := r.acked.erase p, absent := r.absent.insert p } = true then
        { r with
          awaited := r.awaited.erase p, acked := r.acked.erase p, absent := r.absent.insert p, state := .ready }
      else { r with awaited := r.awaited.erase p, acked := r.acked.erase p, absent := r.absent.insert p } := rfl

theorem losesPort_iff (r : ActiveCue) (p : Port) :
    r.losesPort p = true ↔ r.awaited.mem p = true ∨ r.acked.mem p = true := Bool.or_eq_true_iff ..

/-- R25: the records changed by a map, read off a list and its image. -/
theorem filter_zip_map (l : List ActiveCue) (P : ActiveCue → Bool) (g : ActiveCue → ActiveCue) :
    ((l.zip (l.map fun r => if P r then g r else r)).filter fun x => P x.1).map Prod.snd = (l.filter P).map g := by
  induction l with
  | nil => rfl
  | cons r l ih =>
    rw [List.map_cons, List.zip_cons_cons, List.filter_cons, List.filter_cons]
    cases h : P r
    · simpa [h] using ih
    · simpa [h] using ih

section
variable {s : State} {p : Port} {target : PortState}

/-- R25: the records as the departure of a port leaves them. -/
theorem portLost_active (hn : (s.active.map ActiveCue.slot).Nodup) :
    (s.portLost p).active = s.active.map fun r => if r.losesPort p then s.lostCue r p else r :=
  filter_changeCue_active s (fun r => r.losesPort p) (fun t r => t.lostCue r p) (fun r => s.lostCue r p)
    (fun _ _ ht => testReady_congr ht _) (fun _ => testReady_slot s _) hn

/-- R36: the desks are told about each record that the departure of a port changes. -/
theorem portLost_told (hn : (s.active.map ActiveCue.slot).Nodup) :
    s.portLost p = (s.setActive (s.portLost p).active).toldAll
      (((s.active.zip (s.portLost p).active).filter fun x => x.1.losesPort p).map Prod.snd) := by
  rw [portLost_active hn, filter_zip_map s.active (fun r => r.losesPort p) fun r => s.lostCue r p]
  exact changeEach_eq s (fun r => r.losesPort p) (fun t r => t.lostCue r p) (fun r => s.lostCue r p)
    (fun _ _ ht => testReady_congr ht _) (fun _ => testReady_slot s _) hn

theorem departed_told (hn : (s.active.map ActiveCue.slot).Nodup) (lists : Vector ChannelTalk 16) {records : List ActiveCue}
    (hrecords : ((s.clearPort p target).portLost p).active = records) :
    (s.departed p target lists records).mailed ((s.clearPort p target).portLost p) =
      (s.departed p target lists records).toldAll
        (((s.active.zip records).filter fun x => x.1.losesPort p).map Prod.snd) := by
  have htold := portLost_told (s := s.clearPort p target) (p := p) hn
  rw [hrecords] at htold
  rw [htold]
  exact (toldAll_mailed (x := s.departed p target lists records) _ (m := (s.clearPort p target).setActive records)
    ⟨rfl, rfl, rfl⟩ rfl).symm

theorem departing_talk : (s.departing p target).talk = (((s.clearPort p target).portLost p).leaveUp p).talk := by
  simp only [State.departing, State.mailed, State.departed]

theorem departing_active : (s.departing p target).active = ((s.clearPort p target).portLost p).active := by
  simp only [State.departing, State.mailed, State.departed]

theorem departing_sansMsgs : (s.departing p target).sansMsgs =
    (s.departed p target (s.departing p target).talk (s.departing p target).active).sansMsgs := by
  rw [departing_talk, departing_active, State.departing]
  exact mailed_sansMsgs _ _

theorem departing_told (hn : (s.active.map ActiveCue.slot).Nodup) :
    s.departing p target =
      (s.departed p target (s.departing p target).talk (s.departing p target).active).toldAll
        (((s.active.zip (s.departing p target).active).filter fun x => x.1.losesPort p).map Prod.snd) := by
  rw [departing_talk, departing_active]
  exact departed_told hn _ rfl

/-- R21: the READY policy reads the ports and the live tables. -/
theorem policyMet_of_ports {s t : State} (hports : t.ports = s.ports) (htables : t.liveTables = s.liveTables) (r : ActiveCue) :
    t.policyMet r = s.policyMet r := by
  have hpresent : t.present = s.present := funext (present_of_ports hports)
  simp only [State.policyMet, State.cue, State.presentSet, hpresent, htables]

theorem raised_policyMet (s : State) (l : List NoticeDetail) (r : ActiveCue) :
    (s.raised l).policyMet r = s.policyMet r := by
  have hraised := raised_sansMsgs s l
  exact policyMet_of_ports (congrArg State.ports hraised :)
    (liveTables_of_banks (congrArg State.bankA hraised :) (congrArg State.bankB hraised :)
      (congrArg State.live hraised :)) r

theorem departing_policyMet (r : ActiveCue) : (s.departing p target).policyMet r = (s.clearPort p target).policyMet r := by
  refine policyMet_of_ports ?_ ?_ r
  · simp only [State.departing, State.mailed, State.departed]
    rfl
  · simp only [State.departing, State.mailed, State.departed]
    rfl

/-- R25, R133, R154, R158, R192: a port that has left presence, whole. -/
theorem departed_whole (hn : (s.active.map ActiveCue.slot).Nodup) (causes : List NoticeDetail) :
    HasDeparted s ((s.departing p target).raised (s.lanesLeading p ++ causes)) p target causes := by
  have hraised := raised_sansMsgs (s.departing p target) (s.lanesLeading p ++ causes)
  have htold := departing_told (p := p) (target := target) hn
  have hrecords := (departing_active (target := target)).trans (portLost_active (s := s.clearPort p target) (p := p) hn)
  have hpolicy : ∀ r, ((s.departing p target).raised (s.lanesLeading p ++ causes)).policyMet r =
      (s.clearPort p target).policyMet r := fun r => (raised_policyMet _ _ r).trans (departing_policyMet r)
  obtain ⟨htalk, hactive, -⟩ := lists_of_sansMsgs hraised
  refine ⟨?_, ?_⟩
  · rw [PortAbsent, hactive, hrecords]
    refine List.map_congr_left fun r _ => ?_
    simp only [losesPort_iff, lostCue_eq, hpolicy]
  · rw [htalk, hactive]
    generalize (s.departing p target).talk = lists at htold ⊢
    generalize (s.departing p target).active = records at htold ⊢
    rw [htold]
    simp only [State.departed, ActiveCue.losesPort]

/-! ### Falls of a present port -/

/-- R154, R158, R163, R166, R167: a present port that falls departs, and then a RESTART that waited for it is carried
out. -/
theorem fall_eq {cause : Option DownCause} (hp : s.present p = true) (htarget : s.fallTarget p target = target) :
    s.fall p target cause =
      ((s.departing p target).raised (s.lanesLeading p ++ cause.toList.map (.portDown p))).orphanRestart p := by
  rw [State.fall, if_pos hp, htarget, leavePresence_eq]

theorem fall_departs {cause : Option DownCause} (hs : CueListSound s) (hp : s.present p = true)
    (hr : s.restartBy ≠ some p) (htarget : s.fallTarget p target = target) :
    HasDeparted s (s.fall p target cause) p target (cause.toList.map (.portDown p)) := by
  obtain ⟨-, hn, -⟩ := hs
  have hraised := raised_sansMsgs (s.departing p target) (s.lanesLeading p ++ cause.toList.map (.portDown p))
  obtain ⟨-, -, hrestartBy⟩ := lists_of_sansMsgs (hraised.trans departing_sansMsgs)
  rw [fall_eq hp htarget, State.orphanRestart, if_neg (hrestartBy ▸ hr)]
  exact departed_whole hn _

/-- R185: a port that falls while a RESTART waits for its reply takes the RESTART with it. -/
theorem fall_restarts {cause : Option DownCause} (hp : s.present p = true) (hr : s.restartBy = some p)
    (htarget : s.fallTarget p target = target) : HasRestarted s (s.fall p target cause) := by
  have hraised := raised_sansMsgs (s.departing p target) (s.lanesLeading p ++ cause.toList.map (.portDown p))
  obtain ⟨-, -, hrestartBy⟩ := lists_of_sansMsgs (hraised.trans departing_sansMsgs)
  have hmessages : (s.departing p target).raised (s.lanesLeading p ++ cause.toList.map (.portDown p)) =
      (s.departed p target (s.departing p target).talk (s.departing p target).active).mailed
        ((s.departing p target).raised (s.lanesLeading p ++ cause.toList.map (.portDown p))) := 
    eq_mailed (hraised.trans departing_sansMsgs)
  rw [fall_eq hp htarget, State.orphanRestart, if_pos (hrestartBy.trans hr), hmessages, restart_departed]
  exact restart_restarts s

end

end Sys2Proof.Machine
end

section
/-! The message at the head of a transmit queue, octet by octet (R133, R156, R160, R168, R172, R173, R181, R185). -/

namespace Sys2Proof.Machine

/-! ### The frame that carries an octet of the head -/

/-- R172: the start marker with an octet of an entry. -/
def TxEntry.marker (e : TxEntry) : Octet := if e.sent = 0 then 0x80 else 0

/-- R156: the octet of an entry that goes out next. -/
def TxEntry.octet (e : TxEntry) : Octet := e.content.octets.getD e.sent 0

/-- R156, R172: the frame that carries an octet of an entry. -/
def State.headFrame (s : State) (p : Port) (e : TxEntry) : DownFrame :=
  if s.ports[p].state = .probing then downFrame 0x72 0 0 0 1 e.marker e.octet
  else
    downFrame 0x71 ((s.mixSample p).extractLsb' 8 8) ((s.mixSample p).extractLsb' 0 8) (talkOctet (s.lampsNow p).talk)
      (lampOctet (s.lampsNow p).call (s.cueLamp p) true) e.marker e.octet

/-- R156, R172: the state with that frame on the line. -/
def State.sending (s : State) (p : Port) (e : TxEntry) : State :=
  { s with
    line := put s.line p (some (s.headFrame p e))
    shown := if s.present p = true then put s.shown p (s.lampsNow p) else s.shown }

theorem headFrame_octets (s : State) (p : Port) (e : TxEntry) :
    (s.headFrame p e)[5] = e.marker ∧ (s.headFrame p e)[6] = e.octet := by
  unfold State.headFrame
  split <;> exact ⟨rfl, rfl⟩

theorem nextOctet_cons {s : State} {p : Port} {e : TxEntry} {rest : List TxEntry} (hq : s.queues[p] = e :: rest) :
    (s.nextOctet p).isSome = true ∧ markerOctet (s.nextOctet p) = e.marker ∧ laneValue (s.nextOctet p) = e.octet := by
  unfold State.nextOctet
  rw [hq]
  refine ⟨rfl, ?_, rfl⟩
  show markerOctet (some (e.sent == 0, e.octet)) = e.marker
  unfold TxEntry.marker
  cases e.sent <;> rfl

section
variable {s : State} {p : Port} {e : TxEntry} {rest : List TxEntry} (hl : s.loader ≠ .loading)
  (hsends : s.ports[p].state = .probing ∨ s.present p = true) (hq : s.queues[p] = e :: rest)
include hq

include hl hsends in
/-- R156: a port in PROBING, or a present one, sends an octet of its head. -/
theorem downstream_head : exec (.downstreamFrame p) s = .next ((s.sending p e).octetSent p) := by
  obtain ⟨hsome, hmarker, hoctet⟩ := nextOctet_cons hq
  refine congrArg Host.Outcome.next ((downstream_loaded hl p).trans ?_)
  by_cases hprobing : s.ports[p].state = .probing
  · have habsent : ¬s.present p = true := by rw [present_iff, hprobing]; decide
    have hframe : s.probeFrame p = s.headFrame p e := by
      rw [State.probeFrame, hsome, hmarker, hoctet, State.headFrame, if_pos hprobing]
      rfl
    rw [sendFrame_probing hprobing, hframe, State.sending, if_neg habsent]
    rfl
  · have hpresent := hsends.resolve_left hprobing
    have hframe : s.serviceFrame p = s.headFrame p e := by
      rw [State.serviceFrame, hsome, hmarker, hoctet, State.headFrame, if_neg hprobing]
    rw [sendFrame_present hpresent, hframe, State.sending, if_pos hpresent]
    rfl

/-- R181: an octet that is not the last. -/
theorem octetSent_more (h : e.sent + 1 < e.content.octets.length) :
    s.octetSent p = s.setQueue p ({ e with sent := e.sent + 1 } :: rest) := by
  unfold State.octetSent
  rw [hq]
  exact if_pos h

/-- R181: the last octet: the message leaves, and what waited for it is carried out. -/
theorem octetSent_last (h : e.content.octets.length ≤ e.sent + 1) :
    s.octetSent p = ((s.setQueue p rest).askSent p e).replyGone p e.waits := by
  unfold State.octetSent
  rw [hq]
  exact if_neg (Nat.not_lt.2 h)

end

/-! ### What the last octet leaves -/

/-- R160: the last octet of an ask in PROBING sets the ask deadline. -/
theorem askSent_asking {s : State} {p : Port} {e : TxEntry} (hprobing : s.ports[p].state = .probing)
    (hask : ∃ n, e.content = .identAsk n) :
    s.askSent p e = s.setPort p { s.ports[p] with askDeadline := some (s.clock + 8 * 50) } := by
  obtain ⟨n, hn⟩ := hask
  unfold State.askSent
  rw [hn]
  exact if_pos hprobing

theorem askSent_other {s : State} {p : Port} {e : TxEntry}
    (h : ¬(s.ports[p].state = .probing ∧ ∃ n, e.content = .identAsk n)) : s.askSent p e = s := by
  unfold State.askSent
  split
  · rename_i n hn
    exact if_neg fun hprobing => h ⟨hprobing, n, hn⟩
  · rfl

/-- R185: a RESTART carried out behind the last octet. -/
theorem askSent_restarts (s : State) (p : Port) (e : TxEntry) : HasRestarted s (s.askSent p e).restart := by
  by_cases h : s.ports[p].state = .probing ∧ ∃ n, e.content = .identAsk n
  · rw [askSent_asking h.1 h.2]
    exact restart_restarts (s.setPort p _)
  · rw [askSent_other h]
    exact restart_restarts s

/-- R168: what is carried out for the port of a deferred action. -/
theorem carryOut_spec {s : State} {p : Port} (hp : s.present p = true) :
    (s.ports[p].deferred = none → s.carryOut p = s)
      ∧ (s.restartBy ≠ some p →
        (s.ports[p].deferred = some .disable →
            HasLeft s (s.carryOut p) p .disabled ∧ TablesKept s (s.carryOut p)
              ∧ (CueListSound s → HasDeparted s (s.carryOut p) p .disabled []))
          ∧ (s.ports[p].deferred = some .restart →
            HasLeft s (s.carryOut p) p .down ∧ TablesKept s (s.carryOut p)
              ∧ (CueListSound s → HasDeparted s (s.carryOut p) p .down [.portDown p .portRestart])
              ∧ (s.carryOut p).notices[(1 : NoticeKind)].detail = some (.portDown p .portRestart)))
      ∧ (s.restartBy = some p → s.ports[p].deferred ≠ none → HasRestarted s (s.carryOut p)) := by
  have hdisabled : s.fallTarget p .disabled = .disabled := ite_self _
  have hdown : s.ports[p].deferred = some .restart → s.fallTarget p .down = .down := fun h => if_neg (by rw [h]; decide)
  have hcarried : s.carryOut p =
      match s.ports[p].deferred with
      | none => s
      | some .disable => s.fall p .disabled none
      | some .restart => s.fall p .down (some .portRestart) := rfl
  refine ⟨fun h => by rw [hcarried, h], fun hr => ⟨fun h => ?_, fun h => ?_⟩, fun hr h => ?_⟩
  · obtain ⟨hleft, hkept, -, -, -⟩ := fall_leaves s p .disabled none rfl hp hr hdisabled
    rw [hcarried, h]
    exact ⟨hleft, hkept, fun hs => fall_departs hs hp hr hdisabled⟩
  · obtain ⟨hleft, hkept, -, -, hdetail⟩ := fall_leaves s p .down (some .portRestart) rfl hp hr (hdown h)
    rw [hcarried, h]
    exact ⟨hleft, hkept, fun hs => fall_departs hs hp hr (hdown h), hdetail _ rfl⟩
  · rw [hcarried]
    cases hd : s.ports[p].deferred with
    | none => exact absurd hd h
    | some d =>
      cases d with
      | disable => exact fall_restarts hp hr hdisabled
      | restart => exact fall_restarts hp hr (hdown hd)

/-! ### The octets of a message -/

/-- R179: data that is neither none nor an unknown kind lies as the layout says, within the payload. -/
theorem replyDataOctets_laid {d : ReplyData} (hnothing : d ≠ .nothing) (hkind : ∀ x, d ≠ .unknownKind x) :
    replyDataOctets d = (Config.dataOctets d).take 47 := by
  unfold replyDataOctets
  split
  · exact absurd rfl hnothing
  · exact absurd rfl (hkind _)
  · rfl

/-- R173: the octets of each message the part sends. -/
theorem octets_spec :
    let message : Octet → Octet → List Octet → List Octet := fun kind tag payload =>
      let body := kind :: tag :: BitVec.ofNat 8 payload.length :: payload
      body ++ [crc8 0xFF body]
    (∀ (kind tag : Octet) (st : Status),
        (TxContent.reply kind tag st .nothing).octets = message kind tag [st.code]
          ∧ (∀ x, (TxContent.reply kind tag st (.unknownKind x)).octets = message kind tag [st.code, x])
          ∧ ∀ d : ReplyData, d ≠ .nothing → (∀ x, d ≠ .unknownKind x) →
            (TxContent.reply kind tag st d).octets = message kind tag (st.code :: (Config.dataOctets d).take 47))
      ∧ (∀ n : NoticeBody, (TxContent.notice n).octets = message 0xC4 0 ((Config.noticeOctets n).take 48))
      ∧ (∀ (b : DeskBody) (gap : Bool),
        (TxContent.desk b gap).octets =
          message
            (match b with
            | .cue .. => 0xD4
            | .bank _ => 0xD5)
            0 ((Config.deskOctets b gap).take 48))
      ∧ ∀ n : Nat, (TxContent.identAsk n).octets = message 0xF0 (BitVec.ofNat 8 n) [] := by
  refine ⟨fun kind tag st => ⟨rfl, fun x => rfl, fun d hnothing hkind => ?_⟩, fun n => rfl, fun b gap => ?_, fun n => rfl⟩
  · rw [← replyDataOctets_laid hnothing hkind]
    rfl
  · cases b <;> rfl

/-! ### The statement -/

/-- Settles O15: the frame carries the octet, and behind the last one stands what waited for the message. -/
theorem headOfQueueGoesOutOctetByOctet : Obligations.HeadOfQueueGoesOutOctetByOctet := by
  refine ⟨fun s p e rest hl hsends hq => ?_, octets_spec, by decide⟩
  have hhead := downstream_head hl hsends hq
  have hqueue : (s.sending p e).queues[p] = e :: rest := hq
  have hlast : e.content.octets.length ≤ e.sent + 1 → exec (.downstreamFrame p) s = .next
      ((((s.sending p e).setQueue p rest).askSent p e).replyGone p e.waits) := fun h => by
    rw [hhead, octetSent_last hqueue h]
  obtain ⟨hmarker, hoctet⟩ := headFrame_octets s p e
  refine ⟨hmarker, hoctet, fun h => ?more, fun h hw => ⟨fun hasking => ?asking, fun hother => ?other⟩,
    fun h hw hpresent => ?deferred, fun h hw => ?restart⟩
  case more =>
    rw [hhead, octetSent_more hqueue h]
    rfl
  case asking =>
    rw [hlast h, hw, askSent_asking (s := (s.sending p e).setQueue p rest) hasking.1 hasking.2]
    rfl
  case other =>
    rw [hlast h, hw, askSent_other (s := (s.sending p e).setQueue p rest) hother]
    rfl
  case deferred =>
    have hprobing : ¬(s.ports[p].state = .probing ∧ ∃ n, e.content = .identAsk n) := fun ⟨hstate, _⟩ => by
      rw [present_iff, hstate] at hpresent
      revert hpresent
      decide
    rw [hlast h, hw, askSent_other (s := (s.sending p e).setQueue p rest) hprobing]
    obtain ⟨hnone, hfalls, hrestarts⟩ := carryOut_spec (s := (s.sending p e).setQueue p rest) hpresent
    refine ⟨fun hd => congrArg Host.Outcome.next (hnone hd), fun hr => ⟨fun hd => ⟨_, rfl, ?_⟩, fun hd => ⟨_, rfl, ?_⟩⟩,
      fun hr hd => ⟨_, rfl, hrestarts hr hd⟩⟩
    · exact (hfalls hr).1 hd
    · exact (hfalls hr).2 hd
  case restart =>
    rw [hlast h, hw]
    exact ⟨_, rfl, askSent_restarts _ p e⟩

end Sys2Proof.Machine
end

section
/-! A call-key press (R140, R141): the slots it reaches, the caller's holdoff and the idle timer it reloads. -/

namespace Sys2Proof.Machine

/-! ### Call records -/

/-- Reading a call record after one has been replaced. -/
theorem setCall_at (s : State) (p q : Port) (k j : KeySlot) (r : CallRecord) :
    (s.setCall p k r).calls[q][j] = if q = p ∧ j = k then r else s.calls[q][j] := by
  simp only [setCall_fields, get_put]
  by_cases hq : q = p
  · subst hq
    simp only [if_true, get_put, true_and]
  · simp only [hq, if_false, false_and]

/-- A state whose rest is that of another is that other with its own call records. -/
theorem eq_withCalls {s t : State} (h : t.sansCalls = s.sansCalls) : t = { s with calls := t.calls } :=
  congrArg (fun x : State => { x with calls := t.calls }) h

/-! ### The recipients -/

/-- R141: the flash that a call on a channel from a port sets. -/
def State.callFlash (s : State) (p : Port) (c : Chan) : Flash :=
  { caller := p, deadline := s.clock + 8 * s.channels[c].callDisplay }

theorem mem_everySlot (x : Port × KeySlot) : x ∈ everySlot := by
  simp [everySlot, allPorts, mem_allSlots, Prod.ext_iff]

/-- R141: slots set flashing one after the other each take the same flash, and the others keep their records. -/
theorem foldl_flashSlot_at (p : Port) (c : Chan) (q : Port) (j : KeySlot) (l : List (Port × KeySlot)) (s : State) :
    (l.foldl (fun t x => t.flashSlot p c x) s).calls[q][j] =
      if (q, j) ∈ l then { s.calls[q][j] with flash := some (s.callFlash p c) } else s.calls[q][j] := by
  induction l generalizing s with
  | nil => simp
  | cons x l ih =>
    have hflash : (s.flashSlot p c x).callFlash p c = s.callFlash p c := rfl
    have hhead : (s.flashSlot p c x).calls[q][j] =
        if (q, j) = x then { s.calls[q][j] with flash := some (s.callFlash p c) } else s.calls[q][j] := by
      by_cases hx : (q, j) = x
      · obtain rfl := hx
        rw [State.flashSlot, setCall_at, if_pos ⟨rfl, rfl⟩, if_pos rfl]
        rfl
      · rw [State.flashSlot, setCall_at, if_neg fun h => hx (Prod.ext h.1 h.2), if_neg hx]
    rw [List.foldl_cons, ih, hflash, hhead]
    by_cases hx : (q, j) = x <;> by_cases hl : (q, j) ∈ l <;> simp [hx, hl]

/-- R141: the slots that a call reaches. -/
theorem receivesCall_iff (s : State) (p : Port) (c : Chan) (q : Port) (j : KeySlot) :
    s.receivesCall p c (q, j) = true ↔
      q ≠ p ∧ s.present q = true ∧ s.inert q j = false ∧ s.profiles[q].slots[j].channel = some c
        ∧ s.profiles[q].slots[j].mode ≠ .talk := by
  simp only [State.receivesCall, State.slotConfig, Bool.and_eq_true, bne_iff_ne, Bool.not_eq_true', beq_iff_eq,
    SlotMode.hears_iff, and_assoc]

/-- R141: the call records that the recipients' flashing leaves. -/
theorem flashRecipients_at (s : State) (p : Port) (c : Chan) (q : Port) (j : KeySlot) :
    (s.flashRecipients p c).calls[q][j] =
      if s.receivesCall p c (q, j) = true then { s.calls[q][j] with flash := some (s.callFlash p c) }
      else s.calls[q][j] := by
  simp only [State.flashRecipients, foldl_flashSlot_at, List.mem_filter, mem_everySlot, true_and]

/-- R141: no slot of the caller is a recipient. -/
theorem flashRecipients_caller (s : State) (p : Port) (c : Chan) (j : KeySlot) :
    (s.flashRecipients p c).calls[p][j] = s.calls[p][j] := by
  rw [flashRecipients_at]
  exact if_neg fun h => ((receivesCall_iff s p c p j).1 h).1 rfl

/-! ### The holdoff -/

/-- R141: the call records that the start of a holdoff leaves. -/
theorem startHoldoff_at (s : State) (p q : Port) (k j : KeySlot) :
    (s.startHoldoff p k).calls[q][j] =
      if (q = p ∧ j = k) ∧ s.router.holdoff ≠ 0 then
        { s.calls[q][j] with holdoff := some (s.clock + 8 * s.router.holdoff) }
      else s.calls[q][j] := by
  by_cases hnone : s.router.holdoff = 0
  · rw [State.startHoldoff, if_pos hnone, if_neg fun h => h.2 hnone]
  · rw [State.startHoldoff, if_neg hnone, setCall_at]
    by_cases hslot : q = p ∧ j = k
    · obtain ⟨rfl, rfl⟩ := hslot
      rw [if_pos ⟨rfl, rfl⟩, if_pos ⟨⟨rfl, rfl⟩, hnone⟩]
      rfl
    · rw [if_neg hslot, if_neg fun h => hslot h.1]

/-! ### The press -/

/-- R141: a call takes call records and an idle timer alone. -/
theorem takeCall_eq (s : State) (p : Port) (k : KeySlot) (c : Chan) :
    s.takeCall p k c =
      { s with
        calls := (s.takeCall p k c).calls
        talk := put s.talk c { s.talk[c] with idle := s.idleDeadline c } } := by
  have hrest : ((s.flashRecipients p c).startHoldoff p k).sansCalls = s.sansCalls :=
    (startHoldoff_sansCalls _ p k).trans (flashRecipients_sansCalls s p c)
  exact (congrArg (State.reloadIdle · c) (eq_withCalls hrest) :)

theorem takeCall_calls (s : State) (p : Port) (k : KeySlot) (c : Chan) :
    (s.takeCall p k c).calls = ((s.flashRecipients p c).startHoldoff p k).calls := rfl

/-- R140: a press is taken when the slot is not inert, may call, has a channel and stands in no holdoff. -/
theorem callChannel_eq_some {s : State} {p : Port} {k : KeySlot} {c : Chan} :
    s.callChannel p k = some c ↔
      s.inert p k = false ∧ s.profiles[p].slots[k].callAllowed = true ∧ s.calls[p][k].holdoff = none
        ∧ s.profiles[p].slots[k].channel = some c := by
  simp only [State.callChannel, State.slotConfig, Option.ite_none_left_eq_some, Bool.or_eq_true, not_or, Bool.not_eq_true,
    Bool.not_eq_false', Option.isSome_eq_false_iff, Option.isNone_iff_eq_none, and_assoc]

/-- R141: a press that is taken is a call on the slot's channel. -/
theorem callPress_taken {s : State} {p : Port} {k : KeySlot} {c : Chan} (h : s.callChannel p k = some c) :
    s.callPress p k = s.takeCall p k c := by
  unfold State.callPress
  rw [h]

/-- R140: a press that is not taken changes nothing. -/
theorem callPress_ignored {s : State} {p : Port} {k : KeySlot} (h : s.callChannel p k = none) : s.callPress p k = s := by
  unfold State.callPress
  rw [h]

/-- Settles O40: the recipients' records, the caller's, and the rest of a press that is taken; any other is ignored. -/
theorem callReachesItsRecipients : Obligations.CallReachesItsRecipients := by
  intro s p k c
  refine ⟨fun hinert hallowed hchannel hholdoff => ?taken, fun h => callPress_ignored ?ignored⟩
  case taken =>
    rw [callPress_taken (callChannel_eq_some.2 ⟨hinert, hallowed, hholdoff, hchannel⟩)]
    refine ⟨fun q j hq => ?recipient, fun j => ?caller, takeCall_eq s p k c⟩
    case recipient =>
      rw [takeCall_calls, startHoldoff_at, if_neg fun h => hq h.1.1, flashRecipients_at]
      simp only [receivesCall_iff, ne_eq, hq, not_false_eq_true, true_and, State.callFlash]
    case caller =>
      simp only [takeCall_calls, startHoldoff_at, flashRecipients_caller, flashRecipients_fields, true_and]
  case ignored =>
    refine Option.eq_none_iff_forall_ne_some.2 fun c' hc => ?_
    obtain ⟨hinert, hallowed, hholdoff, hchannel⟩ := callChannel_eq_some.1 hc
    rcases h with h | h | h | h
    · exact nomatch hinert.symm.trans h
    · exact nomatch hallowed.symm.trans h
    · exact nomatch hchannel.symm.trans h
    · exact h hholdoff

end Sys2Proof.Machine
end

section
/-! Upstream frames: what makes one good and the fields it yields (R152, R171), and what a port takes of it by its state
(R147, R153, R154, R155, R160). -/

namespace Sys2Proof.Machine

/-! ### The frame check -/

/-- R171: one shift of the check register. -/
theorem crcShift_eq (y : Octet) : crcShift y = if y.getLsbD 7 = true then (y <<< 1) ^^^ 0x07#8 else y <<< 1 := by
  rw [crcShift, BitVec.msb_eq_getLsbD_last]

/-- R171: an octet goes into the check register by eight shifts. -/
theorem crcOctet_eq (x o : Octet) : crcOctet x o = Nat.iterate crcShift 8 (x ^^^ o) := rfl

/-! ### What makes a frame good, and its fields -/

/-- R152: a frame interval without the start octet brings no frame. -/
theorem classify_missing_iff (f : UpFrame) : UpFrame.classify f = .missing ↔ f[0] ≠ 0x4E#8 := by
  unfold UpFrame.classify
  split
  · next h => exact iff_of_true rfl h
  · next h =>
    refine iff_of_false ?_ h
    split
    · decide
    · split <;> decide

/-- R152: a good frame has the start octet, its check and consistent lane bits. -/
theorem classify_good_iff (f : UpFrame) :
    UpFrame.classify f = .good ↔
      f[0] = 0x4E#8 ∧ f[6] = crc8 0 [f[1], f[2], f[3], f[4], f[5]]
        ∧ ¬(f[4].getLsbD 5 = true ∧ f[4].getLsbD 6 = false) := by
  have hlane : (UpFrame.startMarker f && !UpFrame.lanePresent f) = true ↔
      f[4].getLsbD 5 = true ∧ f[4].getLsbD 6 = false := by
    rw [Bool.and_eq_true, Bool.not_eq_true']
    rfl
  rw [← hlane]
  unfold UpFrame.classify
  split
  · next hstart => exact iff_of_false (by decide) fun ⟨h, _⟩ => hstart h
  · next hstart =>
    split
    · next hcheck => exact iff_of_false (by decide) fun ⟨_, h, _⟩ => hcheck h
    · next hcheck =>
      split
      · next hlanes => exact iff_of_false (by decide) fun ⟨_, _, h⟩ => h hlanes
      · next hlanes => exact iff_of_true rfl ⟨not_not.1 hstart, not_not.1 hcheck, hlanes⟩

/-- R171: the sample is a signed number, its high octet first. -/
theorem sample_toInt (f : UpFrame) : (UpFrame.sample f).toInt = 256 * f[1].toInt + f[2].toNat :=
  BitVec.toInt_append

/-- R171: the key levels of a slot. -/
theorem keys_getLsbD (f : UpFrame) (k : KeySlot) :
    (UpFrame.keys f).talk.getLsbD k.val = f[3].getLsbD (4 + k.val)
      ∧ (UpFrame.keys f).call.getLsbD k.val = f[3].getLsbD k.val := by
  simp [UpFrame.keys]

/-! ### A good frame by the state of the port -/

/-- R152, R170: a loaded part hands a good frame on. -/
theorem goodFrame_loaded {s : State} {f : UpFrame} (hl : s.loader ≠ .loading) (hgood : UpFrame.classify f = .good)
    (p : Port) : exec (.goodFrame p f) s = .next (s.takeGood p f) := by
  refine congrArg Host.Outcome.next ?_
  rw [State.takeFrame, if_pos (loaded_of_ne hl), hgood]

/-- R147, R154: a good frame's sample taken and the link-loss count cleared. -/
def State.heard (s : State) (p : Port) (f : UpFrame) : State :=
  { s with
    samples := put s.samples p (some (UpFrame.sample f))
    ports := put s.ports p { s.ports[p] with lossCount := 0 } }

/-- R153: a good frame of an identified port that carries no message octet, before its key edges are handed on. -/
def State.keyed (s : State) (p : Port) (f : UpFrame) : State :=
  { s with
    samples := put s.samples p (some (UpFrame.sample f))
    ports := put s.ports p { s.ports[p] with lossCount := 0, keyRef := some (UpFrame.keys f) } }

theorem frameOctet_absent {f : UpFrame} (h : UpFrame.lanePresent f = false) (s : State) (p : Port) :
    s.frameOctet p f = s := by
  rw [State.frameOctet, h, if_neg (by decide)]

/-- R160: a port whose queue is empty queues its first ask. -/
theorem startProbing_of_emptyQueue {s : State} {p : Port} (h : s.queues[p] = []) :
    s.startProbing p =
      { s with ports := put s.ports p { s.ports[p] with state := .probing, asksSent := 1 } }.replied p
        { content := .identAsk 1, sent := 0, waits := .nothing } := by
  have hroom : (s.setPort p { s.ports[p] with state := .probing, asksSent := 1 }).queues[p].length < 8 := by
    simp [h]
  rw [State.startProbing, State.queueAsk, if_pos hroom]
  rfl

/-- R153: a port in DISABLED takes nothing. -/
theorem takeGood_disabled {s : State} {p : Port} (h : s.ports[p].state = .disabled) (f : UpFrame) :
    s.takeGood p f = s := by
  unfold State.takeGood
  rw [h]

/-- R153, R160: a port in DOWN takes the sample and begins to identify its station. -/
theorem takeGood_down {s : State} {p : Port} (h : s.ports[p].state = .down) (f : UpFrame) :
    s.takeGood p f = (s.setSample p (some (UpFrame.sample f))).startProbing p := by
  unfold State.takeGood
  rw [h]

/-- R153: a port in FAULT takes the sample. -/
theorem takeGood_fault {s : State} {p : Port} (h : s.ports[p].state = .fault) (f : UpFrame) :
    s.takeGood p f = s.heard p f := by
  unfold State.takeGood
  rw [h]
  rfl

/-- R153: a port in PROBING takes the sample and the message octet. -/
theorem takeGood_probing {s : State} {p : Port} (h : s.ports[p].state = .probing) (f : UpFrame) :
    s.takeGood p f = (s.heard p f).frameOctet p f := by
  unfold State.takeGood
  rw [h]
  rfl

/-- R153: a present port takes the sample, the key levels and the message octet. -/
theorem takeGood_present {s : State} {p : Port} (h : s.present p = true) (f : UpFrame) :
    s.takeGood p f = ((s.heard p f).takeKeys p (UpFrame.keys f)).frameOctet p f := by
  unfold State.takeGood
  rcases (present_iff s p).1 h with h | h <;> rw [h] <;> rfl

/-- R155: a present port hands on the edges from its reference, and the frame's levels become the reference. -/
theorem takeGood_keyed {s : State} {p : Port} {f : UpFrame} {old : Keys} (hpresent : s.present p = true)
    (hlane : UpFrame.lanePresent f = false) (href : s.ports[p].keyRef = some old) :
    s.takeGood p f = (s.keyed p f).edges p old (UpFrame.keys f) := by
  have hport : (s.heard p f).ports[p] = { s.ports[p] with lossCount := 0 } := by simp [State.heard]
  have hset : (s.heard p f).setPort p { s.ports[p] with lossCount := 0, keyRef := some (UpFrame.keys f) } = s.keyed p f := by
    simp only [State.setPort, State.heard, State.keyed, put_put]
  rw [takeGood_present hpresent, frameOctet_absent hlane, State.takeKeys, hport]
  simp only [href, hset]

/-! ### Key edges -/

/-- R155: no bit rises in levels that stay. -/
theorem pressed_same (a : BitVec 4) (k : KeySlot) : pressed a a k = false := by
  rw [pressed, Bool.and_not_self]

theorem talkEdge_same {old new : Keys} (h : new.talk = old.talk) (s : State) (p : Port) (k : KeySlot) :
    s.talkEdge p old new k = s := by
  simp only [State.talkEdge, h, pressed_same, Bool.false_eq_true, if_false]

theorem callEdge_same {old new : Keys} (h : new.call = old.call) (s : State) (p : Port) (k : KeySlot) :
    s.callEdge p old new k = s := by
  simp only [State.callEdge, h, pressed_same, Bool.false_eq_true, if_false]

theorem cueEdge_same {old new : Keys} (h : new.cue = old.cue) (s : State) (p : Port) : s.cueEdge p old new = s := by
  simp only [State.cueEdge, h, Bool.and_not_self, Bool.false_eq_true, if_false]

/-- R155: the edges of a frame whose talk levels stay. -/
theorem talkEdges_same {old new : Keys} (h : new.talk = old.talk) (s : State) (p : Port) :
    allSlots.foldl (fun t k => t.talkEdge p old new k) s = s :=
  List.foldl_fixed' (talkEdge_same h s p) allSlots

/-- R155: the edges of a frame whose call levels stay. -/
theorem callEdges_same {old new : Keys} (h : new.call = old.call) (s : State) (p : Port) :
    allSlots.foldl (fun t k => t.callEdge p old new k) s = s :=
  List.foldl_fixed' (callEdge_same h s p) allSlots

theorem edgesUp_same (s : State) (p : Port) (keys : Keys) : s.edgesUp p keys keys = s := by
  rw [State.edgesUp, talkEdges_same rfl, callEdges_same rfl, cueEdge_same rfl]

/-- R155: levels that stay hand nothing on. -/
theorem edges_same (s : State) (p : Port) (keys : Keys) : s.edges p keys keys = s := by
  unfold State.edges
  split
  · exact edgesUp_same s p keys
  · exact cueEdge_same rfl s p
  · rfl

/-- R155: a frame that repeats the levels of the reference leaves it. -/
theorem keyed_same {s : State} {p : Port} {f : UpFrame} (h : s.ports[p].keyRef = some (UpFrame.keys f)) :
    s.keyed p f = s.heard p f := by
  rw [State.keyed, State.heard, ← h]

/-! ### Frames that count as missing -/

/-- R152: an interval without a good frame counts as missing. -/
theorem noFrame_loaded {s : State} {p : Port} {f : UpFrame} {c : Instr} (hl : s.loader ≠ .loading)
    (hc : c = .frameMissing p ∨ (c = .frameDiscarded p f ∧ UpFrame.classify f ≠ .good)) :
    exec c s = .next (s.takeMissing p) := by
  rcases hc with rfl | ⟨rfl, hbad⟩
  · exact congrArg Host.Outcome.next (if_pos (loaded_of_ne hl))
  · refine congrArg Host.Outcome.next ((if_pos (loaded_of_ne hl)).trans ?_)
    split
    · next h => exact absurd h hbad
    · rfl

theorem takeMissing_disabled {s : State} {p : Port} (h : s.ports[p].state = .disabled) : s.takeMissing p = s := by
  unfold State.takeMissing
  rw [h]

theorem takeMissing_down {s : State} {p : Port} (h : s.ports[p].state = .down) :
    s.takeMissing p = s.setSample p none := by
  unfold State.takeMissing
  rw [h]

/-- R154: below link loss the count rises and the sample is void. -/
theorem takeMissing_counts {s : State} {p : Port} (hdisabled : s.ports[p].state ≠ .disabled)
    (hdown : s.ports[p].state ≠ .down) (hcount : s.ports[p].lossCount < 15) :
    s.takeMissing p = (s.setSample p none).setPort p { s.ports[p] with lossCount := s.ports[p].lossCount + 1 } := by
  unfold State.takeMissing
  split
  · next h => exact absurd h hdisabled
  · next h => exact absurd h hdown
  · exact if_neg (by omega)

/-! ### The statement -/

/-- Settles O10: the frame by the state of the port, the interval without one by what it counts, the octets by their
places. -/
theorem framesByPortState : Obligations.FramesByPortState := by
  refine ⟨fun s p f hl hgood => ?good, fun s p f c hl hc => ?noFrame, fun f => ?octets, fun x o l => ⟨rfl, ?check⟩⟩
  case good =>
    rw [goodFrame_loaded hl hgood]
    refine ⟨fun h => ?_, fun h hq => ?_, fun h => ?_, fun h hlane => ?_, fun h hlane href => ?_⟩
    · rw [takeGood_disabled h]
    · rw [takeGood_down h, startProbing_of_emptyQueue (s := s.setSample p _) hq]
      rfl
    · rw [takeGood_fault h, State.heard]
    · rw [takeGood_probing h, frameOctet_absent hlane, State.heard]
    · rw [takeGood_keyed h hlane href, edges_same, keyed_same href, State.heard]
  case noFrame =>
    rw [noFrame_loaded hl hc]
    refine ⟨fun h => ?_, fun h => ?_, fun hdisabled hdown hcount => ?_⟩
    · rw [takeMissing_disabled h]
    · rw [takeMissing_down h, State.setSample]
    · rw [takeMissing_counts hdisabled hdown hcount]
      rfl
  case octets =>
    exact ⟨classify_missing_iff f, classify_good_iff f, sample_toInt f, keys_getLsbD f, rfl, rfl, rfl⟩
  case check =>
    rw [← funext crcShift_eq, ← crcOctet_eq]
    rfl

end Sys2Proof.Machine
end

section
/-! Key edges of a good frame (R143, R155): the one edge of a frame, and the block that takes it. -/

namespace Sys2Proof.Machine

/-! ### One edge among the slots -/

/-- R155: levels that differ in one bit, set in the new ones, rise at that bit alone. -/
theorem pressed_rise {old new : BitVec 4} {k : KeySlot} (hnew : new = old ||| BitVec.twoPow 4 k.val)
    (hclear : old.getLsbD k.val = false) (j : KeySlot) : pressed old new j = decide (j = k) := by
  rw [pressed, hnew, BitVec.getLsbD_or, BitVec.getLsbD_twoPow, decide_eq_true k.isLt, Bool.true_and]
  by_cases hj : j = k
  · subst hj
    rw [hclear]
    simp
  · have hval : k.val ≠ j.val := fun h => hj (Fin.ext h.symm)
    simp [hj, hval]

/-- R155: levels that lose no bit do not fall. -/
theorem not_pressed_of_or {old new bits : BitVec 4} (hnew : new = old ||| bits) (j : KeySlot) :
    pressed new old j = false := by
  rw [pressed, hnew, BitVec.getLsbD_or]
  cases old.getLsbD j.val <;> rfl

/-- A pass over the slots in which one slot alone acts is what that slot does. -/
theorem foldl_allSlots_one {f : State → KeySlot → State} {k : KeySlot} (h : ∀ t j, j ≠ k → f t j = t) (s : State) :
    allSlots.foldl f s = f s k := by
  fin_cases k <;> simp [allSlots, h]

/-- R143, R155: the one talk-key edge of a frame is a press, which also ends the slot's flash. -/
theorem talkEdges_press {old new : Keys} {k : KeySlot} (hnew : new.talk = old.talk ||| BitVec.twoPow 4 k.val)
    (hclear : old.talk.getLsbD k.val = false) (s : State) (p : Port) :
    allSlots.foldl (fun t j => t.talkEdge p old new j) s = (s.talkPress p k).stopFlash p k := by
  rw [foldl_allSlots_one (k := k) fun t j hj => ?_]
  · rw [State.talkEdge, pressed_rise hnew hclear, if_pos (decide_eq_true rfl)]
  · rw [State.talkEdge, pressed_rise hnew hclear, not_pressed_of_or hnew, if_neg (by simpa using hj), if_neg (by decide)]

/-- R155: the one talk-key edge of a frame is a release. -/
theorem talkEdges_release {old new : Keys} {k : KeySlot} (hold : old.talk = new.talk ||| BitVec.twoPow 4 k.val)
    (hclear : new.talk.getLsbD k.val = false) (s : State) (p : Port) :
    allSlots.foldl (fun t j => t.talkEdge p old new j) s = s.talkRelease p k := by
  rw [foldl_allSlots_one (k := k) fun t j hj => ?_]
  · rw [State.talkEdge, not_pressed_of_or hold, if_neg (by decide), pressed_rise hold hclear,
      if_pos (decide_eq_true rfl)]
  · rw [State.talkEdge, not_pressed_of_or hold, if_neg (by decide), pressed_rise hold hclear, if_neg (by simpa using hj)]

/-- R155: the one call-key edge of a frame is a press. -/
theorem callEdges_press {old new : Keys} {k : KeySlot} (hnew : new.call = old.call ||| BitVec.twoPow 4 k.val)
    (hclear : old.call.getLsbD k.val = false) (s : State) (p : Port) :
    allSlots.foldl (fun t j => t.callEdge p old new j) s = s.callPress p k := by
  rw [foldl_allSlots_one (k := k) fun t j hj => ?_]
  · rw [State.callEdge, pressed_rise hnew hclear, if_pos (decide_eq_true rfl)]
  · rw [State.callEdge, pressed_rise hnew hclear, if_neg (by simpa using hj)]

/-! ### The edges that a port state passes on -/

theorem keyed_state (s : State) (p : Port) (f : UpFrame) : (s.keyed p f).ports[p].state = s.ports[p].state := by
  simp [State.keyed]

/-- R155: QUIET passes on the cue key alone. -/
theorem edges_quiet {s : State} {p : Port} (h : s.ports[p].state = .quiet) (old new : Keys) :
    s.edges p old new = s.cueEdge p old new := by
  unfold State.edges
  rw [h]

/-- R155: UP passes on every key. -/
theorem edges_up {s : State} {p : Port} (h : s.ports[p].state = .up) (old new : Keys) :
    s.edges p old new = s.edgesUp p old new := by
  unfold State.edges
  rw [h]

/-- R155: the edges of a frame whose talk and call levels stay. -/
theorem edgesUp_cueOnly {old new : Keys} (htalk : new.talk = old.talk) (hcall : new.call = old.call) (s : State)
    (p : Port) : s.edgesUp p old new = s.cueEdge p old new := by
  rw [State.edgesUp, talkEdges_same htalk, callEdges_same hcall]

/-- R155: the edges of a frame whose call and cue levels stay. -/
theorem edgesUp_talkOnly {old new : Keys} (hcall : new.call = old.call) (hcue : new.cue = old.cue) (s : State)
    (p : Port) : s.edgesUp p old new = allSlots.foldl (fun t j => t.talkEdge p old new j) s := by
  rw [State.edgesUp, callEdges_same hcall, cueEdge_same hcue]

/-- R155: the edges of a frame whose talk and cue levels stay. -/
theorem edgesUp_callOnly {old new : Keys} (htalk : new.talk = old.talk) (hcue : new.cue = old.cue) (s : State)
    (p : Port) : s.edgesUp p old new = allSlots.foldl (fun t j => t.callEdge p old new j) s := by
  rw [State.edgesUp, talkEdges_same htalk, cueEdge_same hcue]

/-! ### The statement -/

/-- R143: a talk press touches no call record, so the flash ends on the records that stood before it. -/
theorem talkPress_stopFlash (s : State) (p : Port) (k : KeySlot) :
    (s.talkPress p k).stopFlash p k =
      { s.talkPress p k with
        calls := put s.calls p (put s.calls[p] k { s.calls[p][k] with flash := none }) } := by
  have hcalls : (s.talkPress p k).calls = s.calls := by simp
  rw [State.stopFlash, State.setCall, hcalls]

/-- Settles O11: the frame's edges by the state of the port, and the one edge by its key. -/
theorem keyEdgesByPortState : Obligations.KeyEdgesByPortState := by
  intro s p f old hl hgood hlane href u
  have hedges (h : s.present p = true) : exec (.goodFrame p f) s = .next (u.edges p old (UpFrame.keys f)) :=
    (goodFrame_loaded hl hgood p).trans (congrArg Host.Outcome.next (takeGood_keyed h hlane href))
  have hstate : u.ports[p].state = s.ports[p].state := keyed_state s p f
  have hquiet (h : s.ports[p].state = .quiet) :
      exec (.goodFrame p f) s = .next (u.cueEdge p old (UpFrame.keys f)) := by
    rw [hedges ((present_iff s p).2 (.inr h)), edges_quiet (hstate.trans h)]
  have hup (h : s.ports[p].state = .up) :
      exec (.goodFrame p f) s = .next (u.edgesUp p old (UpFrame.keys f)) := by
    rw [hedges ((present_iff s p).2 (.inl h)), edges_up (hstate.trans h)]
  refine ⟨hquiet, fun h htalk hcall => ?cue, fun k h hcue =>
    ⟨fun hcall hrise hclear => ?press, fun hcall hfall hclear => ?release, fun htalk hrise hclear => ?call⟩⟩
  case cue => rw [hup h, edgesUp_cueOnly htalk hcall, State.cueEdge]
  case press => rw [hup h, edgesUp_talkOnly hcall hcue, talkEdges_press hrise hclear, talkPress_stopFlash]
  case release => rw [hup h, edgesUp_talkOnly hcall hcue, talkEdges_release hfall hclear]
  case call => rw [hup h, edgesUp_callOnly htalk hcue, callEdges_press hrise hclear]

end Sys2Proof.Machine
end

section
/-! The receive assembly (R153, R174, R175): what a message octet does to it, by its start marker and its position. -/

namespace Sys2Proof.Machine

/-! ### The frame that carries the octet -/

theorem frameOctet_lane {f : UpFrame} (h : UpFrame.lanePresent f = true) (s : State) (p : Port) :
    s.frameOctet p f = s.laneOctet p (UpFrame.startMarker f) f[5] (UpFrame.keys f) := by
  rw [State.frameOctet, if_pos h]

/-- R155: levels that repeat the reference hand nothing on. -/
theorem takeKeys_same {s : State} {p : Port} {keys : Keys} (h : s.ports[p].keyRef = some keys) :
    s.takeKeys p keys = s := by
  have hport : s.setPort p { s.ports[p] with keyRef := some keys } = s := by
    rw [← h, State.setPort, put_get]
  rw [State.takeKeys, hport, h]
  exact edges_same s p keys

theorem heard_keyRef (s : State) (p : Port) (f : UpFrame) : (s.heard p f).ports[p].keyRef = s.ports[p].keyRef := by
  simp [State.heard]

/-- R153: a frame that brings no edge leaves its message octet alone to take. -/
theorem takeGood_lane {s : State} {p : Port} {f : UpFrame} (hlane : UpFrame.lanePresent f = true)
    (hstate : s.ports[p].state = .probing ∨ (s.present p = true ∧ s.ports[p].keyRef = some (UpFrame.keys f))) :
    s.takeGood p f = (s.heard p f).laneOctet p (UpFrame.startMarker f) f[5] (UpFrame.keys f) := by
  rcases hstate with hprobing | ⟨hpresent, href⟩
  · rw [takeGood_probing hprobing, frameOctet_lane hlane]
  · rw [takeGood_present hpresent, takeKeys_same ((heard_keyRef s p f).trans href), frameOctet_lane hlane]

/-! ### Start markers -/

section
variable {s : State} {p : Port} (o : Octet) (keys : Keys)

/-- R174: a start marker begins a message. -/
theorem laneOctet_begins (h : s.assemblies[p] = .empty) :
    s.laneOctet p true o keys = s.setAssembly p (.assembling [o]) := by
  unfold State.laneOctet
  rw [h]

/-- R174: an octet outside a message is ignored. -/
theorem laneOctet_ignored (h : s.assemblies[p] = .empty) : s.laneOctet p false o keys = s := by
  unfold State.laneOctet
  rw [h]

/-- R175: a start marker inside a message cuts it and begins the next. -/
theorem laneOctet_cuts {l : List Octet} (h : s.assemblies[p] = .assembling l) :
    s.laneOctet p true o keys = (s.setAssembly p (.assembling [o])).raise (.msgError p .marker) := by
  unfold State.laneOctet
  rw [h]

/-- R174: an octet inside a message goes to the next position. -/
theorem laneOctet_next {l : List Octet} (h : s.assemblies[p] = .assembling l) :
    s.laneOctet p false o keys = s.storeOctet p (l ++ [o]) keys := by
  unfold State.laneOctet
  rw [h]

end

/-! ### The octet by its position -/

/-- R175: only the third octet is tried as a length. -/
theorem badLength_of_length {l : List Octet} (h : l.length ≠ 3) : badLength l = false := by
  unfold badLength
  split
  · exact absurd rfl h
  · rfl

/-- R174: no message is complete before its fourth octet. -/
theorem assembled_of_length {l : List Octet} (h : l.length < 4) : assembled l = false := by
  unfold assembled
  split
  · next len rest =>
    have hrest : rest.length ≠ len.toNat + 1 := by
      simp only [List.length_cons] at h
      omega
    exact beq_false_of_ne hrest
  · rfl

/-- R175: the last octet of a message is held against the check over those before it. -/
theorem goodCheck_concat (l : List Octet) (o : Octet) : goodCheck (l ++ [o]) = true ↔ o = crc8 0xFF#8 l := by
  rw [goodCheck, List.getLast?_concat, List.dropLast_concat, beq_iff_eq, Option.some_inj]

section
variable {s : State} {p : Port} {l : List Octet} {kind tag len o : Octet} {payload : List Octet} {keys : Keys}

/-- R174: an octet that neither spoils the length nor completes the message waits for the next. -/
theorem storeOctet_waits (hlength : badLength l = false) (hmore : assembled l = false) :
    s.storeOctet p l keys = s.setAssembly p (.assembling l) := by
  rw [State.storeOctet, hlength, hmore]
  rfl

/-- R175: a length above 48 ends the message. -/
theorem storeOctet_badLength (hl : l.length = 2) (ho : 48 < o.toNat) :
    s.storeOctet p (l ++ [o]) keys = (s.setAssembly p .empty).raise (.msgError p .length) := by
  obtain ⟨kind, tag, rfl⟩ := List.length_eq_two.1 hl
  exact if_pos (decide_eq_true ho)

/-- R174: the kind, the tag and a length up to 48 are stored. -/
theorem storeOctet_header (h : l.length < 2 ∨ (l.length = 2 ∧ o.toNat ≤ 48)) :
    s.storeOctet p (l ++ [o]) keys = s.setAssembly p (.assembling (l ++ [o])) := by
  refine storeOctet_waits ?length (assembled_of_length ?short)
  case length =>
    rcases h with hshort | ⟨htwo, ho⟩
    · refine badLength_of_length ?_
      rw [List.length_append, List.length_singleton]
      omega
    · obtain ⟨kind, tag, rfl⟩ := List.length_eq_two.1 htwo
      exact decide_eq_false (Nat.not_lt.2 ho)
  case short =>
    rw [List.length_append, List.length_singleton]
    omega

/-- R174: behind the header no octet is tried as a length. -/
theorem badLength_payload : badLength (kind :: tag :: len :: payload ++ [o]) = false :=
  badLength_of_length (by simp)

/-- R174: the octet behind the payload completes the message. -/
theorem assembled_payload :
    assembled (kind :: tag :: len :: payload ++ [o]) = true ↔ payload.length = len.toNat := by
  show ((payload ++ [o]).length == len.toNat + 1) = true ↔ _
  rw [beq_iff_eq, List.length_append, List.length_singleton, Nat.add_right_cancel_iff]

/-- R174: an octet of the payload is stored. -/
theorem storeOctet_payload (h : payload.length < len.toNat) :
    s.storeOctet p (kind :: tag :: len :: payload ++ [o]) keys =
      s.setAssembly p (.assembling (kind :: tag :: len :: payload ++ [o])) :=
  storeOctet_waits badLength_payload (Bool.eq_false_iff.2 fun hdone => h.ne (assembled_payload.1 hdone))

/-- R175, R176: a complete message is handed on when its check is right, and reported when it is wrong. -/
theorem finishAssembly_concat :
    s.finishAssembly p (kind :: tag :: len :: payload ++ [o]) keys =
      if o = crc8 0xFF#8 (kind :: tag :: len :: payload) then s.completeMessage p kind tag payload keys
      else s.raise (.msgError p .check) := by
  simp only [State.finishAssembly, goodCheck_concat, List.dropLast_concat]

/-- R174, R175: the octet behind the payload empties the assembly and finishes the message. -/
theorem storeOctet_check (h : payload.length = len.toNat) :
    s.storeOctet p (kind :: tag :: len :: payload ++ [o]) keys =
      (s.setAssembly p .empty).finishAssembly p (kind :: tag :: len :: payload ++ [o]) keys := by
  rw [State.storeOctet, badLength_payload, if_neg (by decide), if_pos (assembled_payload.2 h)]

end

/-! ### The statement -/

/-- Settles O13: the frame hands its octet on, a marker begins or cuts a message, and the position says what a stored
octet is. -/
theorem assemblyTakesMessageOctets : Obligations.AssemblyTakesMessageOctets := by
  refine ⟨fun s p f hl hgood hlane hstate => ?frame, fun s p o keys =>
    ⟨fun hempty => ⟨laneOctet_begins o keys hempty, laneOctet_ignored o keys hempty⟩,
      fun l hl => ⟨laneOctet_cuts o keys hl, ?stored⟩⟩⟩
  case frame => rw [goodFrame_loaded hl hgood, takeGood_lane hlane hstate, State.heard]
  case stored =>
    rw [laneOctet_next o keys hl]
    refine ⟨storeOctet_badLength, storeOctet_header, fun kind tag len payload hoctets _ => ?_⟩
    subst hoctets
    exact ⟨storeOctet_payload, fun hlast => (storeOctet_check hlast).trans finishAssembly_concat⟩

end Sys2Proof.Machine
end

section
/-! SUPPORT. What an event may do to the transmit queues and to the queue of waiting commands (R179, R181; log 1): the
kinds of change, the messages, the Cue Engine, the counters and the banks. -/

namespace Sys2Proof.Machine

/-- R177: the number of entries of a queue that are reserved for a reply not yet built. -/
def reservations (q : List TxEntry) : Nat := q.countP fun e => e.content = .reserved

/-- R179: no entry stays reserved where none is counted. -/
theorem noneReserved_iff (s : State) : NoneReserved s ↔ ∀ p : Port, reservations s.queues[p] = 0 := by
  simp [NoneReserved, reservations]

/-- A change that keeps the queue of waiting commands, keeps each transmit queue within its eight entries, and leaves no
more entries reserved than it finds. -/
structure KeepsMail (s t : State) : Prop where
  pending : t.pending = s.pending
  bounded : QueuesBounded s → QueuesBounded t
  reserved : ∀ p : Port, reservations t.queues[p] ≤ reservations s.queues[p]

namespace KeepsMail

theorem trans {s t u : State} (first : KeepsMail s t) (next : KeepsMail t u) : KeepsMail s u :=
  ⟨next.pending.trans first.pending, next.bounded ∘ first.bounded, fun p => (next.reserved p).trans (first.reserved p)⟩

/-- Messages that leave their queues, the others in their order. -/
theorem shorter {s t : State} (pending : t.pending = s.pending) (queues : ∀ p : Port, t.queues[p].Sublist s.queues[p]) :
    KeepsMail s t :=
  ⟨pending, fun h p => (queues p).length_le.trans (h p), fun p => (queues p).countP_le⟩

/-- A change that touches no queue. -/
theorem same {s t : State} (kept : t.pending = s.pending ∧ t.queues = s.queues) : KeepsMail s t :=
  have ⟨pending, queues⟩ := kept
  shorter pending fun p => by rw [queues]

theorem refl (s : State) : KeepsMail s s := same ⟨rfl, rfl⟩

theorem foldl {β : Type} {f : State → β → State} (h : ∀ t x, KeepsMail t (f t x)) :
    ∀ (l : List β) (s : State), KeepsMail s (l.foldl f s)
  | [], s => refl s
  | x :: l, s => (h s x).trans (foldl h l (f s x))

end KeepsMail

/-! ### One queue -/

theorem reservations_append (q r : List TxEntry) : reservations (q ++ r) = reservations q + reservations r :=
  List.countP_append

theorem setQueue_queue (s : State) (p r : Port) (q : List TxEntry) :
    (s.setQueue p q).queues[r] = if r = p then q else s.queues[r] := get_put s.queues p r q

/-- One queue replaced by another within its bounds. -/
theorem setQueue_keepsMail {s : State} {p : Port} {q : List TxEntry} (length : s.queues[p].length ≤ 8 → q.length ≤ 8)
    (reserved : reservations q ≤ reservations s.queues[p]) : KeepsMail s (s.setQueue p q) := by
  refine ⟨rfl, fun h r => ?_, fun r => ?_⟩
  · rw [setQueue_queue]
    split
    · exact length (h p)
    · exact h r
  · rw [setQueue_queue]
    split
    · rename_i hr
      exact hr ▸ reserved
    · exact le_rfl

/-- R181: a message joins a queue that has room. -/
theorem joinQueue_keepsMail {s : State} {p : Port} {c : TxContent} (room : s.queues[p].length < 8) (hc : c ≠ .reserved) :
    KeepsMail s (s.setQueue p (s.queues[p] ++ [TxEntry.fresh c])) := by
  refine setQueue_keepsMail (fun _ => ?_) ?_
  · rw [List.length_append]
    exact room
  · simp [reservations, TxEntry.fresh, hc]

/-- Messages of one queue leave it. -/
theorem leaveQueue_keepsMail {s : State} {p : Port} {q : List TxEntry} (h : q.Sublist s.queues[p]) :
    KeepsMail s (s.setQueue p q) :=
  setQueue_keepsMail h.length_le.trans h.countP_le

/-! ### Notices -/

theorem hasRoom_iff (s : State) (p : Port) : s.hasRoom p = true ↔ s.queues[p].length < 8 := decide_eq_true_iff

theorem testNotice_keepsMail (s : State) (k : NoticeKind) : KeepsMail s (s.testNotice k) := by
  unfold State.testNotice
  split
  · rename_i hgates
    have hroom : s.queues[(s.laneOf k).dest].length < 8 := by
      simp only [State.deliverable, Bool.and_eq_true, hasRoom_iff] at hgates
      exact hgates.2
    have hjoined := joinQueue_keepsMail (c := .notice (s.noticeBody k)) hroom nofun
    exact hjoined.trans (.same ⟨rfl, rfl⟩)
  · exact .refl s

theorem testNotices_keepsMail (s : State) (f : Lane → NoticeKind → Bool) : KeepsMail s (s.testNotices f) := by
  refine .foldl (fun t x => ?_) deliveryOrder s
  split
  · exact testNotice_keepsMail t x.2
  · exact .refl t

theorem testAll_keepsMail (s : State) : KeepsMail s s.testAll := testNotices_keepsMail s _

theorem testLane_keepsMail (s : State) (l : Lane) : KeepsMail s (s.testLane l) := testNotices_keepsMail s _

theorem offer_keepsMail (s : State) (p : Port) : KeepsMail s (s.offer p) := testNotices_keepsMail s _

/-- R188: what an occurrence adds to the queues are the notices that its tests build. -/
theorem raise_keepsMail (s : State) (d : NoticeDetail) : KeepsMail s (s.raise d) :=
  have hrecorded : ∀ t : State, KeepsMail t (t.record d) := fun _ => .same ⟨rfl, rfl⟩
  ((offer_keepsMail s _).trans (hrecorded _)).trans (testNotice_keepsMail _ _)

theorem testPlace_keepsMail (s : State) (x : NoticePlace) : KeepsMail s (s.testPlace x) := by
  cases x with
  | global => exact testAll_keepsMail s
  | kind k => exact testNotice_keepsMail s k
  | lane l => exact testLane_keepsMail s l

theorem buildNotice_keepsMail (s : State) (k : NoticeKind) : KeepsMail s (s.buildNotice k) := by
  unfold State.buildNotice
  split
  · exact testNotice_keepsMail s k
  · exact .refl s

theorem noticeAbsent_keepsMail (s : State) (r : ActiveCue) : KeepsMail s (s.noticeAbsent r) := by
  unfold State.noticeAbsent
  split
  · exact .refl s
  · exact raise_keepsMail s _

theorem portDown_keepsMail (s : State) (p : Port) (cause : Option DownCause) : KeepsMail s (s.portDown p cause) := by
  cases cause with
  | none => exact .refl s
  | some x => exact raise_keepsMail s _

/-! ### Desk status and asks -/

/-- R74: the queue without its oldest desk status not yet begun is one shorter, the others in their order. -/
theorem dropOldestDesk_shorter :
    ∀ {q r : List TxEntry}, dropOldestDesk q = some r → r.Sublist q ∧ r.length + 1 = q.length
  | [], _, h => nomatch h
  | e :: q, r, h => by
    unfold dropOldestDesk at h
    split at h
    · cases h
      exact ⟨List.sublist_cons_self e q, rfl⟩
    · obtain ⟨x, hx, rfl⟩ := Option.map_eq_some_iff.1 h
      obtain ⟨hsublist, hlength⟩ := dropOldestDesk_shorter hx
      exact ⟨hsublist.cons_cons e, congrArg (· + 1) hlength⟩

/-- R74: a copy takes a free entry, or the place of one not begun. -/
theorem deskCopy_keepsMail (s : State) (b : DeskBody) (p : Port) : KeepsMail s (s.deskCopy b p) := by
  rcases lt_or_ge s.queues[p].length 8 with hroom | hfull
  · rw [deskCopy_of_room hroom]
    have hjoined := joinQueue_keepsMail (c := .desk b s.gaps[p]) hroom nofun
    exact hjoined.trans (.same ⟨rfl, rfl⟩)
  · cases hdrop : dropOldestDesk s.queues[p] with
    | none =>
      rw [deskCopy_of_lost hfull hdrop]
      exact .same ⟨rfl, rfl⟩
    | some q =>
      obtain ⟨hsublist, hlength⟩ := dropOldestDesk_shorter hdrop
      rw [deskCopy_of_dropped hfull hdrop]
      refine KeepsMail.trans (setQueue_keepsMail (fun h => ?_) ?_) (.same ⟨rfl, rfl⟩)
      · rw [List.length_append, List.length_singleton, hlength]
        exact h
      · rw [reservations_append]
        exact hsublist.countP_le

theorem deskStatus_keepsMail (s : State) (b : DeskBody) : KeepsMail s (s.deskStatus b) :=
  .foldl (fun t p => deskCopy_keepsMail t b p) _ s

theorem queueAsk_keepsMail (s : State) (p : Port) (n : Nat) : KeepsMail s (s.queueAsk p n) := by
  unfold State.queueAsk
  split
  · rename_i hroom
    exact joinQueue_keepsMail hroom nofun
  · exact .refl s

theorem dropAsks_keepsMail (s : State) (p : Port) : KeepsMail s (s.dropAsks p) :=
  leaveQueue_keepsMail List.filter_sublist

/-! ### Replies -/

theorem reservations_fillFirst {e : TxEntry} (he : e.content ≠ .reserved) :
    ∀ q : List TxEntry, reservations (fillFirst e q) = reservations q - 1
  | [] => rfl
  | x :: q => by
    unfold fillFirst
    split
    · rename_i hx
      simp [reservations, hx, he]
    · rename_i hx
      have ih := reservations_fillFirst he q
      simpa [reservations, hx] using ih

/-- R179: a reply takes one reserved entry, where there is one. -/
theorem reservations_fillReserved {e : TxEntry} (he : e.content ≠ .reserved) (q : List TxEntry) :
    reservations (fillReserved e q) = reservations q - 1 := by
  have h := reservations_fillFirst he q.reverse
  simpa [fillReserved, reservations] using h

theorem reservations_clearDeferredWaits (q : List TxEntry) : reservations (clearDeferredWaits q) = reservations q := by
  unfold reservations clearDeferredWaits
  rw [List.countP_map]
  congr 1
  funext e
  simp only [Function.comp_apply]
  split <;> rfl

/-- R179: the reply leaves the length of its queue, and one reservation fewer. -/
theorem answer_queue (s : State) (p : Port) (kind tag : Octet) (a : Answer) :
    (s.answer p kind tag a).queues[p].length = s.queues[p].length
      ∧ reservations (s.answer p kind tag a).queues[p] = reservations s.queues[p] - 1 := by
  unfold State.answer
  rw [setQueue_queue, if_pos rfl, fillReserved_length,
    reservations_fillReserved (e := ⟨.reply kind tag a.status a.data, 0, a.waits⟩) nofun]
  split
  · rw [clearDeferredWaits_length, reservations_clearDeferredWaits]
    exact ⟨rfl, rfl⟩
  · exact ⟨rfl, rfl⟩

/-- R177, R179: an acceptance reserves an entry of a queue with room, and its reply takes that entry. -/
theorem reserved_answer_keepsMail {s t : State} {p : Port} (kind tag : Octet) (a : Answer)
    (room : s.queues[p].length < 8) (owned : KeepsMail (s.reserve p) t) : KeepsMail s (t.answer p kind tag a) := by
  obtain ⟨hlength, hreserved⟩ := answer_queue t p kind tag a
  have hother : ∀ r : Port, r ≠ p → (t.answer p kind tag a).queues[r] = t.queues[r] := fun r hr => by
    rw [State.answer, setQueue_queue, if_neg hr]
  have hreserve : ∀ r : Port, (s.reserve p).queues[r] =
      if r = p then s.queues[p] ++ [TxEntry.fresh .reserved] else s.queues[r] := fun r => setQueue_queue ..
  have hbounded : QueuesBounded s → QueuesBounded (s.reserve p) := fun h r => by
    rw [hreserve]
    split
    · rw [List.length_append]
      exact room
    · exact h r
  refine ⟨owned.pending, fun h r => ?_, fun r => ?_⟩
  · have ht := owned.bounded (hbounded h)
    by_cases hr : r = p
    · rw [hr, hlength]
      exact ht p
    · rw [hother r hr]
      exact ht r
  · have ht := owned.reserved r
    rw [hreserve] at ht
    by_cases hr : r = p
    · subst hr
      rw [if_pos rfl, reservations_append] at ht
      rw [hreserved]
      exact Nat.sub_le_of_le_add ht
    · rw [if_neg hr] at ht
      rw [hother r hr]
      exact ht

/-- R177: the acceptance of a message, whatever its owner is. -/
theorem accept_keepsMail {o : State → State × Answer} (h : ∀ s, KeepsMail s (o s).1) (s : State) (p : Port)
    (kind tag : Octet) (right : Right) : KeepsMail s (s.accept p kind tag right o) := by
  unfold State.accept
  split
  · split
    · rename_i hroom
      rw [hasRoom_iff] at hroom
      split
      · exact reserved_answer_keepsMail _ tag _ hroom (h _)
      · exact reserved_answer_keepsMail _ tag _ hroom (.refl _)
    · exact raise_keepsMail s _
  · exact .refl s

theorem acceptUnknown_keepsMail (s : State) (p : Port) (kind tag : Octet) : KeepsMail s (s.acceptUnknown p kind tag) := by
  unfold State.acceptUnknown
  split
  · split
    · rename_i hroom
      exact reserved_answer_keepsMail _ tag _ ((hasRoom_iff s p).1 hroom) (.refl _)
    · exact raise_keepsMail s _
  · exact .refl s

end Sys2Proof.Machine
end

section
/-! SUPPORT. As the section before it, for the Cue Engine, the counters, the banks, talk and calls. -/

namespace Sys2Proof.Machine

/-! ### The Cue Engine -/

theorem changeCue_keepsMail (s : State) (r : ActiveCue) : KeepsMail s (s.changeCue r) :=
  have hput : KeepsMail s (s.putCue r) := .same ⟨rfl, rfl⟩
  hput.trans (deskStatus_keepsMail _ _)

/-- Records changed one after the other. -/
theorem changeCues_keepsMail (f : State → ActiveCue → ActiveCue) (l : List ActiveCue) (s : State) :
    KeepsMail s (l.foldl (fun t r => t.changeCue (f t r)) s) := .foldl (fun t r => changeCue_keepsMail t (f t r)) l s

theorem joinList_keepsMail (s : State) (r : ActiveCue) : KeepsMail s (s.joinList r) := .same ⟨rfl, rfl⟩

theorem appendCue_keepsMail (s : State) (r : ActiveCue) : KeepsMail s (s.appendCue r) :=
  ((joinList_keepsMail s r).trans (deskStatus_keepsMail _ _)).trans (noticeAbsent_keepsMail _ r)

theorem linkStanding_keepsMail (s : State) (r : ActiveCue) (from_ : CueSlot) (delay : Nat) :
    KeepsMail s (s.linkStanding r from_ delay) := by
  unfold State.linkStanding
  cases r.state with
  | standby | ready | held => exact .same ⟨rfl, rfl⟩
  | going => exact raise_keepsMail s _

/-- R49–R53: a successor link refuses, stands a record by, or sends one and follows its link in turn. -/
theorem applyLink_keepsMail : ∀ (n : Nat) (r : ActiveCue) (s : State), KeepsMail s (State.applyLink n r s)
  | 0, _, s => .refl s
  | n + 1, r, s => by
    have hrefused : ∀ (t : State) slot st o, KeepsMail t (t.refuseCue slot st o) := fun t _ _ _ => raise_keepsMail t _
    unfold State.applyLink
    split
    · exact .refl s
    · split
      · exact hrefused s _ _ _
      · exact appendCue_keepsMail s _
    · split
      · split
        · exact hrefused s _ _ _
        · split
          · simp only
            split
            · exact (appendCue_keepsMail s _).trans (hrefused _ _ _ _)
            · exact (((joinList_keepsMail s _).trans (changeCue_keepsMail _ _)).trans
                (noticeAbsent_keepsMail _ _)).trans (applyLink_keepsMail n _ _)
          · exact appendCue_keepsMail s _
      · split
        · split
          · exact hrefused s _ _ _
          · exact (changeCue_keepsMail s _).trans (applyLink_keepsMail n _ _)
        · exact linkStanding_keepsMail s _ _ _

theorem takeGo_keepsMail (s : State) (r : ActiveCue) : KeepsMail s (s.takeGo r) :=
  (changeCue_keepsMail s _).trans (applyLink_keepsMail _ _ _)

theorem standbyRequest_keepsMail (p : Port) (slot : CueSlot) (s : State) : KeepsMail s (standbyRequest p slot s).1 := by
  unfold standbyRequest
  split
  · exact .refl s
  · exact appendCue_keepsMail s _

theorem goRequest_keepsMail (slot : CueSlot) (s : State) : KeepsMail s (goRequest slot s).1 := by
  unfold goRequest
  split
  · exact .refl s
  · exact takeGo_keepsMail s _

theorem goNextRequest_keepsMail (s : State) : KeepsMail s (goNextRequest s).1 := by
  unfold goNextRequest
  split
  · exact .refl s
  split
  · exact .refl s
  · exact takeGo_keepsMail s _

theorem holdRequest_keepsMail (slot : CueSlot) (s : State) : KeepsMail s (holdRequest slot s).1 := by
  unfold holdRequest
  split
  · exact .refl s
  · exact changeCue_keepsMail s _

theorem releaseRequest_keepsMail (slot : CueSlot) (s : State) : KeepsMail s (releaseRequest slot s).1 := by
  unfold releaseRequest
  split
  · exact .refl s
  · exact changeCue_keepsMail s _

theorem holdAllRequest_keepsMail (s : State) : KeepsMail s (holdAllRequest s).1 := by
  unfold holdAllRequest
  split
  · exact changeCues_keepsMail (fun t r => t.heldCue r) _ s
  · split <;> [skip; split] <;> exact .refl s

theorem releaseAllRequest_keepsMail (s : State) : KeepsMail s (releaseAllRequest s).1 := by
  unfold releaseAllRequest
  split
  · exact changeCues_keepsMail (fun t r => t.releasedCue r) _ s
  · split <;> exact .refl s

theorem ackExpiry_keepsMail (s : State) (slot : CueSlot) : KeepsMail s (s.ackExpiry slot) := by
  unfold State.ackExpiry
  split
  · exact .refl s
  split
  · unfold State.ackExpired
    split
    · exact (changeCue_keepsMail s _).trans (raise_keepsMail _ _)
    · exact .same ⟨rfl, rfl⟩
  · exact .refl s

theorem followExpiry_keepsMail (s : State) (slot : CueSlot) : KeepsMail s (s.followExpiry slot) := by
  unfold State.followExpiry
  split
  · exact .refl s
  rename_i r _
  split
  · have hended : KeepsMail s (s.putCue { r with followDeadline := none }) := .same ⟨rfl, rfl⟩
    refine hended.trans ?_
    simp only [State.followExpired]
    split
    · exact raise_keepsMail _ _
    · exact takeGo_keepsMail _ _
  · exact .refl s

theorem sendPosition_keepsMail (s : State) (c : CounterId) (e : PositionEntry) : KeepsMail s (s.sendPosition c e) := by
  unfold State.sendPosition State.standbyByPosition State.goByPosition
  split
  · split
    · exact raise_keepsMail s _
    · exact appendCue_keepsMail s _
  · split
    · exact raise_keepsMail s _
    · exact takeGo_keepsMail s _

/-! ### Zones and counters -/

theorem evalZones_keepsMail (s : State) (l : List ZoneNo) : KeepsMail s (s.evalZones l) := by
  refine .foldl (fun t z => ?_) l s
  unfold State.evalZone
  split
  · exact .refl t
  · have hset : KeepsMail t (t.setOccupied z (t.zoneNow z)) := .same ⟨rfl, rfl⟩
    exact hset.trans (raise_keepsMail _ _)

theorem setCounter_keepsMail (s : State) (c : CounterId) (x : Counter) : KeepsMail s (s.setCounter c x) :=
  .same ⟨rfl, rfl⟩

theorem testPosition_keepsMail (s : State) (c : CounterId) (up : Bool) : KeepsMail s (s.testPosition c up) := by
  have hadvanced : ∀ t : State, KeepsMail t (t.advance c) := fun t => by
    unfold State.advance
    split
    · exact (setCounter_keepsMail t c _).trans (raise_keepsMail _ _)
    · exact setCounter_keepsMail t c _
  unfold State.testPosition
  split
  · split
    · split
      · exact (sendPosition_keepsMail s c _).trans (hadvanced _)
      · exact .refl s
    · exact .refl s
  · exact .refl s

theorem applyStep_keepsMail (s : State) (c : CounterId) (up : Bool) : KeepsMail s (s.applyStep c up) := by
  unfold State.applyStep
  split
  · exact .refl s
  split
  · exact ((setCounter_keepsMail s c _).trans (evalZones_keepsMail _ _)).trans (testPosition_keepsMail _ c up)
  · exact ((setCounter_keepsMail s c _).trans (raise_keepsMail _ _)).trans (evalZones_keepsMail _ _)

theorem applyIndex_keepsMail (s : State) (c : CounterId) : KeepsMail s (s.applyIndex c) := by
  unfold State.applyIndex
  split
  · exact (((setCounter_keepsMail s c _).trans (setCounter_keepsMail _ c _)).trans (raise_keepsMail _ _)).trans
      (evalZones_keepsMail _ _)
  · exact .refl s

theorem levelAB_keepsMail (s : State) (c : CounterId) (a b : Bool) : KeepsMail s (s.levelAB c a b) := by
  have hset : KeepsMail s (s.setPins c { s.pin c with a := a, b := b }) := .same ⟨rfl, rfl⟩
  have htaken : ∀ (t : State) (d : Bool), KeepsMail t ((t.takeAB c a b).draw d) := fun _ _ => .same ⟨rfl, rfl⟩
  refine hset.trans ?_
  simp only [State.levelAB]
  split
  · split
    · exact htaken _ _
    · exact (htaken _ _).trans (applyStep_keepsMail _ c _)
  · exact .refl _

theorem levelZ_keepsMail (s : State) (c : CounterId) (z : Bool) : KeepsMail s (s.levelZ c z) := by
  have hset : KeepsMail s (s.setPins c { s.pin c with z := z }) := .same ⟨rfl, rfl⟩
  refine hset.trans ?_
  simp only [State.levelZ]
  split
  · split
    · exact (setCounter_keepsMail _ c _).trans (applyIndex_keepsMail _ c)
    · exact setCounter_keepsMail _ c _
  · exact .refl _

theorem changeLevel_keepsMail (s : State) (c : CounterId) (l : LevelChange) : KeepsMail s (s.changeLevel c l) := by
  cases l with
  | ab a b => exact levelAB_keepsMail s c a b
  | z level => exact levelZ_keepsMail s c level
  | pins a b z => exact .same ⟨rfl, rfl⟩

/-- R94: a command of COUNTER_CONTROL. -/
theorem counterControl_keepsMail {command : CounterId → State → State × Status}
    (h : ∀ c s, KeepsMail s (command c s).1) (c : Named CounterId) (s : State) :
    KeepsMail s (counterControl c command s).1 := by
  cases c with
  | none => exact .refl s
  | some x => exact h x s

theorem commandSet_keepsMail (v : Int) (c : CounterId) (s : State) : KeepsMail s (commandSet v c s).1 := by
  unfold commandSet
  split
  · exact (setCounter_keepsMail s c _).trans (evalZones_keepsMail _ _)
  · exact .refl s

theorem commandPreset_keepsMail (v : Int) (c : CounterId) (s : State) : KeepsMail s (commandPreset v c s).1 := by
  unfold commandPreset
  split
  · exact setCounter_keepsMail s c _
  · exact .refl s

theorem commandStart_keepsMail (c : CounterId) (s : State) : KeepsMail s (commandStart c s).1 := by
  unfold commandStart
  split
  · exact .refl s
  split
  · exact .refl s
  · exact setCounter_keepsMail s c _

theorem commandSeek_keepsMail (i : Nat) (c : CounterId) (s : State) : KeepsMail s (commandSeek i c s).1 := by
  unfold commandSeek
  split
  · exact .refl s
  split
  · exact .refl s
  · exact setCounter_keepsMail s c _

theorem commandMode_keepsMail (m : Named CountMode) (c : CounterId) (s : State) : KeepsMail s (commandMode m c s).1 := by
  unfold commandMode
  split
  · exact .refl s
  split
  · exact setCounter_keepsMail s c _
  · exact .refl s

theorem counterMisfit_keepsMail (c : Named CounterId) (s : State) : KeepsMail s (counterMisfit c s).1 := by
  cases c with
  | none | some x => exact .refl s

/-! ### Banks and removals -/

theorem setEdit_keepsMail (s : State) (x : BankTables) : KeepsMail s (s.setEdit x) := by
  unfold State.setEdit
  split <;> exact .same ⟨rfl, rfl⟩

/-- R103: a write stores its entry or is refused. -/
theorem writeEntry_keepsMail {ι α : Type} {index : Option ι} {entry : ι → Option α} {store : ι → α → State} {s : State}
    (h : ∀ i x, KeepsMail s (store i x)) : KeepsMail s (writeEntry index entry store s).1 := by
  unfold writeEntry
  split
  · exact .refl s
  split
  · exact .refl s
  · exact h _ _

theorem copyRequest_keepsMail (s : State) : KeepsMail s (copyRequest s).1 := by
  unfold copyRequest
  split
  · exact .refl s
  · exact setEdit_keepsMail s _

theorem completeSwap_keepsMail (s : State) (x : SwapCause) : KeepsMail s (s.completeSwap x) :=
  have hflipped : KeepsMail s s.flip.rewindCounters := .same ⟨rfl, rfl⟩
  ((hflipped.trans (evalZones_keepsMail _ _)).trans (raise_keepsMail _ _)).trans (deskStatus_keepsMail _ _)

theorem swapRequest_keepsMail (s : State) : KeepsMail s (swapRequest s).1 := by
  unfold swapRequest
  split
  · exact .refl s
  split
  · simp only [State.bankAnswer]
    exact completeSwap_keepsMail s .request
  · exact .same ⟨rfl, rfl⟩

theorem cancelSwapRequest_keepsMail (s : State) : KeepsMail s (cancelSwapRequest s).1 := by
  unfold cancelSwapRequest
  split <;> exact .same ⟨rfl, rfl⟩

theorem removeCue_keepsMail (s : State) (r : ActiveCue) (x : DeskState) : KeepsMail s (s.removeCue r x) := by
  have hdropped : KeepsMail s (s.dropCue r.slot) := .same ⟨rfl, rfl⟩
  have htold := hdropped.trans (deskStatus_keepsMail _ (s.deskBody r x))
  unfold State.removeCue State.listEmptied
  split
  · exact htold.trans (completeSwap_keepsMail _ .drain)
  · exact htold

theorem cancelRequest_keepsMail (slot : CueSlot) (s : State) : KeepsMail s (cancelRequest slot s).1 := by
  unfold cancelRequest
  split
  · exact .refl s
  · exact removeCue_keepsMail s _ _

theorem cancelAllRequest_keepsMail (s : State) : KeepsMail s (cancelAllRequest s).1 := by
  unfold cancelAllRequest
  split
  · exact .foldl (fun t r => removeCue_keepsMail t r _) _ s
  · split <;> exact .refl s

theorem goDisplayExpiry_keepsMail (s : State) (slot : CueSlot) : KeepsMail s (s.goDisplayExpiry slot) := by
  unfold State.goDisplayExpiry
  split
  · exact .refl s
  split
  · exact removeCue_keepsMail s _ _
  · exact .refl s

/-! ### Talk and calls -/

theorem setTalk_keepsMail (s : State) (c : Chan) (t : ChannelTalk) : KeepsMail s (s.setTalk c t) := .same ⟨rfl, rfl⟩

theorem setDenied_keepsMail (s : State) (p : Port) (k : KeySlot) (d : Option Time) : KeepsMail s (s.setDenied p k d) :=
  .same ⟨rfl, rfl⟩

theorem reloadIdle_keepsMail (s : State) (c : Chan) : KeepsMail s (s.reloadIdle c) := .same ⟨rfl, rfl⟩

theorem grantHeads_keepsMail (s : State) (c : Chan) (b : Bool) : KeepsMail s (s.grantHeads c b) := by
  simp only [State.grantHeads]
  split <;> exact .same ⟨rfl, rfl⟩

theorem removeTalk_keepsMail (s : State) (c : Chan) (p : Port) : KeepsMail s (s.removeTalk c p) :=
  have ⟨hqueues, _, _⟩ := removeTalk_queues s c p
  .same ⟨by simp, hqueues⟩

theorem releaseTalk_keepsMail (s : State) (c : Chan) (p : Port) : KeepsMail s (s.releaseTalk c p) :=
  (removeTalk_keepsMail s c p).trans (reloadIdle_keepsMail _ c)

/-- R115, R125: a displaced talker is put in the wait queue or dropped, and TALK_PREEMPTED is raised either way. -/
theorem displace_keepsMail (s : State) (c : Chan) (placed : List Port) (cause : PreemptCause) (e : TalkEntry) :
    KeepsMail s (s.displace c placed cause e) := by
  unfold State.displace
  split
  · exact (setTalk_keepsMail s c _).trans (raise_keepsMail _ _)
  · exact (setDenied_keepsMail s _ _ _).trans (raise_keepsMail _ _)

theorem requestTalk_keepsMail (s : State) (c : Chan) (e : TalkEntry) : KeepsMail s (s.requestTalk c e) := by
  have hentered : ∀ (t : State) (x : ChannelTalk), KeepsMail t ((t.setTalk c x).setDenied e.port e.slot none) :=
    fun _ _ => .same ⟨rfl, rfl⟩
  refine KeepsMail.trans (t := s.requestSteps c e) ?_ (reloadIdle_keepsMail _ c)
  unfold State.requestSteps
  split
  · exact hentered s _
  split
  · rename_i v _
    have hdropped : KeepsMail s (s.dropTalker c v) := setTalk_keepsMail s c _
    exact (hdropped.trans (displace_keepsMail _ c [] (.priority e.port) v)).trans (hentered _ _)
  split
  · exact hentered s _
  · exact setDenied_keepsMail s _ _ _

theorem talkPress_keepsMail (s : State) (p : Port) (k : KeySlot) : KeepsMail s (s.talkPress p k) := by
  unfold State.talkPress
  split
  · exact .refl s
  rename_i c _
  split
  · exact .refl s
  · exact requestTalk_keepsMail s c _
  · exact releaseTalk_keepsMail s c p
  · exact requestTalk_keepsMail s c _
  · exact releaseTalk_keepsMail s c p
  · exact requestTalk_keepsMail s c _

theorem talkRelease_keepsMail (s : State) (p : Port) (k : KeySlot) : KeepsMail s (s.talkRelease p k) := by
  unfold State.talkRelease
  split
  · exact .refl s
  rename_i c _
  split
  · exact releaseTalk_keepsMail s c p
  · split
    · exact setTalk_keepsMail s c _
    · exact releaseTalk_keepsMail s c p
  · exact .refl s

theorem idleExpiry_keepsMail (s : State) (c : Chan) : KeepsMail s (s.idleExpiry c) := by
  unfold State.idleExpiry
  split
  · unfold State.idleExpired
    split
    · exact setTalk_keepsMail s c _
    · exact ((setTalk_keepsMail s c _).trans (grantHeads_keepsMail _ c false)).trans (raise_keepsMail _ _)
  · exact .refl s

theorem deniedExpiry_keepsMail (s : State) (p : Port) (k : KeySlot) : KeepsMail s (s.deniedExpiry p k) := by
  unfold State.deniedExpiry
  split
  · exact setDenied_keepsMail s p k none
  · exact .refl s

theorem leaveUp_keepsMail (s : State) (p : Port) : KeepsMail s (s.leaveUp p) :=
  have ⟨hqueues, _, _⟩ := leaveUp_messages s p
  .same ⟨by simp, hqueues⟩

theorem rewriteSlots_keepsMail (s : State) (n : Port) (old new : Vector SlotConfig 4) :
    KeepsMail s (s.rewriteSlots n old new) := by
  have htalk : ∀ (t : State) (k : KeySlot), KeepsMail t (t.rewriteTalkSlot n old new k) := fun t k => by
    unfold State.rewriteTalkSlot
    split
    · exact .refl t
    split
    · exact setDenied_keepsMail t n k none
    · exact (removeTalk_keepsMail t _ n).trans (setDenied_keepsMail _ n k none)
  exact .foldl (fun t k => (htalk t k).trans (.same (by simp))) allSlots s

theorem displaceExcess_keepsMail (c : Chan) :
    ∀ (l : List TalkEntry) (placed : List Port) (s : State), KeepsMail s (s.displaceExcess c placed l)
  | [], _, s => .refl s
  | e :: l, placed, s =>
    (displace_keepsMail s c placed .channelWrite e).trans (displaceExcess_keepsMail c l (e.port :: placed) _)

theorem storeChannel_keepsMail (s : State) (c : Chan) (e : ChannelEntry) : KeepsMail s (s.storeChannel c e) := by
  have hstored : KeepsMail s ((s.setChannel c e).restopIdle c e) := by
    unfold State.restopIdle
    split <;> exact .same ⟨rfl, rfl⟩
  simp only [State.storeChannel]
  split
  · exact hstored
  · refine hstored.trans ?_
    unfold State.resizeTalkers
    split
    · exact (setTalk_keepsMail _ c _).trans (displaceExcess_keepsMail c _ _ _)
    · exact grantHeads_keepsMail _ c true

theorem callPress_keepsMail (s : State) (p : Port) (k : KeySlot) : KeepsMail s (s.callPress p k) := by
  unfold State.callPress
  split
  · exact .refl s
  · rename_i c _
    have hflashed : KeepsMail s ((s.flashRecipients p c).startHoldoff p k) := .same (by simp)
    exact hflashed.trans (reloadIdle_keepsMail _ c)

end Sys2Proof.Machine
end

section
/-! SUPPORT. As the section before it, for Notice Control, the loader, the ports, the requests and the frames; and what one
command keeps. -/

namespace Sys2Proof.Machine

/-! ### Notice Control -/

theorem setControl_keepsMail (s : State) (c : NoticeControl) : KeepsMail s (s.setControl c) := .same ⟨rfl, rfl⟩

theorem writeNoticeRequest_keepsMail (index : Nat) (w : NoticeEntryWrite) (s : State) :
    KeepsMail s (writeNoticeRequest index w s).1 := by
  unfold writeNoticeRequest
  split
  · exact .refl s
  split
  · exact .refl s
  · exact ((testAll_keepsMail s).trans (setControl_keepsMail _ _)).trans (testPlace_keepsMail _ _)

theorem noticeHoldRequest_keepsMail (x : Option Nat) (s : State) : KeepsMail s (noticeHoldRequest x s).1 := by
  unfold noticeHoldRequest
  split
  · exact .refl s
  split
  · exact .refl s
  · exact setControl_keepsMail s _

theorem noticeUnholdRequest_keepsMail (x : Option Nat) (s : State) : KeepsMail s (noticeUnholdRequest x s).1 := by
  unfold noticeUnholdRequest
  split
  · exact .refl s
  split
  · exact (setControl_keepsMail s _).trans (testAll_keepsMail _)
  · exact .refl s

theorem noticeClearRequest_keepsMail (x : Option Nat) (s : State) : KeepsMail s (noticeClearRequest x s).1 := by
  unfold noticeClearRequest
  split
  · exact .refl s
  split
  · exact .refl s
  · exact .same ⟨rfl, rfl⟩

theorem laneCommand_keepsMail {command : Lane → State → State × Answer} (h : ∀ l s, KeepsMail s (command l s).1)
    (x : Option Nat) (s : State) : KeepsMail s (laneCommand x command s).1 := by
  unfold laneCommand
  split
  · exact .refl s
  split
  · exact .refl s
  · exact h _ s

theorem setOpen_keepsMail (s : State) (l : Lane) (o : Bool) : KeepsMail s (s.setOpen l o) := setControl_keepsMail s _

theorem commandOpen_keepsMail (l : Lane) (s : State) : KeepsMail s (commandOpen l s).1 := by
  unfold commandOpen
  split
  · exact .refl s
  · exact ((testAll_keepsMail s).trans (setOpen_keepsMail _ l true)).trans (testLane_keepsMail _ l)

theorem commandClose_keepsMail (l : Lane) (s : State) : KeepsMail s (commandClose l s).1 := by
  unfold commandClose
  split
  · exact setOpen_keepsMail s l false
  · exact .refl s

/-! ### The loader -/

theorem endSave_keepsMail (s : State) (ok : Bool) : KeepsMail s (s.endSave ok) :=
  have hended : KeepsMail s { s with loader := .idle, save := none } := .same ⟨rfl, rfl⟩
  hended.trans (raise_keepsMail _ _)

theorem completeSave_keepsMail (s : State) (x : Save) : KeepsMail s (s.completeSave x) :=
  have hstored : KeepsMail s { s with store := some x.snapshot.toImage } := .same ⟨rfl, rfl⟩
  hstored.trans (endSave_keepsMail _ true)

theorem saveRequest_keepsMail (s : State) : KeepsMail s (saveRequest s).1 := by
  have hdrawn : KeepsMail s { s with fresh := s.fresh + 1 } := .same ⟨rfl, rfl⟩
  unfold saveRequest State.beginSave
  split
  · simp only
    split
    · exact .same ⟨rfl, rfl⟩
    · exact hdrawn.trans (endSave_keepsMail _ false)
  · exact .refl s

/-- R198: an event of a running save. -/
theorem saveStep_keepsMail {event : State → Save → State} (h : ∀ s x, KeepsMail s (event s x)) (s : State) :
    KeepsMail s (s.saveStep event) := by
  unfold State.saveStep
  split
  · split
    · exact h _ _
    · exact .refl s
  · exact .refl s

theorem writeFailed_keepsMail (s : State) (x : Save) : KeepsMail s (s.writeFailed x) :=
  have hlost : KeepsMail s { s with store := none } := .same ⟨rfl, rfl⟩
  hlost.trans (endSave_keepsMail _ false)

theorem writeAnswered_keepsMail (s : State) (x : Save) : KeepsMail s (s.writeAnswered x) := by
  unfold State.writeAnswered
  split
  · exact .same ⟨rfl, rfl⟩
  · exact .same ⟨rfl, rfl⟩
  · exact completeSave_keepsMail s x

theorem saveAtMarker_keepsMail (s : State) : KeepsMail s s.saveAtMarker := by
  refine saveStep_keepsMail (fun t x => ?_) s
  split
  · exact completeSave_keepsMail t x
  · exact .refl t

/-- Every queue emptied. -/
theorem emptyQueues_keepsMail {s t : State} (pending : t.pending = s.pending) (queues : t.queues = Vector.replicate 32 []) :
    KeepsMail s t :=
  .shorter pending fun p => by
    rw [queues, get_replicate]
    exact List.nil_sublist _

/-- R199: a RESTART empties every queue before STARTED is raised. -/
theorem restart_keepsMail (s : State) : KeepsMail s s.restart := by
  have hemptied : KeepsMail s s.emptied.fallPorts.abandonSave := by
    rw [abandonSave_eq]
    exact emptyQueues_keepsMail rfl rfl
  exact hemptied.trans (raise_keepsMail _ _)

theorem restartRequest_keepsMail (p : Port) (s : State) : KeepsMail s (restartRequest p s).1 := by
  unfold restartRequest
  split
  · exact .refl s
  · exact .same ⟨rfl, rfl⟩

/-- R195: a power-on empties every queue. -/
theorem atPowerOn_keepsMail (s : State) (power : Bool) : KeepsMail s (s.atPowerOn power) := emptyQueues_keepsMail rfl rfl

/-- R196: the load leaves the queues, and raises what its end does. -/
theorem endLoad_keepsMail (s : State) (answered : Bool) : KeepsMail s (s.endLoad answered) := by
  obtain ⟨b, cause, hend, htables, -⟩ := endLoad_cases s answered
  have hreadied : KeepsMail s b.readied := by
    rw [readied_eq, ← htables]
    exact .same ⟨rfl, rfl⟩
  rw [hend, finishLoad_eq]
  exact (hreadied.trans (evalZones_keepsMail _ _)).trans (raise_keepsMail _ _)

/-! ### The ports -/

theorem setPort_keepsMail (s : State) (p : Port) (r : PortRecord) : KeepsMail s (s.setPort p r) := .same ⟨rfl, rfl⟩

theorem setAssembly_keepsMail (s : State) (p : Port) (a : Assembly) : KeepsMail s (s.setAssembly p a) :=
  .same ⟨rfl, rfl⟩

/-- R158, R163: a fall empties the queue of its port. -/
theorem clearPort_keepsMail (s : State) (p : Port) (target : PortState) : KeepsMail s (s.clearPort p target) :=
  have hcleared : KeepsMail s ((s.setPort p { PortRecord.powerOn with state := target }).setAssembly p .empty) :=
    .same ⟨rfl, rfl⟩
  (hcleared.trans (leaveQueue_keepsMail (List.nil_sublist _))).trans (.same ⟨rfl, rfl⟩)

theorem leavePresence_keepsMail (s : State) (p : Port) : KeepsMail s (s.leavePresence p) := by
  have hlost : KeepsMail s (s.portLost p) := changeCues_keepsMail (fun t r => t.lostCue r p) _ s
  have hgone : ∀ t : State, KeepsMail t (((t.clearCalls p).setSample p none).setShown p ShownLamps.off) :=
    fun _ => .same ⟨rfl, rfl⟩
  have hlanes : ∀ t : State, KeepsMail t (t.lanesLost p) := fun t => .foldl (fun u _ => raise_keepsMail u _) _ t
  exact ((hlost.trans (leaveUp_keepsMail _ p)).trans (hgone _)).trans (hlanes _)

theorem orphanRestart_keepsMail (s : State) (p : Port) : KeepsMail s (s.orphanRestart p) := by
  unfold State.orphanRestart
  split
  · exact restart_keepsMail s
  · exact .refl s

/-- R154, R158, R163: a fall, of a present port or of another. -/
theorem fall_keepsMail (s : State) (p : Port) (target : PortState) (cause : Option DownCause) :
    KeepsMail s (s.fall p target cause) := by
  have hcleared := clearPort_keepsMail s p (s.fallTarget p target)
  unfold State.fall
  split
  · exact ((hcleared.trans (leavePresence_keepsMail _ p)).trans (portDown_keepsMail _ p cause)).trans
      (orphanRestart_keepsMail _ p)
  · exact hcleared

theorem carryOut_keepsMail (s : State) (p : Port) : KeepsMail s (s.carryOut p) := by
  unfold State.carryOut
  split
  · exact .refl s
  · exact fall_keepsMail s p _ _
  · exact fall_keepsMail s p _ _

theorem enterFault_keepsMail (s : State) (p : Port) (i : Option Ident) (cause : FaultCause) :
    KeepsMail s (s.enterFault p i cause) :=
  (((setPort_keepsMail s p _).trans (setAssembly_keepsMail _ p .empty)).trans
    (leaveQueue_keepsMail (List.nil_sublist _))).trans (raise_keepsMail _ _)

/-- R159, R161: the asks not begun leave the queue of a port that enters UP, and what waits for it is offered. -/
theorem enterUp_keepsMail (s : State) (p : Port) (i : Ident) (keys : Keys) : KeepsMail s (s.enterUp p i keys) := by
  have hreturned : ∀ t : State, KeepsMail t (t.portReturned p) := fun t =>
    changeCues_keepsMail (fun _ r => r.regained p) _ t
  exact (((((setPort_keepsMail s p _).trans (setAssembly_keepsMail _ p .empty)).trans (dropAsks_keepsMail _ p)).trans
    (hreturned _)).trans (offer_keepsMail _ p)).trans (raise_keepsMail _ _)

theorem takeIdent_keepsMail (s : State) (p : Port) (tag cls keyCount : Octet) (serial : BitVec 32) (keys : Keys) :
    KeepsMail s (s.takeIdent p tag cls keyCount serial keys) := by
  unfold State.takeIdent State.judgeIdent
  split
  · exact .refl s
  split
  · exact enterUp_keepsMail s p _ keys
  · exact enterFault_keepsMail s p _ _

theorem askExpiry_keepsMail (s : State) (p : Port) : KeepsMail s (s.askExpiry p) := by
  unfold State.askExpiry State.askExpired
  split
  · split
    · exact (setPort_keepsMail s p _).trans (queueAsk_keepsMail _ p _)
    · exact enterFault_keepsMail s p _ _
  · exact .refl s

theorem setProfile_keepsMail (s : State) (n : Port) (f : Profile) : KeepsMail s (s.setProfile n f) := .same ⟨rfl, rfl⟩

/-- R167: a command of PORT_CONTROL. -/
theorem portControl_keepsMail {command : Port → State → State × Answer} (h : ∀ n s, KeepsMail s (command n s).1)
    (n : Nat) (s : State) : KeepsMail s (portControl n command s).1 := by
  unfold portControl
  split
  · exact .refl s
  · exact h _ s

theorem commandEnable_keepsMail (n : Port) (s : State) : KeepsMail s (commandEnable n s).1 := by
  unfold commandEnable
  split
  · exact (setProfile_keepsMail s n _).trans (setPort_keepsMail _ n _)
  · exact .refl s

theorem commandDisable_keepsMail (p n : Port) (s : State) : KeepsMail s (commandDisable p n s).1 := by
  unfold commandDisable
  split
  · exact .refl s
  split
  · exact (setProfile_keepsMail s n _).trans (setPort_keepsMail _ n _)
  · exact (setProfile_keepsMail s n _).trans (fall_keepsMail _ n _ _)

theorem commandQuiet_keepsMail (n : Port) (s : State) : KeepsMail s (commandQuiet n s).1 := by
  unfold commandQuiet
  split
  · exact (setPort_keepsMail s n _).trans (leaveUp_keepsMail _ n)
  · exact .refl s
  · exact .refl s

theorem commandUnquiet_keepsMail (n : Port) (s : State) : KeepsMail s (commandUnquiet n s).1 := by
  unfold commandUnquiet
  split
  · exact setPort_keepsMail s n _
  · exact .refl s
  · exact .refl s

theorem commandRestart_keepsMail (p n : Port) (s : State) : KeepsMail s (commandRestart p n s).1 := by
  unfold commandRestart
  split
  · exact .refl s
  split
  · split
    · exact .refl s
    · exact setPort_keepsMail s n _
  · exact fall_keepsMail s n _ _

theorem reenable_keepsMail (s : State) (n : Port) : KeepsMail s (s.reenable n) := by
  unfold State.reenable
  split
  · exact setPort_keepsMail s n _
  split
  · exact setPort_keepsMail s n _
  · exact .refl s

theorem writeProfileRequest_keepsMail (p : Port) (index : Nat) (w : ProfileWrite) (s : State) :
    KeepsMail s (writeProfileRequest p index w s).1 := by
  unfold writeProfileRequest
  split
  · exact .refl s
  split
  · exact .refl s
  split
  · rename_i n _ _ f _ _
    have hwritten := (setProfile_keepsMail s n f).trans (rewriteSlots_keepsMail _ n s.profiles[n].slots f.slots)
    simp only [State.storeProfile]
    refine hwritten.trans ?_
    split
    · exact .refl _
    split
    · exact reenable_keepsMail _ n
    split
    · exact .refl _
    split
    · exact setPort_keepsMail _ n _
    · exact fall_keepsMail _ n _ _
  · exact .refl s

/-! ### Requests and messages -/

/-- R177: the owner of each request keeps what stands in the queues, the reservation of its reply among them. -/
theorem owner_keepsMail (p : Port) (r : Request) (s : State) : KeepsMail s (owner p r s).1 := by
  cases r with
  | standby slot => exact standbyRequest_keepsMail p slot s
  | go slot => exact goRequest_keepsMail slot s
  | goNext => exact goNextRequest_keepsMail s
  | hold slot => exact holdRequest_keepsMail slot s
  | holdAll => exact holdAllRequest_keepsMail s
  | release slot => exact releaseRequest_keepsMail slot s
  | releaseAll => exact releaseAllRequest_keepsMail s
  | cancel slot => exact cancelRequest_keepsMail slot s
  | cancelAll => exact cancelAllRequest_keepsMail s
  | writeCueEntry | writeGroupEntry | writePositionEntry | writeZoneEntry =>
    exact writeEntry_keepsMail fun _ _ => setEdit_keepsMail s _
  | writeProfile index entry => exact writeProfileRequest_keepsMail p index entry s
  | writeChannelEntry => exact writeEntry_keepsMail fun c e => storeChannel_keepsMail s c e
  | writeNoticeControl index entry => exact writeNoticeRequest_keepsMail index entry s
  | writeRouterSettings => exact writeEntry_keepsMail fun _ _ => .same ⟨rfl, rfl⟩
  | copyLiveToEdit => exact copyRequest_keepsMail s
  | swap => exact swapRequest_keepsMail s
  | cancelSwap => exact cancelSwapRequest_keepsMail s
  | set c v => exact counterControl_keepsMail (commandSet_keepsMail v) c s
  | preset c v => exact counterControl_keepsMail (commandPreset_keepsMail v) c s
  | armIndex c | disarmIndex c | stop c => exact counterControl_keepsMail (fun d t => setCounter_keepsMail t d _) c s
  | start c => exact counterControl_keepsMail commandStart_keepsMail c s
  | seek c i => exact counterControl_keepsMail (commandSeek_keepsMail i) c s
  | mode c m => exact counterControl_keepsMail (commandMode_keepsMail m) c s
  | misfit c => exact counterMisfit_keepsMail c s
  | enable n => exact portControl_keepsMail commandEnable_keepsMail n s
  | disable n => exact portControl_keepsMail (commandDisable_keepsMail p) n s
  | quiet n => exact portControl_keepsMail commandQuiet_keepsMail n s
  | unquiet n => exact portControl_keepsMail commandUnquiet_keepsMail n s
  | portRestart n => exact portControl_keepsMail (commandRestart_keepsMail p) n s
  | noticeHold x => exact noticeHoldRequest_keepsMail x s
  | noticeUnhold x => exact noticeUnholdRequest_keepsMail x s
  | noticeClear x => exact noticeClearRequest_keepsMail x s
  | noticeOpen x => exact laneCommand_keepsMail commandOpen_keepsMail x s
  | noticeClose x => exact laneCommand_keepsMail commandClose_keepsMail x s
  | save => exact saveRequest_keepsMail s
  | restart => exact restartRequest_keepsMail p s
  | unnamed what =>
    cases what with
    | counter c => exact counterMisfit_keepsMail c s
    | status | port | notice => exact .refl s
  | _ => exact .refl s

theorem request_keepsMail (s : State) (p : Port) (tag : Octet) (r : Request) : KeepsMail s (s.request p tag r) :=
  accept_keepsMail (owner_keepsMail p r) s p _ tag _

theorem acceptMessage_keepsMail (s : State) (p : Port) (kind tag : Octet) (payload : List Octet) :
    KeepsMail s (s.acceptMessage p kind tag payload) := by
  unfold State.acceptMessage
  split
  · exact acceptUnknown_keepsMail s p kind tag
  · refine accept_keepsMail (fun t => ?_) s p kind tag _
    unfold payloadOwner
    split
    · exact .refl t
    · exact owner_keepsMail p _ t

theorem completeMessage_keepsMail (s : State) (p : Port) (kind tag : Octet) (payload : List Octet) (keys : Keys) :
    KeepsMail s (s.completeMessage p kind tag payload keys) := by
  have haccepted : KeepsMail s (if kind = identReplyKind then s else s.acceptMessage p kind tag payload) := by
    split
    · exact .refl s
    · exact acceptMessage_keepsMail s p kind tag payload
  unfold State.completeMessage
  split
  · unfold State.probingMessage
    split
    · split
      · exact takeIdent_keepsMail s p _ _ _ _ _
      · exact .refl s
    · exact .refl s
  · exact haccepted
  · exact haccepted
  · exact .refl s

/-! ### The frames -/

theorem laneOctet_keepsMail (s : State) (p : Port) (start : Bool) (o : Octet) (keys : Keys) :
    KeepsMail s (s.laneOctet p start o keys) := by
  unfold State.laneOctet
  split
  · exact setAssembly_keepsMail s p _
  · exact .refl s
  · exact (setAssembly_keepsMail s p _).trans (raise_keepsMail _ _)
  · unfold State.storeOctet
    split
    · exact (setAssembly_keepsMail s p .empty).trans (raise_keepsMail _ _)
    split
    · refine (setAssembly_keepsMail s p .empty).trans ?_
      unfold State.finishAssembly
      split
      · split
        · exact completeMessage_keepsMail _ p _ _ _ keys
        · exact .refl _
      · exact raise_keepsMail _ _
    · exact setAssembly_keepsMail s p _

theorem frameOctet_keepsMail (s : State) (p : Port) (f : UpFrame) : KeepsMail s (s.frameOctet p f) := by
  unfold State.frameOctet
  split
  · exact laneOctet_keepsMail s p _ _ _
  · exact .refl s

theorem talkEdge_keepsMail (s : State) (p : Port) (old new : Keys) (k : KeySlot) :
    KeepsMail s (s.talkEdge p old new k) := by
  unfold State.talkEdge
  split
  · exact (talkPress_keepsMail s p k).trans (.same ⟨rfl, rfl⟩)
  split
  · exact talkRelease_keepsMail s p k
  · exact .refl s

theorem callEdge_keepsMail (s : State) (p : Port) (old new : Keys) (k : KeySlot) :
    KeepsMail s (s.callEdge p old new k) := by
  unfold State.callEdge
  split
  · exact callPress_keepsMail s p k
  · exact .refl s

theorem cueEdge_keepsMail (s : State) (p : Port) (old new : Keys) : KeepsMail s (s.cueEdge p old new) := by
  unfold State.cueEdge
  split
  · exact changeCues_keepsMail (fun t r => t.ackedCue r p) _ s
  · exact .refl s

theorem takeKeys_keepsMail (s : State) (p : Port) (new : Keys) : KeepsMail s (s.takeKeys p new) := by
  have hset := setPort_keepsMail s p { s.ports[p] with keyRef := some new }
  have hedges : ∀ (t : State) (old : Keys), KeepsMail t (t.edges p old new) := fun t old => by
    have htalk := KeepsMail.foldl (fun u k => talkEdge_keepsMail u p old new k) allSlots t
    unfold State.edges
    split
    · exact (htalk.trans (.foldl (fun u k => callEdge_keepsMail u p old new k) allSlots _)).trans
        (cueEdge_keepsMail _ p old new)
    · exact cueEdge_keepsMail t p old new
    · exact .refl t
  simp only [State.takeKeys]
  split
  · exact hset.trans (hedges _ _)
  · exact hset

theorem takeGood_keepsMail (s : State) (p : Port) (f : UpFrame) : KeepsMail s (s.takeGood p f) := by
  have hheard : KeepsMail s (s.setSample p (some (UpFrame.sample f))) := .same ⟨rfl, rfl⟩
  have hcleared : KeepsMail s ((s.setSample p (some (UpFrame.sample f))).clearLoss p) :=
    hheard.trans (setPort_keepsMail _ p _)
  have hkeyed := (hcleared.trans (takeKeys_keepsMail _ p (UpFrame.keys f))).trans (frameOctet_keepsMail _ p f)
  simp only [State.takeGood]
  split
  · exact .refl s
  · exact (hheard.trans (setPort_keepsMail _ p _)).trans (queueAsk_keepsMail _ p 1)
  · exact hcleared.trans (frameOctet_keepsMail _ p f)
  · exact hkeyed
  · exact hkeyed
  · exact hcleared

theorem takeMissing_keepsMail (s : State) (p : Port) : KeepsMail s (s.takeMissing p) := by
  have hvoid : KeepsMail s (s.setSample p none) := .same ⟨rfl, rfl⟩
  simp only [State.takeMissing]
  split
  · exact .refl s
  · exact hvoid
  · split
    · exact hvoid.trans (fall_keepsMail _ p _ _)
    · exact hvoid.trans (setPort_keepsMail _ p _)

theorem takeFrame_keepsMail (s : State) (p : Port) (f : UpFrame) : KeepsMail s (s.takeFrame p f) := by
  unfold State.takeFrame
  split
  · split
    · exact takeGood_keepsMail s p f
    · exact takeMissing_keepsMail s p
  · exact .refl s

theorem frameMissed_keepsMail (s : State) (p : Port) : KeepsMail s (s.frameMissed p) := by
  unfold State.frameMissed
  split
  · exact takeMissing_keepsMail s p
  · exact .refl s

theorem linkLossEvent_keepsMail (s : State) (p : Port) : KeepsMail s (s.linkLossEvent p) := by
  unfold State.linkLossEvent
  split
  · exact takeMissing_keepsMail s p
  · exact .refl s

theorem replyGone_keepsMail (s : State) (p : Port) (w : Waits) : KeepsMail s (s.replyGone p w) := by
  cases w with
  | nothing => exact .refl s
  | deferred => exact carryOut_keepsMail s p
  | restart => exact restart_keepsMail s

/-- R181: the head counts its octets, and with the last of them it leaves the queue. -/
theorem octetSent_keepsMail (s : State) (p : Port) : KeepsMail s (s.octetSent p) := by
  unfold State.octetSent
  split
  · exact .refl s
  rename_i e rest hqueue
  split
  · refine setQueue_keepsMail ?_ ?_ <;> rw [hqueue]
    · exact id
    · exact le_rfl
  · have hleft : KeepsMail s (s.setQueue p rest) := leaveQueue_keepsMail (hqueue ▸ List.sublist_cons_self e rest)
    have hasked : ∀ t : State, KeepsMail t (t.askSent p e) := fun t => by
      unfold State.askSent
      split
      · split
        · exact setPort_keepsMail t p _
        · exact .refl t
      · exact .refl t
    exact (hleft.trans (hasked _)).trans (replyGone_keepsMail _ p _)

theorem downstream_keepsMail (s : State) (p : Port) : KeepsMail s (s.downstream p) := by
  have hline : ∀ f, KeepsMail s (s.setLine p f) := fun _ => .same ⟨rfl, rfl⟩
  have hservice : KeepsMail s ((s.setLine p (some (s.serviceFrame p))).setShown p (s.lampsNow p)) := .same ⟨rfl, rfl⟩
  unfold State.downstream State.sendFrame
  split
  · split
    · exact hline _
    · exact hline _
    · exact hline _
    · exact (hline _).trans (octetSent_keepsMail _ p)
    · exact hservice.trans (octetSent_keepsMail _ p)
    · exact hservice.trans (octetSent_keepsMail _ p)
  · exact .refl s

theorem deferredEvent_keepsMail (s : State) (p : Port) : KeepsMail s (s.deferredEvent p) := by
  unfold State.deferredEvent
  split
  · exact carryOut_keepsMail s p
  · exact .refl s

theorem restartEvent_keepsMail (s : State) : KeepsMail s s.restartEvent := by
  unfold State.restartEvent
  split
  · exact .refl s
  split
  · exact restart_keepsMail s
  · exact .refl s

theorem unknownMessage_keepsMail (s : State) (p : Port) (tag kind : Octet) :
    KeepsMail s (s.unknownMessage p tag kind) := by
  unfold State.unknownMessage
  split
  · exact acceptUnknown_keepsMail s p kind tag
  · exact .refl s

theorem badTableRequest_keepsMail (s : State) (p : Port) (tag : Octet) (isWrite : Bool) (table : Nat) :
    KeepsMail s (s.badTableRequest p tag isWrite table) := by
  unfold State.badTableRequest
  split
  · exact .refl s
  · exact request_keepsMail s p tag _

/-! ### One command -/

/-- Every command, a request by its acceptance and any other by its event. -/
theorem exec_keepsMail {c : Instr} {s t : State} (h : exec c s = .next t) : KeepsMail s t := by
  cases hr : requestOf c with
  | some x =>
    obtain ⟨p, tag, kind, r⟩ := x
    rw [(exec_requestOf hr).2] at h
    cases h
    exact request_keepsMail s p tag r
  | none =>
    cases c <;> try contradiction
    case powerOn | powerLoss => cases h; exact atPowerOn_keepsMail s _
    case loadEnd answered =>
      cases h
      split
      · exact endLoad_keepsMail s answered
      · exact .refl s
    case goodFrame p f => cases h; exact takeFrame_keepsMail s p f
    case frameDiscarded p f => cases h; exact takeFrame_keepsMail s p f
    case frameMissing p => cases h; exact frameMissed_keepsMail s p
    case linkLoss p => cases h; exact linkLossEvent_keepsMail s p
    case downstreamFrame p => cases h; exact downstream_keepsMail s p
    case deferredAction p => cases h; exact deferredEvent_keepsMail s p
    case restartCarriedOut => cases h; exact restartEvent_keepsMail s
    case identReply p tag cls n serial keys => cases h; exact takeIdent_keepsMail s p tag cls n serial keys
    case askDeadlineExpiry p => cases h; exact askExpiry_keepsMail s p
    case step k a b => cases h; exact levelAB_keepsMail s k a b
    case indexPulse k => cases h; exact levelZ_keepsMail s k true
    case ackDeadlineExpiry slot => cases h; exact ackExpiry_keepsMail s slot
    case followDeadlineExpiry slot => cases h; exact followExpiry_keepsMail s slot
    case goDisplayExpiry slot => cases h; exact goDisplayExpiry_keepsMail s slot
    case noticeBuild k => cases h; exact buildNotice_keepsMail s k
    case idleTimerExpiry k => cases h; exact idleExpiry_keepsMail s k
    case deniedPeriodExpiry p k => cases h; exact deniedExpiry_keepsMail s p k
    case displayDeadlineExpiry | holdoffDeadlineExpiry => cases h; exact .same (by simp)
    case unknownKind p tag kind => cases h; exact unknownMessage_keepsMail s p tag kind
    case saveWriteAnswered => cases h; exact saveStep_keepsMail writeAnswered_keepsMail s
    case saveCompletion => cases h; exact saveAtMarker_keepsMail s
    case saveFailure => cases h; exact saveStep_keepsMail writeFailed_keepsMail s
    case changeOfLevel k l => cases h; exact changeLevel_keepsMail s k l
    case badTable p tag isWrite table => cases h; exact badTableRequest_keepsMail s p tag isWrite table
    case unnamedSubjectOrCommand p tag what => cases h; exact request_keepsMail s p tag _

end Sys2Proof.Machine
end

section
/-! Every command answers a next state and keeps the queue of waiting commands (logs 1, 31), and every step keeps the
transmit queues within their eight entries, none of them left reserved (R179, R181). -/

namespace Sys2Proof.Machine

/-- Log 31: no command is refused or ends in a fault. -/
theorem exec_next (c : Instr) (s : State) : ∃ t, exec c s = .next t := by
  cases c <;> exact ⟨_, rfl⟩

/-- Settles O3: the queue of waiting commands is what every command keeps of it. -/
theorem everyCommandAnswersAndKeepsTheQueue : Obligations.EveryCommandAnswersAndKeepsTheQueue := by
  intro c s
  obtain ⟨t, h⟩ := exec_next c s
  exact ⟨t, h, (exec_keepsMail h).pending⟩

theorem tick_queues (s : State) : s.tick.queues = s.queues := by
  unfold State.tick
  split <;> rfl

/-- Settles O54: the bound is kept by each command, and so is the number of entries left reserved, which is 0. -/
theorem stepKeepsQueuesBounded : Obligations.StepKeepsQueuesBounded := by
  intro s t hbounded hreserved h
  refine ⟨?bounded, ?reserved⟩
  case bounded =>
    refine step_keeps (fun _ _ => id) (fun u hu p => ?_) (fun _ _ _ hu hc => (exec_keepsMail hc).bounded hu) hbounded h
    rw [tick_queues]
    exact hu p
  case reserved =>
    refine step_keeps (fun _ _ => id) (fun u hu p => ?_) (fun c u v hu hc => ?_) hreserved h
    · rw [tick_queues]
      exact hu p
    · rw [noneReserved_iff] at hu ⊢
      exact fun p => Nat.le_zero.1 (hu p ▸ (exec_keepsMail hc).reserved p)

end Sys2Proof.Machine
end

section
/-! RESTART: its acceptance, the wait for its reply, and the fall of the port it waits for (R154, R168, R185, R198, R199). -/

namespace Sys2Proof.Machine

/-! ### Acceptance -/

section
variable {s : State} {p : Port} (tag : Octet) (hs : MaySend s p .write)
include hs

/-- R185: RESTART sets the mark, and its reply is the one it waits for. -/
theorem restart_accepted (h : s.restartBy = none) :
    exec (.restart p tag) s = .next
      ({ s with restartBy := some p }.replied p
        { content := .reply 0xE8 tag .ok .nothing, sent := 0, waits := .restart }) := by
  refine congrArg Host.Outcome.next (request_answered (r := .restart) tag { s with restartBy := some p }
    { status := .ok, data := .nothing, waits := .restart } hs ?_ (by decide))
  have hmark : (s.reserve p).restartBy = none := h
  simp only [owner, restartRequest, hmark]
  rfl

/-- R185: with the mark set RESTART is answered ALREADY. -/
theorem restart_already {q : Port} (h : s.restartBy = some q) :
    exec (.restart p tag) s = .next (s.replied p (replyOf 0xE8 tag .already .nothing)) := by
  refine congrArg Host.Outcome.next (request_refused (r := .restart) tag .already .nothing hs ?_)
  have hmark : (s.reserve p).restartBy = some q := h
  simp only [owner, restartRequest, hmark]
  rfl

end

/-! ### The reply it waits for -/

theorem replySent_iff (w : Waits) (q : List TxEntry) : replySent w q = true ↔ ∀ e ∈ q, e.waits ≠ w := by
  simp [replySent]

/-- R185: RESTART_CARRIED_OUT with the mark set, by what the queue of the requesting port holds. -/
theorem restartEvent_marked {s : State} {p : Port} (h : s.restartBy = some p) :
    s.restartEvent = if replySent .restart s.queues[p] = true then s.restart else s := by
  unfold State.restartEvent
  rw [h]

/-! ### The fall of the requesting port -/

/-- R168: where a port falls to is settled once. -/
theorem fallTarget_fallTarget (s : State) (p : Port) (target : PortState) :
    s.fallTarget p (s.fallTarget p target) = s.fallTarget p target := by
  unfold State.fallTarget
  split <;> rfl

theorem fall_fallTarget (s : State) (p : Port) (target : PortState) (cause : Option DownCause) :
    s.fall p target cause = s.fall p (s.fallTarget p target) cause := by
  rw [State.fall, State.fall, fallTarget_fallTarget]

/-- R154: the interval that brings the count of a present port to 16. -/
theorem takeMissing_lost {s : State} {p : Port} (hp : s.present p = true) (hcount : s.ports[p].lossCount = 15) :
    s.takeMissing p = (s.setSample p none).lineLost p := by
  unfold State.present at hp
  unfold State.takeMissing
  split
  · next h => rw [h] at hp; cases hp
  · next h => rw [h] at hp; cases hp
  · rw [hcount]
    rfl

theorem present_counts {x : PortState} (h : x.present = true) : x.counts = true := by
  cases x with
  | up | quiet => rfl
  | disabled | down | probing | fault => cases h

/-- Log 3: LINK_LOSS at a count of 15 is the interval that brings it to 16, as any other without a good frame. -/
theorem lastMissing_exec {s : State} {p : Port} {c : Instr}
    (hc : c = .linkLoss p ∨ c = .frameMissing p ∨ ∃ f, c = .frameDiscarded p f ∧ UpFrame.classify f ≠ .good)
    (hl : s.loader ≠ .loading) (hp : s.present p = true) (hcount : s.ports[p].lossCount = 15) :
    exec c s = .next ((s.setSample p none).lineLost p) := by
  rw [← takeMissing_lost hp hcount]
  obtain rfl | rfl | ⟨f, hdiscarded⟩ := hc
  · exact congrArg Host.Outcome.next (if_pos ⟨loaded_of_ne hl, present_counts hp, hcount.ge⟩)
  · exact congrArg Host.Outcome.next (if_pos (loaded_of_ne hl))
  · exact noFrame_loaded hl (.inr hdiscarded)

/-- R154, R185: link loss of the port that a RESTART waits for carries it out, wherever the port falls to. -/
theorem lineLost_restarts {s : State} {p : Port} (hp : s.present p = true) (hr : s.restartBy = some p) :
    HasRestarted s (s.lineLost p) := by
  unfold State.lineLost
  rw [fall_fallTarget]
  exact fall_restarts hp hr (fallTarget_fallTarget s p .down)

/-- Settles O9: acceptance by the mark, the event by the reply it waits for, the fall by what a fall of that port does. -/
theorem restartWaitsForItsReplyThenActs : Obligations.RestartWaitsForItsReplyThenActs := by
  refine ⟨fun s p tag hs => ⟨restart_accepted tag hs, fun q => restart_already tag hs⟩,
    fun s p hr => ⟨fun hsent => ?sent, fun hwaits => ?waits⟩, fun s p c hc hl hp hcount hr => ?falls⟩
  case sent =>
    refine ⟨s.restart, ?_, restart_restarts s⟩
    exact congrArg Host.Outcome.next ((restartEvent_marked hr).trans (if_pos ((replySent_iff _ _).2 hsent)))
  case waits =>
    obtain ⟨e, he, hw⟩ := hwaits
    refine congrArg Host.Outcome.next ((restartEvent_marked hr).trans (if_neg fun hsent => ?_))
    exact (replySent_iff _ _).1 hsent e he hw
  case falls =>
    exact ⟨_, lastMissing_exec hc hl hp hcount, lineLost_restarts (s := s.setSample p none) hp hr⟩

end Sys2Proof.Machine
end

section
/-! The acceptance of a message in its order (R176–R178): room, kind, right, form and request. -/

namespace Sys2Proof.Machine

/-- R178: the table of the request kinds and their rights, over all octets. -/
theorem kindRight_table : ∀ kind : Octet,
    kindRight kind =
      if kind ∈ [0x10#8, 0x11, 0x12, 0x13, 0x14, 0x15] then some .cue
      else if kind ∈ [0x20#8, 0x58] then some .read
      else if kind ∈ [0x21#8, 0x30, 0x31, 0x32, 0x40, 0x48, 0x50, 0x60, 0x68] then some .write
      else none := by
  decide

/-! ### Payloads -/

/-- R178: a cue request of one slot. -/
theorem readPayload_slot {kind : Octet} (hk : kind = 0x10 ∨ kind = 0x11) {payload : List Octet} (h : payload.length ≠ 1) :
    readPayload kind payload = none := by
  rcases hk with rfl | rfl <;> match payload, h with
  | [], _ => rfl
  | [_], h => exact absurd rfl h
  | _ :: _ :: _, _ => rfl

/-- R178: a cue request of one slot or of all. -/
theorem readPayload_slotOrAll {kind : Octet} (hk : kind = 0x13 ∨ kind = 0x14 ∨ kind = 0x15) {payload : List Octet}
    (h : 1 < payload.length) : readPayload kind payload = none := by
  rcases hk with rfl | rfl | rfl <;> match payload, h with
  | _ :: _ :: _, _ => rfl

/-- R178: a request without fields. -/
theorem readPayload_empty {kind : Octet}
    (hk : kind = 0x12 ∨ kind = 0x30 ∨ kind = 0x31 ∨ kind = 0x32 ∨ kind = 0x60 ∨ kind = 0x68) {payload : List Octet}
    (h : payload ≠ []) : readPayload kind payload = none := by
  rcases hk with rfl | rfl | rfl | rfl | rfl | rfl <;> match payload, h with
  | [], h => exact absurd rfl h
  | [_], _ => rfl
  | _ :: _ :: _, _ => rfl

/-- R183: READ_ENTRY, its fields read as log 4 says. -/
theorem readPayload_read (payload : List Octet) :
    readPayload 0x20 payload = (Config.readFields payload).map fun f => readRequest f.1 f.2.1 f.2.2 :=
  match payload with
  | [] | [_] | _ :: _ :: _ => rfl

/-- R183: WRITE_ENTRY, its fields read as log 4 says. -/
theorem readPayload_write (payload : List Octet) :
    readPayload 0x21 payload = (Config.writeFields payload).map fun f => writeRequest f.1 f.2.1 f.2.2 :=
  match payload with
  | [] | [_] | _ :: _ :: _ => rfl

/-- R178: a request whose fields Config reads, kept to its own kind (log 4). -/
theorem readPayload_config {kind : Octet} (hk : kind = 0x40 ∨ kind = 0x48 ∨ kind = 0x50 ∨ kind = 0x58)
    (payload : List Octet) :
    readPayload kind payload = (Config.payloadRequest kind payload).bind fun r => guarded (requestKind r == kind) r := by
  rcases hk with rfl | rfl | rfl | rfl <;> match payload with
  | [] | [_] | _ :: _ :: _ => rfl

theorem readPayload_config_none {kind : Octet} (hk : kind = 0x40 ∨ kind = 0x48 ∨ kind = 0x50 ∨ kind = 0x58)
    {payload : List Octet} (h : ∀ r, Config.payloadRequest kind payload = some r → requestKind r ≠ kind) :
    readPayload kind payload = none := by
  rw [readPayload_config hk]
  cases hr : Config.payloadRequest kind payload with
  | none => rfl
  | some r => simp [guarded, h r hr]

theorem readPayload_config_some {kind : Octet} (hk : kind = 0x40 ∨ kind = 0x48 ∨ kind = 0x50 ∨ kind = 0x58)
    {payload : List Octet} {r : Request} (hr : Config.payloadRequest kind payload = some r) (h : requestKind r = kind) :
    readPayload kind payload = some r := by
  simp [readPayload_config hk, hr, guarded, h]

/-! ### Messages -/

section
variable {s : State} {p : Port} (tag : Octet) (payload : List Octet) (keys : Keys)

/-- R176: a port neither present nor in PROBING takes no message. -/
theorem completeMessage_absent (kind : Octet) (hp : s.present p = false) (hprobing : s.ports[p].state ≠ .probing) :
    s.completeMessage p kind tag payload keys = s := by
  unfold State.present at hp
  unfold State.completeMessage
  split
  · next h => exact absurd h hprobing
  · next h => rw [h] at hp; cases hp
  · next h => rw [h] at hp; cases hp
  · rfl

/-- R176: a present port discards an IDENT reply. -/
theorem completeMessage_ident (hp : s.present p = true) : s.completeMessage p 0xF1 tag payload keys = s := by
  unfold State.present at hp
  unfold State.completeMessage
  split
  · next h => rw [h] at hp; cases hp
  · rfl
  · rfl
  · rfl

/-- R177 steps 4 and 5: a message of a request kind that finds room and the right. -/
theorem completeMessage_form {kind : Octet} {right : Right} (hs : MaySend s p right) (hident : kind ≠ 0xF1)
    (hk : kindRight kind = some right) :
    (readPayload kind payload = none →
        s.completeMessage p kind tag payload keys = s.replied p (replyOf (kind + 0x80) tag .badValue .nothing))
      ∧ ∀ r, requestKind r = kind → readPayload kind payload = some r →
        s.completeMessage p kind tag payload keys = s.request p tag r := by
  rw [completeMessage_present tag payload keys hs.1 hident]
  exact ⟨acceptMessage_badForm tag hs hk, fun r => acceptMessage_request tag⟩

/-- R178: a message with the payload of a request is the command of that request. -/
theorem completeMessage_runs {kind : Octet} {cmd : Instr} {r : Request} (hp : s.present p = true)
    (hc : requestOf cmd = some (p, tag, kind, r)) (hident : kind ≠ 0xF1) (hf : readPayload kind payload = some r) :
    .next (s.completeMessage p kind tag payload keys) = exec cmd s := by
  obtain ⟨hkind, hexec⟩ := exec_requestOf (s := s) hc
  rw [hexec, completeMessage_present tag payload keys hp hident, acceptMessage_request tag hkind hf]

end

/-! ### Commands of an unknown kind -/

section
variable {s : State} {p : Port} (tag : Octet) {kind : Octet}

/-- Log 2: a command of an unknown kind that names a request kind or the IDENT reply, or comes from a port not present. -/
theorem unknownKind_nothing (h : s.present p = false ∨ kindRight kind ≠ none ∨ kind = 0xF1) :
    exec (.unknownKind p tag kind) s = .next s := by
  refine congrArg Host.Outcome.next ?_
  obtain hp | hk | rfl := h
  · unfold State.unknownMessage State.acceptUnknown
    rw [hp]
    exact ite_self s
  · exact if_neg (by simp [Option.isNone_iff_eq_none, hk])
  · rfl

/-- R177 step 2. -/
theorem unknownKind_taken (hp : s.present p = true) (hk : kindRight kind = none) (hident : kind ≠ 0xF1) :
    exec (.unknownKind p tag kind) s = .next
      (if 8 ≤ s.queues[p].length then s.raise (.requestDropped p kind tag)
      else s.replied p (replyOf 0xFE tag .unknown (.unknownKind kind))) := by
  have hmessage : s.unknownMessage p tag kind = s.acceptMessage p kind tag [] := by
    simp only [State.unknownMessage, State.acceptMessage, hk]
    exact if_pos (by simpa [identReplyKind] using hident)
  rw [← acceptMessage_unknown tag [] hp hk, ← hmessage]
  rfl

end

/-- Settles O37: requests by the lemma for each step of acceptance, messages by their payload. -/
theorem acceptanceInOrder : Obligations.AcceptanceInOrder := by
  refine ⟨kindRight_table, kindRight_requestKind, fun _ => rfl, fun _ _ => rfl, fun s p tag =>
    ⟨fun _ _ _ => exec_requestOf, fun r => ⟨?absent, ?dropped, ?denied⟩, fun kind => ⟨?nothing, ?unknown⟩,
      fun keys payload => ⟨?absentMessage, ?ident, fun kind hp hident => ?message, fun o hp => ?runs⟩⟩⟩
  case absent => exact request_absent tag r
  case dropped => exact request_dropped tag r
  case denied =>
    exact fun hp hroom hright => request_denied tag r hp (Nat.not_le.1 hroom) (Bool.eq_false_iff.2 hright)
  case nothing => exact unknownKind_nothing tag
  case unknown => exact unknownKind_taken tag
  case absentMessage => exact completeMessage_absent tag payload keys
  case ident => exact completeMessage_ident tag payload keys
  case message =>
    have haccepted := completeMessage_present tag payload keys hp hident
    refine ⟨fun hfull => ?_, fun hroom hk => ?_, fun right hroom hk hright => ?_, fun right hroom hk hright => ?form⟩
    · exact haccepted.trans (acceptMessage_dropped kind tag payload hp hfull)
    · exact haccepted.trans ((acceptMessage_unknown tag payload hp hk).trans (if_neg hroom))
    · exact haccepted.trans
        (acceptMessage_denied tag payload hp (Nat.not_le.1 hroom) hk (Bool.eq_false_iff.2 hright))
    case form =>
      have hs : MaySend s p right := ⟨hp, Nat.not_le.1 hroom, hright⟩
      obtain ⟨hbad, hrequest⟩ := completeMessage_form tag payload keys hs hident hk
      refine ⟨fun hkind h => hbad (readPayload_slot hkind h), fun hkind h => hbad (readPayload_slotOrAll hkind h),
        fun hkind h => hbad (readPayload_empty hkind h), ?read, ?write,
        fun hkind => ⟨fun h => hbad (readPayload_config_none hkind h),
          fun r hr h => hrequest r h (readPayload_config_some hkind hr h)⟩⟩
      case read =>
        rintro rfl
        refine ⟨fun h => hbad ?_, fun table bank index h => hrequest _ (requestKind_readRequest table bank index) ?_⟩
        · rw [readPayload_read, h]
          rfl
        · rw [readPayload_read, h]
          rfl
      case write =>
        rintro rfl
        refine ⟨fun h => hbad ?_, fun table index entry h => hrequest _ (requestKind_writeRequest table index entry) ?_⟩
        · rw [readPayload_write, h]
          rfl
        · rw [readPayload_write, h]
          rfl
  case runs =>
    have hruns : ∀ {kind : Octet} {l : List Octet} {cmd : Instr} {r : Request},
        requestOf cmd = some (p, tag, kind, r) → kind ≠ 0xF1 → readPayload kind l = some r →
          .next (s.completeMessage p kind tag l keys) = exec cmd s :=
      fun hc hident hf => completeMessage_runs tag _ keys hp hc hident hf
    and_intros <;> exact hruns rfl (by decide) rfl

end Sys2Proof.Machine
end

section
/-! Notices raised, tested and built (R181, R188, R190, R191; logs 27, 34): a test of several records, in the order of
building, and the first that it builds. -/

namespace Sys2Proof.Machine

/-! ### The gates and the building of one notice -/

theorem deliverable_iff (s : State) (k : NoticeKind) : s.deliverable k = true ↔ GatesPass s k := by
  simp only [State.deliverable, GatesPass, Bool.and_eq_true, Bool.not_eq_true', hasRoom_iff, State.laneOf, and_assoc]

theorem not_gatesPass_iff (s : State) (k : NoticeKind) : ¬GatesPass s k ↔ s.deliverable k = false := by
  rw [← deliverable_iff, Bool.not_eq_true]

/-- R190: the notice of a record x built to its lane's destination, and the record as its lane's mode leaves it. -/
def State.withBuilt (s : State) (k : NoticeKind) (x : NoticeRecord) : State :=
  { s with
    queues := put s.queues (s.laneOf k).dest (s.queues[(s.laneOf k).dest] ++
      [{ content := .notice { kind := k, lane := s.noticeControl.kinds[k].lane, count := x.count, detail := x.detail }
         sent := 0, waits := .nothing }])
    notices := put s.notices k
      (if (s.laneOf k).mode = .autoClear then { x with pending := false, count := 0 } else { x with sent := true }) }

theorem built_eq (r : NoticeRecord) (m : LaneMode) :
    r.built m = if m = .autoClear then { r with pending := false, count := 0 } else { r with sent := true } := by
  cases m with
  | autoClear | holdUntilClear => rfl

theorem testNotice_of_gates {s : State} {k : NoticeKind} (h : s.deliverable k = true) :
    s.testNotice k = s.withBuilt k s.notices[k] := by
  rw [State.testNotice, if_pos h, built_eq]
  rfl

theorem testNotice_of_shut {s : State} {k : NoticeKind} (h : s.deliverable k = false) : s.testNotice k = s := by
  rw [State.testNotice, h]
  rfl

theorem length_le_withBuilt (s : State) (k : NoticeKind) (x : NoticeRecord) (q : Port) :
    s.queues[q].length ≤ (s.withBuilt k x).queues[q].length := by
  simp only [State.withBuilt, get_put]
  split
  · rename_i hq
    subst hq
    rw [List.length_append]
    exact Nat.le_add_right _ _
  · exact le_rfl

/-- R190: behind its test a record waits for something, and no record has come to pass its gates. -/
theorem testNotice_shuts (s : State) (k j : NoticeKind) (h : j = k ∨ s.deliverable j = false) :
    (s.testNotice k).deliverable j = false := by
  cases hk : s.deliverable k with
  | false =>
    rw [testNotice_of_shut hk]
    rcases h with rfl | h
    · exact hk
    · exact h
  | true =>
    rw [testNotice_of_gates hk]
    by_cases hjk : j = k
    · subst hjk
      simp only [State.deliverable, State.withBuilt, get_put, if_true]
      split <;> simp
    · have hj := h.resolve_left hjk
      simp only [← Bool.not_eq_true, deliverable_iff] at hj ⊢
      refine fun hgates => hj ?_
      obtain ⟨hpending, hsent, henable, hhold, hopen, hpresent, hroom⟩ := hgates
      simp only [State.withBuilt, get_put, if_neg hjk] at hpending hsent
      exact ⟨hpending, hsent, henable, hhold, hopen, hpresent, lt_of_le_of_lt (length_le_withBuilt s k _ _) hroom⟩

/-! ### The order of building -/

/-- R191: one kind is built ahead of another, by its lane and then by its number. -/
def NoticeControl.Ahead (c : NoticeControl) (j k : NoticeKind) : Prop :=
  c.kinds[j].lane < c.kinds[k].lane ∨ (c.kinds[j].lane = c.kinds[k].lane ∧ j < k)

theorem not_ahead_iff (c : NoticeControl) (j k : NoticeKind) :
    ¬c.Ahead j k ↔ c.kinds[k].lane < c.kinds[j].lane ∨ (c.kinds[k].lane = c.kinds[j].lane ∧ k ≤ j) := by
  simp only [NoticeControl.Ahead, Fin.lt_def, Fin.le_def, Fin.ext_iff]
  omega

/-- The kinds of a selection, in the order of R191. -/
def NoticeControl.chosen (c : NoticeControl) (selected : Lane → NoticeKind → Bool) : List NoticeKind :=
  (deliveryOrder.filter fun x => c.kinds[x.2].lane = x.1 ∧ selected x.1 x.2 = true).map Prod.snd

theorem mem_deliveryOrder (x : Lane × NoticeKind) : x ∈ deliveryOrder := by
  simp [deliveryOrder]

theorem mem_chosen {c : NoticeControl} {f : Lane → NoticeKind → Bool} {k : NoticeKind} :
    k ∈ c.chosen f ↔ f c.kinds[k].lane k = true := by
  simp only [NoticeControl.chosen, List.mem_map, List.mem_filter, mem_deliveryOrder, true_and, decide_eq_true_eq]
  constructor
  · rintro ⟨x, ⟨hlane, hx⟩, rfl⟩
    rwa [hlane]
  · exact fun h => ⟨(c.kinds[k].lane, k), ⟨rfl, h⟩, rfl⟩

theorem deliveryOrder_pairwise : deliveryOrder.Pairwise fun x y => x.1 < y.1 ∨ (x.1 = y.1 ∧ x.2 < y.2) := by
  refine List.pairwise_flatMap.2 ⟨fun l _ => ?_, (List.pairwise_lt_finRange 4).imp fun hl x hx y hy => ?_⟩
  · exact List.pairwise_map.2 ((List.pairwise_lt_finRange 18).imp fun hk => .inr ⟨rfl, hk⟩)
  · obtain ⟨j, -, rfl⟩ := List.mem_map.1 hx
    obtain ⟨k, -, rfl⟩ := List.mem_map.1 hy
    exact .inl hl

theorem chosen_pairwise (c : NoticeControl) (f : Lane → NoticeKind → Bool) : (c.chosen f).Pairwise c.Ahead := by
  refine List.pairwise_map.2 ((deliveryOrder_pairwise.filter _).imp_of_mem fun {x y} hx hy h => ?_)
  have hlane : ∀ {z : Lane × NoticeKind}, z ∈ deliveryOrder.filter (fun x => c.kinds[x.2].lane = x.1 ∧ f x.1 x.2 = true) →
      c.kinds[z.2].lane = z.1 := fun hz => (of_decide_eq_true (List.mem_filter.1 hz).2).1
  rwa [NoticeControl.Ahead, hlane hx, hlane hy]

/-! ### Several tests -/

/-- A test of several records tests those of the selection one after the other. -/
theorem testNotices_eq (s : State) (f : Lane → NoticeKind → Bool) :
    s.testNotices f = (s.noticeControl.chosen f).foldl State.testNotice s := by
  rw [NoticeControl.chosen, List.foldl_map, List.foldl_filter]
  simp only [decide_eq_true_eq]
  rfl

theorem foldl_testNotice_shut {j : NoticeKind} :
    ∀ (l : List NoticeKind) {s : State}, s.deliverable j = false → (l.foldl State.testNotice s).deliverable j = false
  | [], _, h => h
  | k :: l, s, h => foldl_testNotice_shut l (testNotice_shuts s k j (.inr h))

/-- Behind a test of several records none of them passes its gates. -/
theorem foldl_testNotice_shuts {j : NoticeKind} :
    ∀ {l : List NoticeKind} (s : State), j ∈ l → (l.foldl State.testNotice s).deliverable j = false := by
  intro l
  induction l with
  | nil => exact fun _ h => nomatch h
  | cons k l ih =>
    intro s h
    rw [List.foldl_cons]
    obtain hk | hl := List.mem_cons.1 h
    · exact foldl_testNotice_shut l (testNotice_shuts s k j (.inl hk))
    · exact ih _ hl

/-- R191: the test of several records builds the first of those whose gates pass, and goes on as a test of them all. -/
theorem foldl_testNotice_first {c : NoticeControl} {k : NoticeKind} :
    ∀ {l : List NoticeKind} {s : State}, l.Pairwise c.Ahead → k ∈ l →
      (∀ j ∈ l, s.deliverable j = true → ¬c.Ahead j k) →
        l.foldl State.testNotice s = l.foldl State.testNotice (s.testNotice k) := by
  intro l
  induction l with
  | nil => exact fun _ h => nomatch h
  | cons x l ih =>
    intro s horder hk hfirst
    rw [List.foldl_cons, List.foldl_cons]
    obtain ⟨hx, horder⟩ := List.pairwise_cons.1 horder
    obtain rfl | hk := List.mem_cons.1 hk
    · rw [testNotice_of_shut (testNotice_shuts s k k (.inl rfl))]
    · have hshut : s.deliverable x = false :=
        Bool.eq_false_iff.2 fun h => hfirst x List.mem_cons_self h (hx k hk)
      rw [testNotice_of_shut hshut, testNotice_of_shut (testNotice_shuts s k x (.inr hshut))]
      exact ih horder hk fun j hj => hfirst j (List.mem_cons_of_mem _ hj)

theorem testNotices_of_shut {s : State} {f : Lane → NoticeKind → Bool}
    (h : ∀ k, f s.noticeControl.kinds[k].lane k = true → ¬GatesPass s k) : s.testNotices f = s :=
  testNotices_idle s f fun k hk => (not_gatesPass_iff s k).1 (h k hk)

theorem testNotices_builds {s : State} {f : Lane → NoticeKind → Bool} {k : NoticeKind}
    (hk : f s.noticeControl.kinds[k].lane k = true) (hgates : GatesPass s k)
    (hfirst : ∀ j, f s.noticeControl.kinds[j].lane j = true → GatesPass s j → ¬s.noticeControl.Ahead j k) :
    s.testNotices f = (s.withBuilt k s.notices[k]).testNotices f := by
  have hcontrol : (s.testNotice k).noticeControl = s.noticeControl := by simp
  rw [testNotices_eq, testNotices_eq, ← testNotice_of_gates ((deliverable_iff s k).2 hgates), hcontrol]
  exact foldl_testNotice_first (chosen_pairwise _ f) (mem_chosen.2 hk) fun j hj hj' =>
    hfirst j (mem_chosen.1 hj) ((deliverable_iff s j).1 hj')

/-! ### Occurrences -/

/-- R181, log 27: what stands freed in a queue has gone to those that wait for it, and a second offer finds none. -/
theorem offer_offer (s : State) (p : Port) : (s.offer p).offer p = s.offer p := by
  have hcontrol : (s.offer p).noticeControl = s.noticeControl := by simp
  refine testNotices_idle _ _ fun k hk => ?_
  rw [hcontrol] at hk
  have hshut := foldl_testNotice_shuts (l := s.noticeControl.chosen fun l _ => s.noticeControl.lanes[l].dest == p) s
    (mem_chosen.2 hk)
  rwa [← testNotices_eq] at hshut

theorem raise_offered (s : State) (d : NoticeDetail) : s.raise d = (s.offer (s.laneOf d.kind).dest).raise d := by
  have hlane : (s.offer (s.laneOf d.kind).dest).laneOf d.kind = s.laneOf d.kind := by simp [State.laneOf]
  rw [State.raise, State.raise, hlane, offer_offer]

/-- R188, R190: an occurrence that no waiting notice of its port precedes is recorded, and then its gates are tested. -/
theorem raise_alone {s : State} {d : NoticeDetail} (h : ∀ j, GatesPass s j → (s.laneOf j).dest ≠ (s.laneOf d.kind).dest) :
    s.raise d = (s.record d).testNotice d.kind := by
  rw [State.raise, State.offer, testNotices_of_shut fun k hk hgates => h k hgates (beq_iff_eq.1 hk)]

/-! ### NOTICE_BUILD -/

theorem firstToBuild_iff (s : State) (k : NoticeKind) :
    s.firstToBuild k = true ↔
      ∀ j, GatesPass s j → (s.laneOf j).dest = (s.laneOf k).dest → ¬s.noticeControl.Ahead j k := by
  simp only [State.firstToBuild, List.all_eq_true, mem_deliveryOrder, forall_const, Prod.forall, Bool.not_eq_true',
    ← Bool.not_eq_true, Bool.and_eq_true, beq_iff_eq, Bool.or_eq_true, decide_eq_true_eq, deliverable_iff]
  refine ⟨fun h j hgates hdest hahead => h _ j ⟨⟨⟨rfl, hgates⟩, hdest⟩, hahead⟩, fun h l j hj => ?_⟩
  obtain ⟨⟨⟨hlane, hgates⟩, hdest⟩, hahead⟩ := hj
  rw [← hlane] at hahead
  exact h j hgates hdest hahead

/-- Settles O35: each test by the first notice it builds, an occurrence by the test of its own record. -/
theorem occurrencesAreRecordedAndDelivered : Obligations.OccurrencesAreRecordedAndDelivered := by
  intro s laneNo lane built before buildsInOrder
  have hbuilds : ∀ f : Lane → NoticeKind → Bool,
      ((∀ k, f (laneNo k) k = true → ¬GatesPass s k) → s.testNotices f = s)
        ∧ ∀ k, f (laneNo k) k = true → GatesPass s k → (∀ j, f (laneNo j) j = true → GatesPass s j → before k j) →
          s.testNotices f = (built k s.notices[k]).testNotices f := fun f =>
    ⟨testNotices_of_shut, fun k hk hgates hfirst =>
      testNotices_builds hk hgates fun j hj hj' => (not_ahead_iff _ j k).2 (hfirst j hj hj')⟩
  have hfirst : ∀ k, s.firstToBuild k = true ↔ ∀ j, GatesPass s j → (lane j).dest = (lane k).dest → before k j :=
    fun k => (firstToBuild_iff s k).trans
      (forall_congr' fun j => imp_congr_right fun _ => imp_congr_right fun _ => not_ahead_iff _ j k)
  refine ⟨fun d => ⟨raise_offered s d, fun halone => ?occurs⟩, ?all, fun l => ?lane, fun p => ?offer, fun k =>
    ⟨fun hgates => ?tested, fun hshut => ?shut, fun hgates h => ?first, fun h => ?waits⟩⟩
  case occurs =>
    have hrecorded : GatesPass (s.record d) d.kind ↔ s.notices[d.kind].sent = false
        ∧ s.noticeControl.kinds[d.kind].enable = true ∧ s.noticeControl.hold = false ∧ (lane d.kind).isOpen = true
        ∧ s.present (lane d.kind).dest = true ∧ s.queues[(lane d.kind).dest].length < 8 := by
      simp only [GatesPass, State.record, State.setNotice, get_put, if_true, NoticeRecord.occur, true_and]
      rfl
    rw [raise_alone halone]
    refine ⟨fun h => ?_, fun h => ?_⟩
    · exact testNotice_of_shut ((not_gatesPass_iff _ _).1 (mt hrecorded.1 h))
    · rw [testNotice_of_gates ((deliverable_iff _ _).2 (hrecorded.2 h))]
      simp only [State.withBuilt, State.record, State.setNotice, get_put, put_put, if_true]
      rfl
  case all =>
    obtain ⟨hidle, hbuilt⟩ := hbuilds fun _ _ => true
    exact ⟨fun h => hidle fun k _ => h k trivial, fun k _ hgates h => hbuilt k rfl hgates fun j _ => h j trivial⟩
  case lane =>
    obtain ⟨hidle, hbuilt⟩ := hbuilds fun x _ => x == l
    exact ⟨fun h => hidle fun k hk => h k (beq_iff_eq.1 hk), fun k hk hgates h =>
      hbuilt k (beq_iff_eq.2 hk) hgates fun j hj => h j (beq_iff_eq.1 hj)⟩
  case offer =>
    obtain ⟨hidle, hbuilt⟩ := hbuilds fun l _ => s.noticeControl.lanes[l].dest == p
    exact ⟨fun h => hidle fun k hk => h k (beq_iff_eq.1 hk), fun k hk hgates h =>
      hbuilt k (beq_iff_eq.2 hk) hgates fun j hj => h j (beq_iff_eq.1 hj)⟩
  case tested => exact testNotice_of_gates ((deliverable_iff s k).2 hgates)
  case shut => exact testNotice_of_shut ((not_gatesPass_iff s k).1 hshut)
  case first =>
    have hbuilt := testNotice_of_gates ((deliverable_iff s k).2 hgates)
    exact congrArg Host.Outcome.next ((if_pos ((hfirst k).2 h)).trans hbuilt)
  case waits =>
    refine congrArg Host.Outcome.next (show s.buildNotice k = s from ?_)
    unfold State.buildNotice
    split
    · rename_i hk
      exact testNotice_of_shut ((not_gatesPass_iff s k).1 fun hgates => h ⟨hgates, (hfirst k).1 hk⟩)
    · rfl

end Sys2Proof.Machine
end

section
/-! NOTICE_CONTROL (R193; log 27): what its owner answers to each command, and the reply ahead of what the command
builds (R190). -/

namespace Sys2Proof.Machine

/-! ### The owner's answers -/

theorem noticeHold_of_held {s : State} (h : s.noticeControl.hold = true) :
    noticeHoldRequest none s = (s, Answer.bare .already) := if_pos h

theorem noticeHold_of_free {s : State} (h : s.noticeControl.hold = false) :
    noticeHoldRequest none s = (s.setControl { s.noticeControl with hold := true }, Answer.bare .ok) :=
  if_neg (Bool.eq_false_iff.1 h)

theorem noticeUnhold_of_held {s : State} (h : s.noticeControl.hold = true) :
    noticeUnholdRequest none s =
      ((s.setControl { s.noticeControl with hold := false }).testAll, Answer.bare .ok) := if_pos h

theorem noticeUnhold_of_free {s : State} (h : s.noticeControl.hold = false) :
    noticeUnholdRequest none s = (s, Answer.bare .already) := if_neg (Bool.eq_false_iff.1 h)

theorem noticeClear_beyond {n : Nat} (s : State) (h : n = 0 ∨ 18 < n) :
    noticeClearRequest (some n) s = (s, Answer.bare .badIndex) := by
  simp only [noticeClearRequest, oneBased_eq_none.2 h]

theorem noticeClear_kind (s : State) (k : NoticeKind) :
    noticeClearRequest (some (k.val + 1)) s = (s.setNotice k s.notices[k].emptiedOf, Answer.bare .ok) := by
  simp only [noticeClearRequest, oneBased_val]

theorem laneCommand_beyond {n : Nat} (command : Lane → State → State × Answer) (s : State) (h : 3 < n) :
    laneCommand (some n) command s = (s, Answer.bare .badIndex) := by
  simp only [laneCommand, zeroBased_eq_none.2 (Nat.succ_le_of_lt h)]

theorem laneCommand_lane (l : Lane) (command : Lane → State → State × Answer) (s : State) :
    laneCommand (some l.val) command s = command l s := by
  simp only [laneCommand, zeroBased_val]

theorem commandOpen_of_open {s : State} {l : Lane} (h : s.noticeControl.lanes[l].isOpen = true) :
    commandOpen l s = (s, Answer.bare .already) := if_pos h

theorem commandOpen_of_closed {s : State} {l : Lane} (h : s.noticeControl.lanes[l].isOpen = false) :
    commandOpen l s = ((s.testAll.setOpen l true).testLane l, Answer.bare .ok) := if_neg (Bool.eq_false_iff.1 h)

theorem commandClose_of_open {s : State} {l : Lane} (h : s.noticeControl.lanes[l].isOpen = true) :
    commandClose l s = (s.setOpen l false, Answer.bare .ok) := if_pos h

theorem commandClose_of_closed {s : State} {l : Lane} (h : s.noticeControl.lanes[l].isOpen = false) :
    commandClose l s = (s, Answer.bare .already) := if_neg (Bool.eq_false_iff.1 h)

/-! ### The reply ahead of the tests -/

theorem testLane_answer (s : State) (l : Lane) (p : Port) (kind tag : Octet) (a : Answer) (ha : a.waits ≠ .deferred) :
    (s.testLane l).answer p kind tag a = (s.answer p kind tag a).testLane l := testNotices_answer s _ p kind tag a ha

theorem setOpen_answer (s : State) (l : Lane) (o : Bool) (p : Port) (kind tag : Octet) (a : Answer) :
    (s.setOpen l o).answer p kind tag a = (s.answer p kind tag a).setOpen l o := rfl

/-- R193: a lane is opened or closed in Notice Control as it stood ahead of the tests. -/
theorem setOpen_testAll (s : State) (l : Lane) (o : Bool) :
    s.testAll.setOpen l o = s.testAll.setControl
      { s.noticeControl with lanes := put s.noticeControl.lanes l { s.noticeControl.lanes[l] with isOpen := o } } := by
  simp only [State.setOpen, testAll_fields]

section
variable {s : State} {p : Port} (tag : Octet) (hs : MaySend s p .write)
include hs

/-- R179, R193: a NOTICE_CONTROL command whose notices do not meet its reply: the reply, then what `F` builds. -/
theorem notice_through {cmd : Instr} {r : Request} {u : State} {st : Status} (F : State → State)
    (hF : ∀ (t : State) (kind tag : Octet) (a : Answer), a.waits ≠ .deferred →
      (F t).answer p kind tag a = F (t.answer p kind tag a))
    (hc : requestOf cmd = some (p, tag, 0x50, r)) (ho : owner p r (s.reserve p) = (F (u.reserve p), Answer.bare st)) :
    exec cmd s = .next (F (u.replied p (replyOf 0xD0 tag st .nothing))) := by
  obtain ⟨hk, he⟩ := exec_requestOf (s := s) hc
  have hr : requestRight r = .write := by rw [requestRight, hk]; rfl
  rw [he, request_through tag u F st .nothing (hr ▸ hs) ho hF, hk]
  rfl

/-- R179, R193: a NOTICE_CONTROL command that builds nothing. -/
theorem notice_replied {cmd : Instr} {r : Request} {u : State} {st : Status}
    (hc : requestOf cmd = some (p, tag, 0x50, r)) (ho : owner p r (s.reserve p) = (u.reserve p, Answer.bare st)) :
    exec cmd s = .next (u.replied p (replyOf 0xD0 tag st .nothing)) :=
  notice_through tag hs id (fun _ _ _ _ _ => rfl) hc ho

/-- R190, R193: UNHOLD tests every record, behind its reply. -/
theorem unhold_tests (h : s.noticeControl.hold = true) :
    exec (.noticeUnhold p tag none) s = .next
      ((s.setControl { s.noticeControl with hold := false }).replied p (replyOf 0xD0 tag .ok .nothing)).testAll :=
  notice_through tag hs State.testAll (fun t kind tag a ha => testAll_answer t p kind tag a ha) rfl
    (noticeUnhold_of_held (s := s.reserve p) h)

/-- R190, R193: OPEN tests the records of its lane, behind its reply and those that wait for freed entries (log 27). -/
theorem open_tests {l : Lane} (h : s.noticeControl.lanes[l].isOpen = false) :
    exec (.noticeOpen p tag (some l.val)) s = .next
      (((s.replied p (replyOf 0xD0 tag .ok .nothing)).testAll.setOpen l true).testLane l) := by
  refine notice_through tag hs (fun t => (t.testAll.setOpen l true).testLane l) (fun t kind tag a ha => ?_) rfl
    ((laneCommand_lane l _ _).trans (commandOpen_of_closed (s := s.reserve p) h))
  rw [testLane_answer _ _ _ _ _ _ ha, setOpen_answer, testAll_answer _ _ _ _ _ ha]

end

/-! ### The statement -/

/-- Settles O52: each command's owner refuses it, or changes Notice Control or a record, and then tests. -/
theorem noticeControlCommands : Obligations.NoticeControlCommands := by
  intro s p tag hs
  refine ⟨fun h => ⟨?alreadyHeld, unhold_tests tag hs h⟩, fun h => ⟨?alreadyFree, ?hold⟩,
    fun x => ⟨notice_replied tag hs rfl rfl, notice_replied tag hs rfl rfl⟩, notice_replied tag hs rfl rfl,
    notice_replied tag hs rfl rfl, notice_replied tag hs rfl rfl, fun n hn => ?noKind,
    fun n hn => ⟨?noLaneToOpen, ?noLaneToClose⟩, fun k => ?clear,
    fun l => ⟨fun h => ⟨?alreadyOpen, ?close⟩, fun h => ⟨?alreadyClosed, ?opens⟩⟩⟩
  case alreadyHeld => exact notice_replied tag hs rfl (noticeHold_of_held (s := s.reserve p) h)
  case alreadyFree => exact notice_replied tag hs rfl (noticeUnhold_of_free (s := s.reserve p) h)
  case hold =>
    exact notice_replied (u := s.setControl { s.noticeControl with hold := true }) tag hs rfl
      (noticeHold_of_free (s := s.reserve p) h)
  case noKind => exact notice_replied tag hs rfl (noticeClear_beyond _ hn)
  case noLaneToOpen => exact notice_replied tag hs rfl (laneCommand_beyond _ _ hn)
  case noLaneToClose => exact notice_replied tag hs rfl (laneCommand_beyond _ _ hn)
  case clear => exact notice_replied tag hs rfl (noticeClear_kind _ k)
  case alreadyOpen =>
    exact notice_replied tag hs rfl ((laneCommand_lane l _ _).trans (commandOpen_of_open (s := s.reserve p) h))
  case close =>
    exact notice_replied (u := s.setOpen l false) tag hs rfl
      ((laneCommand_lane l _ _).trans (commandClose_of_open (s := s.reserve p) h))
  case alreadyClosed =>
    exact notice_replied tag hs rfl ((laneCommand_lane l _ _).trans (commandClose_of_closed (s := s.reserve p) h))
  case opens =>
    rw [open_tests tag hs h, setOpen_testAll]
    rfl

end Sys2Proof.Machine
end

section
/-! Power-on (R195) and SAVE (R197, R198; logs 9, 42): the acceptance behind its first write, and the writes of a running
save up to the marker. -/

namespace Sys2Proof.Machine

theorem exec_power (s : State) (power : Bool) :
    exec (if power then .powerOn else .powerLoss) s = .next (s.atPowerOn power) := by
  cases power with
  | true | false => rfl

/-- Settles O6: each of the two commands leaves the state at power-on, whose every field is that of the reset state but for
those that lie outside the part. -/
theorem powerOnSetsEveryPowerOnValue : Obligations.PowerOnSetsEveryPowerOnValue := exec_power

/-! ### The acceptance of SAVE -/

theorem saveRequest_of_idle {s : State} (h : s.loader = .idle) : saveRequest s = (s.beginSave, Answer.bare .ok) := if_pos h

theorem saveRequest_of_saving {s : State} (h : s.loader = .saving) : saveRequest s = (s, Answer.bare .busy) :=
  if_neg (c := s.loader = .idle) fun hidle => nomatch h.symm.trans hidle

/-- R197: a save that has begun, its first write answered. -/
def State.savingFrom (s : State) : State :=
  { s with
    loader := .saving, fresh := s.fresh + 1, store := none
    save := some { snapshot := s.snapshot, stage := nextTable 0 } }

section
variable {s : State} {p : Port} (tag : Octet) (hs : MaySend s p .write)
include hs

/-- R197: with its first write answered SAVE leaves the save running, behind a plain reply. -/
theorem save_begins (hidle : s.loader = .idle) (hanswers : Config.memoryAnswers s.fresh = true) :
    s.request p tag .save = s.savingFrom.replied p (replyOf 0xE0 tag .ok .nothing) := by
  refine request_replied (r := .save) tag s.savingFrom .ok .nothing hs ?_
  have howner : owner p .save (s.reserve p) = ((s.reserve p).beginSave, Answer.bare .ok) := saveRequest_of_idle hidle
  rw [howner, beginSave_answered (s.reserve p) hanswers]
  rfl

/-- R197, R198: with its first write unanswered SAVE has failed, and the failure is told behind the reply. -/
theorem save_fails_at_once (hidle : s.loader = .idle) (hsilent : Config.memoryAnswers s.fresh = false) :
    s.request p tag .save = State.raise
      ({ s with fresh := s.fresh + 1, save := none }.replied p (replyOf 0xE0 tag .ok .nothing)) (.saveDone false) := by
  refine request_through (r := .save) tag { s with fresh := s.fresh + 1, save := none }
    (fun t => t.raise (.saveDone false)) .ok .nothing hs ?_ fun t kind tag a ha => raise_answer t _ p kind tag a ha
  have howner : owner p .save (s.reserve p) = ((s.reserve p).beginSave, Answer.bare .ok) := saveRequest_of_idle hidle
  rw [howner, beginSave_unanswered (s.reserve p) hsilent, ← hidle]
  rfl

end

/-! ### A running save -/

/-- R198: one more answered table write leads to the next of them, or to the image check (log 9). -/
theorem nextTable_cases (n : Nat) : nextTable n = .tables n ∨ nextTable n = .imageCheck := by
  unfold nextTable
  split
  · exact .inl rfl
  · exact .inr rfl

/-- R198: an event of a save reaches it while it runs. -/
theorem saveStep_running {s : State} {x : Save} (event : State → Save → State) (hsaving : s.loader = .saving)
    (hx : s.save = some x) : s.saveStep event = event s x := by
  simp only [State.saveStep, if_pos hsaving, hx]

theorem writeAnswered_tables {s : State} {x : Save} {n : Nat} (h : x.stage = .tables n) :
    s.writeAnswered x = { s with save := some { x with stage := nextTable (n + 1) } } := by
  simp only [State.writeAnswered, h]

theorem writeAnswered_imageCheck {s : State} {x : Save} (h : x.stage = .imageCheck) :
    s.writeAnswered x = { s with save := some { x with stage := .marker } } := by
  simp only [State.writeAnswered, h]

theorem saveAtMarker_marker {s : State} {x : Save} (hsaving : s.loader = .saving) (hx : s.save = some x)
    (hmarker : x.stage = .marker) : s.saveAtMarker = s.completeSave x := by
  rw [State.saveAtMarker, saveStep_running _ hsaving hx, if_pos hmarker]

/-- R198: the end of a save leaves the loader IDLE and, but for the messages of SAVE_DONE, nothing else changed. -/
theorem endSave_messagesAside (s : State) (ok : Bool) :
    MessagesAside (s.endSave ok) { s with loader := .idle, save := none } :=
  (messagesAside_iff _ _).2 (raise_sansMsgs _ _)

/-- R188, R198: the end of a save leaves its outcome in the record of SAVE_DONE. -/
theorem endSave_detail (s : State) (ok : Bool) : (s.endSave ok).notices[(15 : NoticeKind)].detail = some (.saveDone ok) := by
  rw [State.endSave, raise_detail]
  exact if_pos rfl

/-! ### The statement -/

/-- Settles O8: the acceptance by the memory's answer to the first write, a running save by the stage of its write. -/
theorem saveRunsFromSnapshotToMarker : Obligations.SaveRunsFromSnapshotToMarker := by
  refine ⟨fun s p tag hs => ⟨fun hidle => ⟨nextTable 0, nextTable_zero, ?accepted⟩, fun hsaving => ?busy⟩,
    fun s x hsaving hx => ⟨fun n htables => ⟨nextTable (n + 1), nextTable_cases (n + 1), ?tableWrite⟩,
      fun hcheck => ?imageCheck, fun hmarker => ⟨s.completeSave x, ?completion, endSave_messagesAside _ true,
        endSave_detail _ true⟩,
      s.writeFailed x, ?failure, endSave_messagesAside _ false, endSave_detail _ false⟩⟩
  case accepted =>
    refine congrArg Host.Outcome.next ?_
    cases hanswer : Config.memoryAnswers s.fresh with
    | true => exact save_begins tag hs hidle hanswer
    | false => exact save_fails_at_once tag hs hidle hanswer
  case busy =>
    exact congrArg Host.Outcome.next
      (request_refused (r := .save) tag .busy .nothing hs (saveRequest_of_saving (s := s.reserve p) hsaving))
  case tableWrite =>
    exact congrArg Host.Outcome.next ((saveStep_running _ hsaving hx).trans (writeAnswered_tables htables))
  case imageCheck =>
    exact congrArg Host.Outcome.next ((saveStep_running _ hsaving hx).trans (writeAnswered_imageCheck hcheck))
  case completion => exact congrArg Host.Outcome.next (saveAtMarker_marker hsaving hx hmarker)
  case failure => exact congrArg Host.Outcome.next (saveStep_running _ hsaving hx)

end Sys2Proof.Machine
end

section
/-! Link loss and deferred actions as a port's fall (R25, R126, R133, R154, R158, R167, R168, R192). -/

namespace Sys2Proof.Machine

/-! ### Link loss -/

theorem state_counts {x : PortState} (hdisabled : x ≠ .disabled) (hdown : x ≠ .down) : x.counts = true := by
  cases x with
  | disabled => exact absurd rfl hdisabled
  | down => exact absurd rfl hdown
  | probing | up | quiet | fault => rfl

/-- Log 3: an interval without a good frame at a count of 15 is link loss, present or not. -/
theorem lineLost_exec {s : State} {p : Port} {c : Instr}
    (hc : c = .linkLoss p ∨ c = .frameMissing p ∨ ∃ f, c = .frameDiscarded p f ∧ UpFrame.classify f ≠ .good)
    (hl : s.loader ≠ .loading) (hdisabled : s.ports[p].state ≠ .disabled) (hdown : s.ports[p].state ≠ .down)
    (hcount : s.ports[p].lossCount = 15) : exec c s = .next ((s.setSample p none).lineLost p) := by
  have hlost : s.takeMissing p = (s.setSample p none).lineLost p := by
    unfold State.takeMissing
    split
    · next h => exact absurd h hdisabled
    · next h => exact absurd h hdown
    · exact if_pos (Nat.succ_le_succ hcount.ge)
  rw [← hlost]
  obtain rfl | rfl | ⟨f, hdiscarded⟩ := hc
  · exact congrArg Host.Outcome.next (if_pos ⟨loaded_of_ne hl, state_counts hdisabled hdown, hcount.ge⟩)
  · exact congrArg Host.Outcome.next (if_pos (loaded_of_ne hl))
  · exact noFrame_loaded hl (.inr hdiscarded)

/-- R154, R163: a port that was not present falls with its buffers emptied and tells nobody. -/
theorem fall_absent {s : State} {p : Port} (hp : s.present p = false) (target : PortState) (cause : Option DownCause) :
    s.fall p target cause = s.clearPort p (s.fallTarget p target) := by
  rw [State.fall, if_neg (Bool.eq_false_iff.1 hp)]

theorem fallTarget_absent {s : State} {p : Port} {target : PortState} (ht : target.present = false) :
    (s.fallTarget p target).present = false := by
  unfold State.fallTarget
  split
  · rfl
  · exact ht

/-- R153: the sample of a port that departs is void already, or becomes so. -/
theorem HasDeparted.of_setSample {s t : State} {p : Port} {target : PortState} {causes : List NoticeDetail}
    (h : HasDeparted (s.setSample p none) t p target causes) : HasDeparted s t p target causes := by
  obtain ⟨habsent, hwhole⟩ := h
  refine ⟨habsent, hwhole.trans ?_⟩
  simp only [setSample_fields, put_put]
  rfl

/-- R168: DEFERRED_ACTION once no entry of the queue holds the reply. -/
theorem deferredAction_sent {s : State} {p : Port} (h : ∀ e ∈ s.queues[p], e.waits ≠ .deferred) :
    exec (.deferredAction p) s = .next (s.carryOut p) :=
  congrArg Host.Outcome.next (if_pos ((replySent_iff _ _).2 h))

/-- Log 3: while the reply waits the event does not occur. -/
theorem deferredAction_waits {s : State} {p : Port} (h : ∃ e ∈ s.queues[p], e.waits = .deferred) :
    exec (.deferredAction p) s = .next s := by
  obtain ⟨e, he, hw⟩ := h
  exact congrArg Host.Outcome.next (if_neg fun hsent => (replySent_iff _ _).1 hsent e he hw)

/-- Settles O12: link loss and a deferred action are falls of the port, and a fall is what `fall_leaves` and
`fall_departs` say. -/
theorem presentPortFalls : Obligations.PresentPortFalls := by
  refine ⟨fun s p c hc hl hdisabled hdown hcount => ?lost, fun s p hp hr => ⟨fun hsent => ?sent, deferredAction_waits⟩⟩
  case lost =>
    have hexec := lineLost_exec hc hl hdisabled hdown hcount
    refine ⟨fun hp => hexec.trans ?absent, fun hp hr => ⟨_, hexec, ?present⟩⟩
    case absent => exact congrArg Host.Outcome.next (fall_absent (s := s.setSample p none) hp _ _)
    case present =>
      unfold State.lineLost
      rw [fall_fallTarget]
      have hsettled := fallTarget_fallTarget (s.setSample p none) p .down
      obtain ⟨hleft, hkept, hprofiles, hothers, hdetail⟩ := fall_leaves (s.setSample p none) p _ (some .linkLoss)
        (fallTarget_absent rfl) hp hr hsettled
      refine ⟨hleft, hkept, hprofiles, fun hs => (fall_departs (s := s.setSample p none) hs hp hr hsettled).of_setSample, hdetail _ rfl, fun q hq => ?_⟩
      obtain ⟨hports, hsamples, hcalls⟩ := hothers q hq
      exact ⟨hports, hsamples.trans ((get_put _ _ _ _).trans (if_neg hq)), hcalls⟩
  case sent =>
    obtain ⟨hnone, hfalls, -⟩ := carryOut_spec hp
    obtain ⟨hdisable, hrestart⟩ := hfalls hr
    rw [deferredAction_sent hsent]
    exact ⟨fun hd => ⟨_, rfl, hdisable hd⟩, fun hd => ⟨_, rfl, hrestart hd⟩, fun hd => congrArg Host.Outcome.next (hnone hd)⟩

end Sys2Proof.Machine
end

section
/-! A port taken down by a request of another port: the fall and the filling of the sender's reply do not meet (R158, R166,
R167, R179). -/

namespace Sys2Proof.Machine

/-! ### Operations that a reply passes -/

/-- R179: an operation that does not meet the filling of a reply to port p. -/
def PassesReply (p : Port) (f : State → State) : Prop :=
  ∀ (t : State) (kind tag : Octet) (a : Answer), a.waits ≠ .deferred →
    (f t).answer p kind tag a = f (t.answer p kind tag a)

theorem PassesReply.comp {p : Port} {f g : State → State} (hg : PassesReply p g) (hf : PassesReply p f) :
    PassesReply p (g ∘ f) := fun t kind tag a ha => by
  rw [Function.comp_apply, hg _ _ _ _ ha, hf _ _ _ _ ha, Function.comp_apply]

theorem PassesReply.foldl {β : Type} {p : Port} {f : State → β → State} (h : ∀ x, PassesReply p (f · x)) :
    ∀ l : List β, PassesReply p fun t => l.foldl f t
  | [] => fun _ _ _ _ _ => rfl
  | x :: l => (PassesReply.foldl h l).comp (h x)

section
variable {p n : Port}

theorem clearPort_queue (s : State) (h : n ≠ p) (target : PortState) :
    (s.clearPort n target).queues[p] = s.queues[p] := (get_put s.queues n p []).trans (if_neg h.symm)

theorem clearPort_passes (h : n ≠ p) (target : PortState) : PassesReply p (·.clearPort n target) := fun t kind tag a _ => by
  show (t.clearPort n target).answer p kind tag a = (t.answer p kind tag a).clearPort n target
  rw [State.answer, clearPort_queue t h]
  exact congrArg (fun q => { t.clearPort n target with queues := q }) (put_comm _ h _ _)

theorem removeTalk_passes (c : Chan) : PassesReply p (·.removeTalk c n) := fun t kind tag a _ => by
  show (t.removeTalk c n).answer p kind tag a = (t.answer p kind tag a).removeTalk c n
  rw [removeTalk_eq, removeTalk_eq]
  rfl

theorem leaveUp_passes : PassesReply p (·.leaveUp n) :=
  PassesReply.comp (g := (·.clearDenied n)) (fun _ _ _ _ _ => rfl) (.foldl removeTalk_passes allChannels)

theorem portLost_passes : PassesReply p (·.portLost n) := fun t kind tag a ha =>
  PassesReply.foldl (f := fun t r => t.changeCue (t.lostCue r n))
    (fun r t kind tag a ha => told_answer (t.putCue (t.lostCue r n)) (t.lostCue r n) _ p kind tag a ha)
    (t.active.filter fun r => r.losesPort n) t kind tag a ha

/-- R158: what a port that leaves presence takes with it, up to the notices. -/
theorem departure_passes :
    PassesReply p fun t => ((((t.portLost n).leaveUp n).clearCalls n).setSample n none).setShown n ShownLamps.off :=
  PassesReply.comp (g := fun t => ((t.clearCalls n).setSample n none).setShown n ShownLamps.off) (fun _ _ _ _ _ => rfl)
    (leaveUp_passes.comp portLost_passes)

/-- R192: the notices of a port that has left presence. -/
theorem announcement_passes (causes : List NoticeDetail) : PassesReply p fun t => t.raised (t.lanesLeading n ++ causes) :=
  fun t kind tag a ha => raised_answer p kind tag a ha (t.lanesLeading n ++ causes) t

/-- R158, R179: a port's departure and the reply to another do not meet. -/
theorem leavePresence_passes (cause : Option DownCause) : PassesReply p fun t => (t.leavePresence n).portDown n cause := by
  have hparts : ∀ t : State, (t.leavePresence n).portDown n cause =
      (fun u : State => u.raised (u.lanesLeading n ++ cause.toList.map (.portDown n)))
        (((((t.portLost n).leaveUp n).clearCalls n).setSample n none).setShown n ShownLamps.off) := fun t => by
    rw [State.leavePresence, lanesLost_portDown]
  have hpasses := (announcement_passes (p := p) (n := n) (cause.toList.map (.portDown n))).comp (departure_passes (n := n))
  exact fun t kind tag a ha => by simpa only [Function.comp_apply, ← hparts] using hpasses t kind tag a ha

end

/-! ### The fall of a port -/

section
variable {s : State} {p n : Port} {target : PortState} {cause : Option DownCause}

/-- R158: a present port that no RESTART waits for departs, and that is all. -/
theorem fall_present (hn : s.present n = true) (hr : s.restartBy ≠ some n) :
    s.fall n target cause = ((s.clearPort n (s.fallTarget n target)).leavePresence n).portDown n cause := by
  rw [State.fall, if_pos hn, State.orphanRestart, if_neg]
  simpa [State.leavePresence, State.clearPort] using hr

theorem fall_port (ht : target.present = false) (hr : s.present n = true → s.restartBy ≠ some n) :
    (s.fall n target cause).ports[n] = { PortRecord.powerOn with state := s.fallTarget n target } := by
  cases hn : s.present n with
  | true =>
    rw [fall_fallTarget]
    exact (fall_leaves s n _ cause (fallTarget_absent ht) hn (hr hn) (fallTarget_fallTarget s n target)).1.1
  | false =>
    rw [fall_absent hn]
    exact (get_put s.ports n n _).trans (if_pos rfl)

/-- R167, R179: the fall of a port and the reply to another do not meet. -/
theorem fall_answer (h : n ≠ p) (hr : s.present n = true → s.restartBy ≠ some n) (kind tag : Octet) {a : Answer}
    (ha : a.waits ≠ .deferred) :
    (s.fall n target cause).answer p kind tag a = (s.answer p kind tag a).fall n target cause := by
  cases hn : s.present n with
  | true =>
    rw [fall_present hn (hr hn), fall_present (s := s.answer p kind tag a) hn (hr hn)]
    exact ((leavePresence_passes cause).comp (clearPort_passes h _)) s kind tag a ha
  | false =>
    rw [fall_absent hn, fall_absent (s := s.answer p kind tag a) hn]
    exact clearPort_passes h _ s kind tag a ha

/-- R181: what waits in the queue of another port stays there, but for desk status not yet begun. -/
theorem fall_mem (h : n ≠ p) (hn : s.present n = true) (hr : s.restartBy ≠ some n) {e : TxEntry}
    (hdesk : e.isWaitingDesk = false) (he : e ∈ s.queues[p]) : e ∈ (s.fall n target cause).queues[p] := by
  rw [fall_present hn hr, State.leavePresence, lanesLost_portDown]
  generalize s.fallTarget n target = x
  have hcleared : e ∈ (s.clearPort n x).queues[p] := (clearPort_queue s h x).symm ▸ he
  have hlost : KeepsMessages (s.clearPort n x) ((s.clearPort n x).portLost n) :=
    KeepsMessages.foldl (fun t r => t.changeCue (t.lostCue r n)) (fun t _ => changeCue_keeps t _) _ _
  refine (KeepsMessages.foldl State.raise raise_keeps _ _) p e hdesk ?_
  have hqueues := (leaveUp_messages ((s.clearPort n x).portLost n) n).1
  simp only [setShown_fields, setSample_fields, clearCalls_fields, hqueues]
  exact hlost p e hdesk hcleared

/-- R158, R166, R167: a present port taken down by another's request leaves as after link loss, and the reply stands. -/
theorem replied_falls (h : n ≠ p) (hn : s.present n = true) (hr : s.restartBy ≠ some n) (ht : target.present = false)
    (htarget : s.fallTarget n target = target) (cause : Option DownCause) {e : TxEntry} (hdesk : e.isWaitingDesk = false) :
    let t := (s.replied p e).fall n target cause
    HasLeft s t n target ∧ TablesKept s t
      ∧ (CueListSound s → HasDeparted (s.replied p e) t n target (cause.toList.map (.portDown n)))
      ∧ t.profiles = s.profiles ∧ e ∈ t.queues[p]
      ∧ (∀ q : Port, q ≠ n → t.ports[q] = s.ports[q] ∧ t.samples[q] = s.samples[q] ∧ t.calls[q] = s.calls[q])
      ∧ ∀ c, cause = some c → t.notices[(1 : NoticeKind)].detail = some (.portDown n c) := by
  obtain ⟨hleft, hkept, hprofiles, hothers, hdetail⟩ := fall_leaves (s.replied p e) n target cause ht hn hr htarget
  have hreply : e ∈ (s.replied p e).queues[p] := by simp [State.replied]
  exact ⟨hleft, hkept, fun hs => fall_departs (s := s.replied p e) hs hn hr htarget, hprofiles,
    fall_mem (s := s.replied p e) h hn hr hdesk hreply, hothers, hdetail⟩

/-- R163: a port that was not present, taken down by another's request. -/
theorem replied_clears (h : n ≠ p) (hn : s.present n = false) (e : TxEntry) :
    (s.replied p e).fall n target cause = (s.clearPort n (s.fallTarget n target)).replied p e := by
  rw [fall_absent (s := s.replied p e) hn]
  rw [State.replied, State.replied, clearPort_queue s h]
  exact congrArg (fun q => { s.clearPort n (s.fallTarget n target) with queues := q }) (put_comm _ h.symm _ _)

/-! ### Requests that take another port down -/

theorem answer_of_emptyQueue (hq : s.queues[p] = []) (kind tag : Octet) (a : Answer) : s.answer p kind tag a = s := by
  have hqueue : s.answer p kind tag a = s.setQueue p [] := by
    rw [State.answer, hq]
    split <;> rfl
  rw [hqueue, ← hq, State.setQueue, put_get]

/-- R179: the reply to a request that takes another port down, ahead of what the fall hands on. -/
theorem request_fells (tag : Octet) {r : Request} (u : State) {st : Status} {d : ReplyData} (hs : MaySend s p (requestRight r))
    (h : n ≠ p) (hr : u.present n = true → u.restartBy ≠ some n)
    (ho : owner p r (s.reserve p) = ((u.reserve p).fall n target cause, Answer.with st d)) :
    s.request p tag r = (u.replied p (replyOf (replyKind (requestKind r)) tag st d)).fall n target cause := by
  have hwaits : (Answer.with st d).waits ≠ .deferred := by simp [Answer.with]
  rw [request_taken tag hs, ho, fall_answer (s := u.reserve p) h hr _ _ hwaits, reserve_answer u p _ tag _ hwaits]
  rfl

/-- R185: a request that takes down the port that a RESTART waits for carries the RESTART out (log 16). -/
theorem request_fells_restarting (tag : Octet) {r : Request} (u : State) {a : Answer} (hs : MaySend s p (requestRight r))
    (hn : u.present n = true) (hr : u.restartBy = some n)
    (ho : owner p r (s.reserve p) = ((u.reserve p).fall n target cause, a)) : HasRestarted u (s.request p tag r) := by
  have hrestarted : HasRestarted u ((u.reserve p).fall n target cause) := by
    rw [fall_fallTarget]
    exact fall_restarts (s := u.reserve p) hn hr (fallTarget_fallTarget _ n target)
  have hqueue : ((u.reserve p).fall n target cause).queues[p] = [] := by
    obtain ⟨-, -, -, -, -, -, -, -, -, -, -, -, -, hports, -⟩ := hrestarted
    obtain ⟨-, -, hqueue, -⟩ := hports p
    exact hqueue
  rw [request_taken tag hs, ho, answer_of_emptyQueue hqueue]
  exact hrestarted

end

end Sys2Proof.Machine
end

section
/-! PORT_CONTROL (R126, R133, R163, R167, R168): each command in each port state. -/

namespace Sys2Proof.Machine

/-! ### The port a command names -/

theorem portControl_named (n : Port) (command : Port → State → State × Answer) (s : State) :
    portControl n.val command s = command n s := by
  rw [portControl, zeroBased_val]

theorem portControl_beyond {m : Nat} (h : 31 < m) (command : Port → State → State × Answer) (s : State) :
    portControl m command s = (s, Answer.bare .badIndex) := by
  rw [portControl, zeroBased_eq_none.2 h]

theorem portAnswer_nothing {u : State} {n : Port} {x : PortState} (h : u.ports[n].state = x) :
    u.portAnswer n .nothing = (u, Answer.with .ok (.portState x)) := by
  rw [State.portAnswer, h]
  rfl

/-- R133, R163: a port emptied and set to a state in which it is not present. -/
theorem clearPort_port (s : State) (n : Port) (target : PortState) : (s.clearPort n target).ports[n].state = target := by
  simp [State.clearPort]

section
variable {s : State} {p : Port} (tag : Octet) (hs : MaySend s p .write)
include hs

/-! ### How a PORT_CONTROL is answered -/

/-- R167: a command that changes the state ahead of its reply. -/
theorem control_replied {cmd : Instr} {r : Request} {u : State} {st : Status} {d : ReplyData}
    (hc : requestOf cmd = some (p, tag, 0x48, r)) (ho : owner p r (s.reserve p) = (u.reserve p, Answer.with st d)) :
    exec cmd s = .next (u.replied p (replyOf 0xC8 tag st d)) := by
  obtain ⟨hk, he⟩ := exec_requestOf (s := s) hc
  have hr : requestRight r = .write := by rw [requestRight, hk]; rfl
  rw [he, request_replied tag u st d (hr ▸ hs) ho, hk]
  rfl

/-- R167: a refused command, or one that finds nothing to do. -/
theorem control_refused {cmd : Instr} {r : Request} {st : Status} {d : ReplyData}
    (hc : requestOf cmd = some (p, tag, 0x48, r)) (ho : owner p r (s.reserve p) = (s.reserve p, Answer.with st d)) :
    exec cmd s = .next (s.replied p (replyOf 0xC8 tag st d)) := control_replied tag hs hc ho

/-- R167, R179: a command that takes another port down. -/
theorem control_fells {cmd : Instr} {r : Request} {u : State} {n : Port} {target : PortState} {cause : Option DownCause}
    (h : n ≠ p) (hc : requestOf cmd = some (p, tag, 0x48, r)) (ht : target.present = false)
    (hr : u.present n = true → u.restartBy ≠ some n)
    (ho : owner p r (s.reserve p) = ((u.reserve p).fall n target cause).portAnswer n .nothing) :
    exec cmd s = .next
      ((u.replied p (replyOf 0xC8 tag .ok (.portState (u.fallTarget n target)))).fall n target cause) := by
  obtain ⟨hk, he⟩ := exec_requestOf (s := s) hc
  have hright : requestRight r = .write := by rw [requestRight, hk]; rfl
  have hstate : ((u.reserve p).fall n target cause).ports[n].state = u.fallTarget n target :=
    congrArg PortRecord.state (fall_port (s := u.reserve p) ht hr)
  rw [he, request_fells tag u (hright ▸ hs) h hr (ho.trans (portAnswer_nothing hstate)), hk]
  rfl

/-- R185: a command that takes down the port a RESTART waits for. -/
theorem control_restarts {cmd : Instr} {r : Request} {u : State} {n : Port} {target : PortState} {cause : Option DownCause}
    (hc : requestOf cmd = some (p, tag, 0x48, r)) (hn : u.present n = true) (hr : u.restartBy = some n)
    (ho : owner p r (s.reserve p) = ((u.reserve p).fall n target cause).portAnswer n .nothing) :
    ∃ t, exec cmd s = .next t ∧ HasRestarted u t := by
  obtain ⟨hk, he⟩ := exec_requestOf (s := s) hc
  have hright : requestRight r = .write := by rw [requestRight, hk]; rfl
  exact ⟨_, he, request_fells_restarting tag u (hright ▸ hs) hn hr ho⟩

end

/-! ### The reply a deferred action waits for -/

/-- R168, log 14: the reply takes the deferred action over from every earlier one. -/
def deferredQueue (q : List TxEntry) (kind tag : Octet) (st : Status) (d : ReplyData) : List TxEntry :=
  (q.map fun e => if e.waits = .deferred then { e with waits := .nothing } else e) ++
    [{ content := .reply kind tag st d, sent := 0, waits := .deferred }]

theorem reserve_answer_waits (u : State) (p : Port) (kind tag : Octet) (st : Status) (d : ReplyData) :
    (u.reserve p).answer p kind tag { status := st, data := d, waits := .deferred } =
      u.setQueue p (deferredQueue u.queues[p] kind tag st d) := by
  have hqueue : (u.reserve p).queues[p] = u.queues[p] ++ [TxEntry.fresh .reserved] :=
    (get_put u.queues p p _).trans (if_pos rfl)
  have hcleared : clearDeferredWaits (u.queues[p] ++ [TxEntry.fresh .reserved]) =
      (u.queues[p].map fun e => if e.waits = .deferred then { e with waits := .nothing } else e) ++
        [TxEntry.fresh .reserved] := List.map_append
  rw [State.answer, if_pos rfl, hqueue, hcleared, fillReserved_reserved]
  exact congrArg (fun q => { u with queues := q }) (put_put u.queues p _ _)

/-- R168: a request whose action waits for its own reply. -/
theorem request_defers {s : State} {p : Port} (tag : Octet) {r : Request} {u : State} {st : Status} {d : ReplyData}
    (hs : MaySend s p (requestRight r))
    (ho : owner p r (s.reserve p) = (u.reserve p, { status := st, data := d, waits := .deferred })) :
    s.request p tag r = u.setQueue p (deferredQueue u.queues[p] (replyKind (requestKind r)) tag st d) := by
  rw [request_taken tag hs, ho]
  exact reserve_answer_waits u p _ tag st d

theorem control_defers {s : State} {p : Port} (tag : Octet) (hs : MaySend s p .write) {cmd : Instr} {r : Request} {u : State}
    {d : ReplyData} (hc : requestOf cmd = some (p, tag, 0x48, r))
    (ho : owner p r (s.reserve p) = (u.reserve p, { status := .ok, data := d, waits := .deferred })) :
    exec cmd s = .next (u.setQueue p (deferredQueue u.queues[p] 0xC8 tag .ok d)) := by
  obtain ⟨hk, he⟩ := exec_requestOf (s := s) hc
  have hright : requestRight r = .write := by rw [requestRight, hk]; rfl
  rw [he, request_defers tag (hright ▸ hs) ho, hk]
  rfl

/-! ### The commands by the state of the port -/

section
variable {s : State} {p n : Port}

theorem commandEnable_enabled (h : s.ports[n].state ≠ .disabled) : commandEnable n s = (s, Answer.bare .already) := if_neg h

theorem commandEnable_disabled (h : s.ports[n].state = .disabled) :
    commandEnable n s = ((s.setEnabled n true).wake n, Answer.with .ok (.portState .down)) := by
  refine (if_pos h).trans (portAnswer_nothing ?_)
  simp [State.wake]

theorem commandDisable_disabled (h : s.ports[n].state = .disabled) : commandDisable p n s = (s, Answer.bare .already) :=
  if_pos h

theorem commandDisable_own (h : s.ports[p].state ≠ .disabled) :
    commandDisable p p s =
      ((s.setEnabled p false).defer p (some .disable), { status := .ok, data := .portState .disabled, waits := .deferred }) :=
  (if_neg h).trans (if_pos rfl)

theorem commandDisable_other (h : s.ports[n].state ≠ .disabled) (hn : n ≠ p) :
    commandDisable p n s = ((s.setEnabled n false).fall n .disabled none).portAnswer n .nothing :=
  (if_neg h).trans (if_neg hn)

theorem commandRestart_disabled (h : s.ports[n].state = .disabled) : commandRestart p n s = (s, Answer.bare .busy) :=
  if_pos h

theorem commandRestart_own (h : s.ports[p].state ≠ .disabled) (hd : s.ports[p].deferred ≠ some .disable) :
    commandRestart p p s =
      (s.defer p (some .restart), { status := .ok, data := .portState .down, waits := .deferred }) :=
  (if_neg h).trans ((if_pos rfl).trans (if_neg hd))

theorem commandRestart_disabling (h : s.ports[p].state ≠ .disabled) (hd : s.ports[p].deferred = some .disable) :
    commandRestart p p s = (s, Answer.with .ok (.portState .disabled)) :=
  (if_neg h).trans ((if_pos rfl).trans (if_pos hd))

theorem commandRestart_other (h : s.ports[n].state ≠ .disabled) (hn : n ≠ p) :
    commandRestart p n s = (s.fall n .down (some .portRestart)).portAnswer n .nothing :=
  (if_neg h).trans (if_neg hn)

theorem commandQuiet_absent (hup : s.ports[n].state ≠ .up) (hquiet : s.ports[n].state ≠ .quiet) :
    commandQuiet n s = (s, Answer.bare .busy) := by
  unfold commandQuiet
  split
  · next h => exact absurd h hup
  · next h => exact absurd h hquiet
  · rfl

theorem commandUnquiet_absent (hup : s.ports[n].state ≠ .up) (hquiet : s.ports[n].state ≠ .quiet) :
    commandUnquiet n s = (s, Answer.bare .busy) := by
  unfold commandUnquiet
  split
  · next h => exact absurd h hquiet
  · next h => exact absurd h hup
  · rfl

theorem commandQuiet_quiet (h : s.ports[n].state = .quiet) : commandQuiet n s = (s, Answer.bare .already) := by
  rw [commandQuiet, h]

theorem commandUnquiet_up (h : s.ports[n].state = .up) : commandUnquiet n s = (s, Answer.bare .already) := by
  rw [commandUnquiet, h]

theorem commandUnquiet_quiet (h : s.ports[n].state = .quiet) :
    commandUnquiet n s = (s.setPort n { s.ports[n] with state := .up }, Answer.with .ok (.portState .up)) := by
  rw [commandUnquiet, h]
  exact portAnswer_nothing (by simp)

theorem commandQuiet_up (h : s.ports[n].state = .up) :
    commandQuiet n s = ((s.setPort n { s.ports[n] with state := .quiet }).leaveUp n, Answer.with .ok (.portState .quiet)) := by
  rw [commandQuiet, h]
  exact portAnswer_nothing (by simp)

end

/-! ### Taking another port down -/

section
variable {s : State} {p n : Port} (tag : Octet) (hs : MaySend s p .write) (hn : n ≠ p) (h : s.ports[n].state ≠ .disabled)
include hs hn h

/-- R167: DISABLE of another port. -/
theorem disable_fells (hr : s.present n = true → s.restartBy ≠ some n) :
    exec (.disable p tag n.val) s = .next
      (((s.setEnabled n false).replied p (replyOf 0xC8 tag .ok (.portState .disabled))).fall n .disabled none) := by
  have htarget : (s.setEnabled n false).fallTarget n .disabled = .disabled := ite_self _
  rw [control_fells (u := s.setEnabled n false) (cmd := .disable p tag n.val) (target := .disabled) (cause := none) tag hs hn
    rfl rfl hr ((portControl_named n _ _).trans (commandDisable_other (s := s.reserve p) h hn)), htarget]

/-- R167, R168: RESTART of another port; a deferred DISABLE takes it to DISABLED. -/
theorem portRestart_fells (hr : s.present n = true → s.restartBy ≠ some n) :
    exec (.portRestart p tag n.val) s = .next
      ((s.replied p (replyOf 0xC8 tag .ok (.portState (s.fallTarget n .down)))).fall n .down (some .portRestart)) :=
  control_fells (u := s) (cmd := .portRestart p tag n.val) (target := .down) (cause := some .portRestart) tag hs hn rfl rfl hr
    ((portControl_named n _ _).trans (commandRestart_other (s := s.reserve p) h hn))

/-- R185: either carries out a RESTART that waits for the port's reply. -/
theorem fells_restarting (hp : s.present n = true) (hr : s.restartBy = some n) :
    (∃ t, exec (.disable p tag n.val) s = .next t ∧ HasRestarted (s.setEnabled n false) t)
      ∧ ∃ t, exec (.portRestart p tag n.val) s = .next t ∧ HasRestarted s t :=
  ⟨control_restarts (u := s.setEnabled n false) (cmd := .disable p tag n.val) (target := .disabled) (cause := none) tag hs
      rfl hp hr ((portControl_named n _ _).trans (commandDisable_other (s := s.reserve p) h hn)),
    control_restarts (u := s) (cmd := .portRestart p tag n.val) (target := .down) (cause := some .portRestart) tag hs
      rfl hp hr ((portControl_named n _ _).trans (commandRestart_other (s := s.reserve p) h hn))⟩

end

/-! ### The statement -/

/-- R167: a port in UP is quieted: its entries go, with the grants behind them, and its DENIED periods. -/
theorem quiet_leaves {s : State} {p n : Port} (tag : Octet) (hs : MaySend s p .write) (h : s.ports[n].state = .up) :
    ∃ t, exec (.quiet p tag n.val) s = .next t
      ∧ t.ports = put s.ports n { s.ports[n] with state := .quiet }
      ∧ (∀ c : Chan, t.talk[c] = s.talkFreed c n ∧ ∀ e ∈ t.talk[c].talkers ++ t.talk[c].waiters, e.port ≠ n)
      ∧ t.denied = put s.denied n (Vector.replicate 4 none)
      ∧ t = { s with ports := t.ports, talk := t.talk, denied := t.denied }.replied p
          (replyOf 0xC8 tag .ok (.portState .quiet)) := by
  have hquieted := leaveUp_eq ((s.reserve p).setPort n { s.ports[n] with state := .quiet }) n
  have htalk := leaveUp_talk ((s.reserve p).setPort n { s.ports[n] with state := .quiet }) n
  have howner : owner p (.quiet n.val) (s.reserve p) = _ :=
    (portControl_named n commandQuiet (s.reserve p)).trans (commandQuiet_up h)
  generalize (((s.reserve p).setPort n { s.ports[n] with state := .quiet }).leaveUp n).talk = lists at hquieted htalk
  have hexec := control_replied (u := { s with
    ports := put s.ports n { s.ports[n] with state := .quiet }, talk := lists
    denied := put s.denied n (Vector.replicate 4 none) }) tag hs (cmd := .quiet p tag n.val) rfl
    (howner.trans (congrArg (·, _) hquieted))
  refine ⟨_, hexec, rfl, fun c => ?_, rfl, rfl⟩
  have hfreed : lists[c] = s.talkFreed c n := htalk c
  exact ⟨hfreed, hfreed ▸ talkFreed_entries s c n⟩

/-- Settles O51: each command is refused, changes the port's record, or takes the port down. -/
theorem portControlByPortState : Obligations.PortControlByPortState := by
  intro s p n tag hs
  have hfell : ∀ {x : PortState}, s.ports[n].state = x → x.present = false → n ≠ p := by
    rintro x hx habsent rfl
    obtain ⟨hpresent, -⟩ := hs
    rw [State.present, hx, habsent] at hpresent
    cases hpresent
  have hnotDisabled : s.present n = true → s.ports[n].state ≠ .disabled := fun hn h => by
    rw [State.present, h] at hn
    cases hn
  refine ⟨fun m hm cmd hcmd => ?beyond, fun h => ?enabled, fun h => ⟨?off, ?offRestart, ?wakes⟩, fun h => ?absent,
    fun hup hquiet => ⟨?quietAbsent, ?unquietAbsent⟩, fun h => ⟨?quieted, ?unquiets⟩, fun h => ⟨?notQuiet, quiet_leaves tag hs h⟩,
    fun hn hp hr => ?fells, fun hn hp hr _ => fells_restarting tag hs hn (hnotDisabled hp) hp hr, ?own⟩
  case beyond =>
    simp only [List.mem_cons, List.not_mem_nil, or_false] at hcmd
    obtain rfl | rfl | rfl | rfl | rfl := hcmd <;> exact control_refused tag hs rfl (portControl_beyond hm _ _)
  case enabled =>
    exact control_refused tag hs rfl ((portControl_named n _ _).trans (commandEnable_enabled (s := s.reserve p) h))
  case off =>
    exact control_refused tag hs rfl ((portControl_named n _ _).trans (commandDisable_disabled (s := s.reserve p) h))
  case offRestart =>
    exact control_refused tag hs rfl ((portControl_named n _ _).trans (commandRestart_disabled (s := s.reserve p) h))
  case wakes =>
    exact control_replied (u := (s.setEnabled n true).wake n) tag hs rfl
      ((portControl_named n _ _).trans (commandEnable_disabled (s := s.reserve p) h))
  case absent =>
    have habsent : s.present n = false := by rw [State.present]; obtain h | h | h := h <;> rw [h] <;> rfl
    have hother : n ≠ p := by obtain h | h | h := h <;> exact hfell h rfl
    have hdisabled : s.ports[n].state ≠ .disabled := by obtain h | h | h := h <;> rw [h] <;> nofun
    have hpresent : s.present n = true → s.restartBy ≠ some n := fun hn => absurd hn (Bool.eq_false_iff.1 habsent)
    refine ⟨(disable_fells tag hs hother hdisabled hpresent).trans ?_,
      (portRestart_fells tag hs hother hdisabled hpresent).trans ?_⟩
    · have htarget : (s.setEnabled n false).fallTarget n .disabled = .disabled := ite_self _
      rw [replied_clears hother (s := s.setEnabled n false) habsent, htarget]
      rfl
    · rw [replied_clears hother habsent]
      rfl
  case quietAbsent =>
    exact control_refused tag hs rfl ((portControl_named n _ _).trans (commandQuiet_absent (s := s.reserve p) hup hquiet))
  case unquietAbsent =>
    exact control_refused tag hs rfl ((portControl_named n _ _).trans (commandUnquiet_absent (s := s.reserve p) hup hquiet))
  case quieted =>
    exact control_refused tag hs rfl ((portControl_named n _ _).trans (commandQuiet_quiet (s := s.reserve p) h))
  case unquiets =>
    exact control_replied (u := s.setPort n { s.ports[n] with state := .up }) tag hs rfl
      ((portControl_named n _ _).trans (commandUnquiet_quiet (s := s.reserve p) h))
  case notQuiet =>
    exact control_refused tag hs rfl ((portControl_named n _ _).trans (commandUnquiet_up (s := s.reserve p) h))
  case fells =>
    have htarget : (s.setEnabled n false).fallTarget n .disabled = .disabled := ite_self _
    have hrestarts := portRestart_fells tag hs hn (hnotDisabled hp) (fun _ => hr)
    rw [fall_fallTarget] at hrestarts
    obtain ⟨hleft, hkept, hdeparted, hprofiles, hreply, -⟩ :=
      replied_falls (s := s.setEnabled n false) hn hp hr rfl htarget none
        (e := replyOf 0xC8 tag .ok (.portState .disabled)) rfl
    obtain ⟨hleft', hkept', hdeparted', hprofiles', hreply', -, hdetail'⟩ :=
      replied_falls (s := s) hn hp hr (fallTarget_absent rfl) (fallTarget_fallTarget s n .down) (some .portRestart)
        (e := replyOf 0xC8 tag .ok (.portState (s.fallTarget n .down))) rfl
    exact ⟨⟨_, disable_fells tag hs hn (hnotDisabled hp) (fun _ => hr), hleft, hkept, hdeparted, hprofiles, hreply⟩,
      ⟨_, hrestarts, hleft', hkept', hdeparted', hprofiles', hreply', hdetail' _ rfl⟩⟩
  case own =>
    rintro rfl
    obtain ⟨hpresent, -⟩ := id hs
    have hdisabled := hnotDisabled hpresent
    refine ⟨?_, fun hd => ?_, fun hd => ?_⟩
    · exact control_defers (u := (s.setEnabled n false).defer n (some .disable)) tag hs rfl
        ((portControl_named n _ _).trans (commandDisable_own (s := s.reserve n) hdisabled))
    · exact control_defers (u := s.defer n (some .restart)) tag hs rfl
        ((portControl_named n _ _).trans (commandRestart_own (s := s.reserve n) hdisabled hd))
    · exact control_refused tag hs rfl
        ((portControl_named n _ _).trans (commandRestart_disabling (s := s.reserve n) hdisabled hd))

end Sys2Proof.Machine
end

section
/-! SUPPORT. The slots of a written profile: what they leave of the port's talk entries, DENIED periods and call records
(R118, R126, R135, R144). -/

namespace Sys2Proof.Machine

/-! ### One slot -/

/-- R118, R135: a slot whose channel or mode a write changes. -/
abbrev Rewired (old new : Vector SlotConfig 4) (k : KeySlot) : Prop :=
  old[k].channel ≠ new[k].channel ∨ old[k].mode ≠ new[k].mode

/-- R118, R144: what a profile write does to the port's things on one slot. -/
def State.rewriteSlot (s : State) (n : Port) (old new : Vector SlotConfig 4) (k : KeySlot) : State :=
  ((s.rewriteTalkSlot n old new k).rewriteFlash n old new k).rewriteHoldoff n old new k

theorem rewriteSlots_eq (s : State) (n : Port) (old new : Vector SlotConfig 4) :
    s.rewriteSlots n old new = allSlots.foldl (fun t k => t.rewriteSlot n old new k) s := rfl

/-- R144: the call record that a profile write leaves on a slot. -/
def State.rewrittenCall (s : State) (n : Port) (old new : Vector SlotConfig 4) (k : KeySlot) : CallRecord :=
  { flash :=
      if old[k].channel ≠ new[k].channel ∨ new[k].mode = .talk ∨ s.inert n k = true then none else s.calls[n][k].flash
    holdoff :=
      if new[k].callAllowed = false ∨ old[k].channel ≠ new[k].channel then none else s.calls[n][k].holdoff }

theorem hears_eq_false (m : SlotMode) : m.hears = false ↔ m = .talk := by cases m <;> simp [SlotMode.hears]

/-- A table of tables with one entry replaced. -/
theorem get_put_put {α : Type} {m n : Nat} (v : Vector (Vector α n) m) (i : Fin m) (k : Fin n) (x : α) (q : Fin m)
    (j : Fin n) : (put v i (put v[i] k x))[q][j] = if q = i ∧ j = k then x else v[q][j] := by
  rw [get_put]
  by_cases hq : q = i
  · subst hq
    rw [if_pos rfl, get_put]
    by_cases hj : j = k
    · rw [if_pos hj, if_pos ⟨rfl, hj⟩]
    · rw [if_neg hj, if_neg fun h => hj h.2]
  · rw [if_neg hq, if_neg fun h => hq h.1]

/-- R117: which slots are inert is read off the port's record. -/
theorem inert_of_ports {s t : State} (h : t.ports = s.ports) (p : Port) (k : KeySlot) : t.inert p k = s.inert p k := by
  unfold State.inert State.keyCount
  rw [h]

theorem setCall_same (s : State) (p : Port) (k : KeySlot) : s.setCall p k s.calls[p][k] = s := by
  rw [State.setCall, put_get, put_get]

/-- R118: a removal of the same port a second time finds nothing. -/
theorem talkFreed_talkFreed {s t : State} {c : Chan} {n : Port} (h : t.talk[c] = s.talkFreed c n) :
    t.talkFreed c n = s.talkFreed c n := by
  have hnone := talkFreed_entries s c n
  rw [← h] at hnone ⊢
  simp only [List.mem_append] at hnone
  have htalkers : ¬∃ e ∈ t.talk[c].talkers, e.port = n := fun ⟨e, he, hport⟩ => hnone e (.inl he) hport
  have hkept : ∀ l : List TalkEntry, (∀ e ∈ l, e.port ≠ n) → (l.filter fun e => e.port ≠ n) = l := fun l hl =>
    List.filter_eq_self.2 fun e he => decide_eq_true (hl e he)
  simp only [State.talkFreed, if_neg htalkers, hkept _ fun e he => hnone e (.inl he), hkept _ fun e he => hnone e (.inr he),
    List.take_zero, List.append_nil, List.drop_zero, true_or, if_true]

section
variable (s : State) (n : Port) (old new : Vector SlotConfig 4) (k : KeySlot)

theorem rewriteTalkSlot_eq : s.rewriteTalkSlot n old new k =
    if Rewired old new k then
      (match old[k].channel with
        | none => s
        | some c => s.setTalk c (s.talkFreed c n)).setDenied n k none
    else s := by
  unfold State.rewriteTalkSlot
  by_cases h : old[k].channel = new[k].channel ∧ old[k].mode = new[k].mode
  · have hsame : ¬Rewired old new k := fun hr => hr.elim (fun hc => hc h.1) fun hm => hm h.2
    rw [if_pos h, if_neg hsame]
  · rw [if_neg h, if_pos (Decidable.not_and_iff_or_not.1 h)]
    cases old[k].channel with
    | none => rfl
    | some c => simp only [removeTalk_eq]

theorem rewriteCalls_eq (t : State) : (t.rewriteFlash n old new k).rewriteHoldoff n old new k =
    t.setCall n k (t.rewrittenCall n old new k) := by
  have hflash : t.rewriteFlash n old new k = t.setCall n k { t.calls[n][k] with
      flash := (t.rewrittenCall n old new k).flash } := by
    unfold State.rewriteFlash State.rewrittenCall
    simp only [hears_eq_false]
    split
    · rfl
    · exact (setCall_same t n k).symm
  rw [hflash]
  unfold State.rewriteHoldoff
  split
  · next h =>
    simp only [State.stopHoldoff, State.rewrittenCall, if_pos h, State.setCall, get_put, if_true, put_put]
  · next h => simp only [State.rewrittenCall, if_neg h, State.setCall]

theorem rewriteSlot_eq : s.rewriteSlot n old new k =
    (s.rewriteTalkSlot n old new k).setCall n k (s.rewrittenCall n old new k) := by
  have hcall : (s.rewriteTalkSlot n old new k).rewrittenCall n old new k = s.rewrittenCall n old new k := by
    have hinert : (s.rewriteTalkSlot n old new k).inert n k = s.inert n k := inert_of_ports (by simp) n k
    simp only [State.rewrittenCall, hinert, rewriteTalkSlot_fields]
  rw [State.rewriteSlot, rewriteCalls_eq, hcall]

/-- R118, R126: the lists of a channel after the write of a slot. -/
theorem rewriteSlot_talk (c : Chan) : (s.rewriteSlot n old new k).talk[c] =
    if Rewired old new k ∧ old[k].channel = some c then s.talkFreed c n else s.talk[c] := by
  rw [rewriteSlot_eq, rewriteTalkSlot_eq]
  simp only [setCall_fields]
  by_cases hr : Rewired old new k
  · rw [if_pos hr]
    simp only [setDenied_fields, hr, true_and]
    cases old[k].channel with
    | none => rfl
    | some d =>
      simp only [setTalk_fields, get_put, Option.some.injEq]
      by_cases hd : c = d
      · subst hd
        rw [if_pos rfl]
      · rw [if_neg hd, if_neg (Ne.symm hd)]
  · rw [if_neg hr, if_neg fun h => hr h.1]

/-- R135: the DENIED periods after the write of a slot. -/
theorem rewriteSlot_denied (q : Port) (j : KeySlot) : (s.rewriteSlot n old new k).denied[q][j] =
    if q = n ∧ j = k ∧ Rewired old new k then none else s.denied[q][j] := by
  rw [rewriteSlot_eq, rewriteTalkSlot_eq]
  simp only [setCall_fields]
  by_cases hr : Rewired old new k
  · have hdenied : (match old[k].channel with
        | none => s
        | some c => s.setTalk c (s.talkFreed c n)).denied = s.denied := by cases old[k].channel <;> rfl
    rw [if_pos hr]
    simp only [setDenied_fields, hdenied, get_put_put, hr, and_true]
  · rw [if_neg hr, if_neg fun h => hr h.2.2]

/-- R144: the call records after the write of a slot. -/
theorem rewriteSlot_calls (q : Port) (j : KeySlot) : (s.rewriteSlot n old new k).calls[q][j] =
    if q = n ∧ j = k then s.rewrittenCall n old new k else s.calls[q][j] := by
  rw [rewriteSlot_eq]
  simp only [setCall_fields, rewriteTalkSlot_fields, get_put_put]

/-- R118: the write of a slot touches nothing else. -/
theorem rewriteSlot_frame : s.rewriteSlot n old new k =
    { s with
      talk := (s.rewriteSlot n old new k).talk, denied := (s.rewriteSlot n old new k).denied
      calls := (s.rewriteSlot n old new k).calls } := by
  rw [rewriteSlot_eq, rewriteTalkSlot_eq]
  by_cases hr : Rewired old new k
  · rw [if_pos hr]
    cases old[k].channel <;> rfl
  · rw [if_neg hr]
    rfl

end

/-! ### All the slots -/

section
variable (n : Port) (old new : Vector SlotConfig 4)

/-- R118, R126: the lists of a channel after the write of several slots; of two slots that named one channel the second
finds nothing to remove. -/
theorem foldl_rewriteSlot_talk (c : Chan) : ∀ (l : List KeySlot) (s : State),
    ((∃ k ∈ l, Rewired old new k ∧ old[k].channel = some c) →
        (l.foldl (fun t k => t.rewriteSlot n old new k) s).talk[c] = s.talkFreed c n)
      ∧ ((¬∃ k ∈ l, Rewired old new k ∧ old[k].channel = some c) →
        (l.foldl (fun t k => t.rewriteSlot n old new k) s).talk[c] = s.talk[c])
  | [], s => ⟨fun ⟨_, hk, _⟩ => (nomatch hk), fun _ => rfl⟩
  | k :: l, s => by
    obtain ⟨hfreed, hkept⟩ := foldl_rewriteSlot_talk c l (s.rewriteSlot n old new k)
    have hslot := rewriteSlot_talk s n old new k c
    have hchannels : (s.rewriteSlot n old new k).channels = s.channels := by rw [rewriteSlot_frame]
    have hclock : (s.rewriteSlot n old new k).clock = s.clock := by rw [rewriteSlot_frame]
    rw [List.foldl_cons]
    by_cases hk : Rewired old new k ∧ old[k].channel = some c
    · rw [if_pos hk] at hslot
      refine ⟨fun _ => ?_, fun hnone => absurd ⟨k, List.mem_cons_self, hk⟩ hnone⟩
      by_cases hl : ∃ j ∈ l, Rewired old new j ∧ old[j].channel = some c
      · exact (hfreed hl).trans (talkFreed_talkFreed hslot)
      · exact (hkept hl).trans hslot
    · rw [if_neg hk] at hslot
      have hrest : (∃ j ∈ k :: l, Rewired old new j ∧ old[j].channel = some c) ↔
          ∃ j ∈ l, Rewired old new j ∧ old[j].channel = some c := by
        rw [List.exists_mem_cons_iff, or_iff_right hk]
      rw [hrest]
      exact ⟨fun hl => (hfreed hl).trans (talkFreed_congr n hslot hchannels hclock), fun hl => (hkept hl).trans hslot⟩

theorem foldl_rewriteSlot_denied (q : Port) (j : KeySlot) : ∀ (l : List KeySlot) (s : State),
    (l.foldl (fun t k => t.rewriteSlot n old new k) s).denied[q][j] =
      if q = n ∧ j ∈ l ∧ Rewired old new j then none else s.denied[q][j]
  | [], s => (if_neg fun h => nomatch h.2.1).symm
  | k :: l, s => by
    rw [List.foldl_cons, foldl_rewriteSlot_denied q j l, rewriteSlot_denied]
    by_cases hq : q = n
    · by_cases hr : Rewired old new j
      · by_cases hk : j = k
        · subst hk
          simp [hq, hr]
        · simp [hq, hr, hk]
      · have hk : ¬(j = k ∧ Rewired old new k) := fun h => hr (h.1 ▸ h.2)
        simp [hr, hk]
    · simp [hq]

theorem rewrittenCall_congr {s t : State} {k : KeySlot} (hports : t.ports = s.ports) (hcall : t.calls[n][k] = s.calls[n][k]) :
    t.rewrittenCall n old new k = s.rewrittenCall n old new k := by
  simp only [State.rewrittenCall, inert_of_ports hports, hcall]

theorem foldl_rewriteSlot_calls (q : Port) (j : KeySlot) : ∀ (l : List KeySlot) (s : State), l.Nodup →
    (l.foldl (fun t k => t.rewriteSlot n old new k) s).calls[q][j] =
      if q = n ∧ j ∈ l then s.rewrittenCall n old new j else s.calls[q][j]
  | [], s, _ => (if_neg fun h => nomatch h.2).symm
  | k :: l, s, hl => by
    obtain ⟨hk, hl⟩ := List.nodup_cons.1 hl
    rw [List.foldl_cons, foldl_rewriteSlot_calls q j l _ hl, rewriteSlot_calls]
    by_cases hjk : j = k
    · subst hjk
      simp [hk]
    · have hcall : (s.rewriteSlot n old new k).rewrittenCall n old new j = s.rewrittenCall n old new j :=
        rewrittenCall_congr n old new (by rw [rewriteSlot_frame])
          ((rewriteSlot_calls s n old new k n j).trans (if_neg fun h => hjk h.2))
      simp [hjk, hcall]

/-- R118: the write of the slots touches nothing else. -/
theorem foldl_rewriteSlot_frame : ∀ (l : List KeySlot) (s : State),
    ∃ talk denied calls, l.foldl (fun t k => t.rewriteSlot n old new k) s =
      { s with talk := talk, denied := denied, calls := calls }
  | [], s => ⟨s.talk, s.denied, s.calls, rfl⟩
  | k :: l, s => by
    obtain ⟨talk, denied, calls, hrest⟩ := foldl_rewriteSlot_frame l (s.rewriteSlot n old new k)
    exact ⟨talk, denied, calls, by rw [List.foldl_cons, hrest, rewriteSlot_frame]⟩

end

/-- R118, R135, R144: what a profile write leaves of the port's things, whole. -/
theorem rewriteSlots_spec (s : State) (n : Port) (old new : Vector SlotConfig 4) :
    ∃ (talk : Vector ChannelTalk 16) (denied : Vector (Vector (Option Time) 4) 32)
        (calls : Vector (Vector CallRecord 4) 32),
      (∀ c : Chan, ((∃ k, Rewired old new k ∧ old[k].channel = some c) → talk[c] = s.talkFreed c n)
          ∧ ((¬∃ k, Rewired old new k ∧ old[k].channel = some c) → talk[c] = s.talk[c]))
        ∧ (∀ (q : Port) (k : KeySlot), denied[q][k] = if q = n ∧ Rewired old new k then none else s.denied[q][k])
        ∧ (∀ (q : Port) (k : KeySlot), calls[q][k] = if q = n then s.rewrittenCall n old new k else s.calls[q][k])
        ∧ s.rewriteSlots n old new = { s with talk := talk, denied := denied, calls := calls } := by
  have htalk := fun c => foldl_rewriteSlot_talk n old new c allSlots s
  have hdenied := fun q j => foldl_rewriteSlot_denied n old new q j allSlots s
  have hcalls := fun q j => foldl_rewriteSlot_calls n old new q j allSlots s (by decide)
  simp only [mem_allSlots, true_and, and_true] at htalk hdenied hcalls
  obtain ⟨talk, denied, calls, hframe⟩ := foldl_rewriteSlot_frame n old new allSlots s
  rw [hframe] at htalk hdenied hcalls
  exact ⟨talk, denied, calls, htalk, hdenied, hcalls, hframe⟩

end Sys2Proof.Machine
end

section
/-! WRITE_ENTRY of the Station Profiles: its tests, and what the change of enabled does to the port (R25, R163, R165, R166,
R168). -/

namespace Sys2Proof.Machine

/-! ### The tests -/

section
variable {s : State} {p n : Port} {w : ProfileWrite}

theorem writeProfile_badValue (hw : checkProfile w = none) :
    owner p (.writeProfile n.val w) s = (s, Answer.bare .badValue) := by
  show writeProfileRequest p n.val w s = _
  rw [writeProfileRequest, zeroBased_val]
  simp only [hw]

theorem writeProfile_tested {f : Profile} (hw : checkProfile w = some f) :
    owner p (.writeProfile n.val w) s =
      if someWriter (put s.profiles n f) then s.storeProfile p n f else (s, Answer.bare .lockout) := by
  show writeProfileRequest p n.val w s = _
  rw [writeProfileRequest, zeroBased_val]
  simp only [hw]

end

/-! ### What an accepted write stores -/

/-- R165: a profile in place, with the talk entries, DENIED periods and call records that its slots leave. -/
def State.profiled (s : State) (n : Port) (f : Profile) (talk : Vector ChannelTalk 16)
    (denied : Vector (Vector (Option Time) 4) 32) (calls : Vector (Vector CallRecord 4) 32) : State :=
  { s with profiles := put s.profiles n f, talk := talk, denied := denied, calls := calls }

section
variable {s u : State} {p n : Port} {f : Profile}
  (hslots : (s.setProfile n f).rewriteSlots n s.profiles[n].slots f.slots = u)
include hslots

theorem storeProfile_same (h : s.profiles[n].enabled = f.enabled) : s.storeProfile p n f = (u, Answer.bare .ok) := by
  simp only [State.storeProfile, hslots]
  exact if_pos h

theorem storeProfile_enables (h : s.profiles[n].enabled = false) (hf : f.enabled = true) :
    s.storeProfile p n f = (u.reenable n, Answer.bare .ok) := by
  simp only [State.storeProfile, hslots]
  rw [if_neg (by rw [h, hf]; decide), if_pos hf]

theorem storeProfile_disables (h : s.profiles[n].enabled = true) (hf : f.enabled = false) :
    s.storeProfile p n f =
      if u.ports[n].state = .disabled then (u, Answer.bare .ok)
      else if n = p then (u.defer n (some .disable), { status := .ok, data := .nothing, waits := .deferred })
      else (u.fall n .disabled none, Answer.bare .ok) := by
  simp only [State.storeProfile, hslots]
  rw [if_neg (by rw [h, hf]; decide), if_neg (by rw [hf]; decide)]

end

/-! ### How it is answered -/

section
variable {s u : State} {p n : Port} (tag : Octet) (hs : MaySend s p .write) {w : ProfileWrite}
include hs

theorem writeProfile_replied {st : Status} (ho : owner p (.writeProfile n.val w) (s.reserve p) = (u.reserve p, Answer.bare st)) :
    exec (.writeProfile p tag n.val w) s = .next (u.replied p (replyOf 0xA1 tag st .nothing)) :=
  write_replied tag hs rfl ho

/-- R168: the reply to a write that disables the sender's own port is the one the deferred DISABLE waits for. -/
theorem writeProfile_defers
    (ho : owner p (.writeProfile n.val w) (s.reserve p) =
      (u.reserve p, { status := .ok, data := .nothing, waits := .deferred })) :
    exec (.writeProfile p tag n.val w) s = .next (u.setQueue p (deferredQueue u.queues[p] 0xA1 tag .ok .nothing)) :=
  congrArg Host.Outcome.next (request_defers tag hs ho)

/-- R166, R179: a write that disables another port. -/
theorem writeProfile_fells (hn : n ≠ p) (hr : u.present n = true → u.restartBy ≠ some n)
    (ho : owner p (.writeProfile n.val w) (s.reserve p) = ((u.reserve p).fall n .disabled none, Answer.bare .ok)) :
    exec (.writeProfile p tag n.val w) s = .next
      ((u.replied p (replyOf 0xA1 tag .ok .nothing)).fall n .disabled none) :=
  congrArg Host.Outcome.next (request_fells tag u hs hn hr ho)

end

/-! ### The statement -/

/-- Settles O47: the tests, then the slots as `rewriteSlots_spec` says, then the port by its state and the change of enabled. -/
theorem profileWriteActsOnThePort : Obligations.ProfileWriteActsOnThePort := by
  intro s p n tag w hs
  refine ⟨fun hw => writeProfile_replied tag hs (writeProfile_badValue hw), fun f hw => ⟨fun hnone => ?lockout, fun hwriter => ?_⟩⟩
  case lockout =>
    have htest : someWriter (put s.profiles n f) = false := Bool.eq_false_iff.2 fun h => by
      obtain ⟨q, hq⟩ := (someWriter_iff _).1 h
      rw [hnone q] at hq
      cases hq
    have howner : owner p (.writeProfile n.val w) (s.reserve p) = (s.reserve p, Answer.bare .lockout) := by
      rw [writeProfile_tested hw]
      exact if_neg (Bool.eq_false_iff.1 htest)
    exact writeProfile_replied tag hs howner
  obtain ⟨talk, denied, calls, htalk, hdenied, hcalls, hslots⟩ :=
    rewriteSlots_spec ((s.reserve p).setProfile n f) n s.profiles[n].slots f.slots
  have howner : owner p (.writeProfile n.val w) (s.reserve p) = (s.reserve p).storeProfile p n f := by
    rw [writeProfile_tested hw]
    exact if_pos ((someWriter_iff _).2 hwriter)
  have hothers : ∀ q : Port, q ≠ n → calls[q] = s.calls[q] := fun q hq =>
    Vector.ext fun i hi => (hcalls q ⟨i, hi⟩).trans (if_neg hq)
  refine ⟨talk, denied, calls, fun c => ?talk, hdenied, fun q k => ?calls, ?_⟩
  case talk =>
    obtain ⟨hfreed, hkept⟩ := htalk c
    split
    · next h => exact hfreed h
    · next h => exact hkept h
  case calls =>
    rw [hcalls q k]
    by_cases hq : q = n
    · subst hq
      rfl
    · rw [if_neg hq, if_neg hq]
      rfl
  have hstored : ((s.reserve p).setProfile n f).rewriteSlots n (s.reserve p).profiles[n].slots f.slots =
      (s.profiled n f talk denied calls).reserve p := hslots
  have hwarned : ∀ {x : PortState}, s.ports[n].state = x → x.present = false → n ≠ p := by
    rintro x hx habsent rfl
    obtain ⟨hpresent, -⟩ := hs
    rw [State.present, hx, habsent] at hpresent
    cases hpresent
  refine ⟨fun h => ?same, fun h hf => ⟨fun hst => ?wakes, fun hst hd => ?undeferred, fun hst hd => ?stays⟩, fun h hf => ?disables⟩
  case same => exact writeProfile_replied tag hs (howner.trans (storeProfile_same hstored h))
  case wakes =>
    refine writeProfile_replied tag hs (u := (s.profiled n f talk denied calls).setPort n PortRecord.powerOn)
      (howner.trans ((storeProfile_enables hstored h hf).trans (congrArg (·, _) ?_)))
    exact if_pos hst
  case undeferred =>
    refine writeProfile_replied tag hs (u := (s.profiled n f talk denied calls).defer n none)
      (howner.trans ((storeProfile_enables hstored h hf).trans (congrArg (·, _) ?_)))
    exact (if_neg hst).trans (if_pos hd)
  case stays =>
    refine writeProfile_replied tag hs (u := s.profiled n f talk denied calls)
      (howner.trans ((storeProfile_enables hstored h hf).trans (congrArg (·, _) ?_)))
    exact (if_neg hst).trans (if_neg hd)
  case disables =>
    have hdisables := howner.trans (storeProfile_disables hstored h hf)
    have htarget : (s.profiled n f talk denied calls).fallTarget n .disabled = .disabled := ite_self _
    have hpresent : s.present n = true → ¬s.ports[n].state = .disabled := fun hp hst => by
      rw [State.present, hst] at hp
      cases hp
    refine ⟨fun hst => ?off, fun hn => ?own, fun hst => ?absent, fun hn hp hr => ?falls, fun hn hp hr _ => ?restarts⟩
    case off => exact writeProfile_replied tag hs (hdisables.trans (if_pos hst))
    case own =>
      subst hn
      have hst : ¬s.ports[n].state = .disabled := fun hst => hwarned hst rfl rfl
      exact writeProfile_defers (u := (s.profiled n f talk denied calls).defer n (some .disable)) tag hs
        (hdisables.trans ((if_neg hst).trans (if_pos rfl)))
    case absent =>
      have hn : n ≠ p := by obtain h | h | h := hst <;> exact hwarned h rfl
      have hdisabled : ¬s.ports[n].state = .disabled := by obtain h | h | h := hst <;> rw [h] <;> nofun
      have habsent : s.present n = false := by rw [State.present]; obtain h | h | h := hst <;> rw [h] <;> rfl
      rw [writeProfile_fells (u := s.profiled n f talk denied calls) tag hs hn
          (fun hp => absurd hp (Bool.eq_false_iff.1 habsent)) (hdisables.trans ((if_neg hdisabled).trans (if_neg hn))),
        replied_clears (s := s.profiled n f talk denied calls) hn habsent, htarget]
      rfl
    case falls =>
      obtain ⟨hleft, hkept, hdeparted, hprofiles, hreply, hrest, -⟩ :=
        replied_falls (s := s.profiled n f talk denied calls) hn hp hr rfl htarget none
          (e := replyOf 0xA1 tag .ok .nothing) rfl
      refine ⟨_, writeProfile_fells (u := s.profiled n f talk denied calls) tag hs hn (fun _ => hr)
        (hdisables.trans ((if_neg (hpresent hp)).trans (if_neg hn))), hleft, hkept, hdeparted, hprofiles, hreply,
        fun q hq => ?_⟩
      obtain ⟨hports, hsamples, hqcalls⟩ := hrest q hq
      exact ⟨hports, hsamples, hqcalls.trans (hothers q hq)⟩
    case restarts =>
      exact ⟨_, rfl, request_fells_restarting tag (s.profiled n f talk denied calls) hs hp hr
        (hdisables.trans ((if_neg (hpresent hp)).trans (if_neg hn)))⟩

end Sys2Proof.Machine
end

section
/-! The identification of a port: IDENT replies judged, and ask deadlines (R26, R159–R162, R173, R176). -/

namespace Sys2Proof.Machine

/-! ### An IDENT reply taken -/

/-- R161: what a reply gives when its state, tag, class and key count pass. -/
theorem identOf_pass {s : State} {p : Port} {tag cls count : Octet} {c : StationClass} (serial : BitVec 32)
    (hstate : s.ports[p].state = .probing) (htag : 1 ≤ tag.toNat ∧ tag.toNat ≤ s.ports[p].asksSent)
    (hclass : classOf cls = some c) (hcount : 1 ≤ count.toNat ∧ count.toNat ≤ 4) :
    s.identOf p tag cls count serial = some { cls := c, keyCount := count.toNat, serial := serial } := by
  rw [State.identOf, hclass, Option.bind_some, hstate, decide_eq_true htag, decide_eq_true hcount]
  rfl

/-- R161: a reply whose state, tag, class or key count does not pass gives nothing. -/
theorem identOf_fail {s : State} {p : Port} {tag cls count : Octet} (serial : BitVec 32)
    (h : s.ports[p].state ≠ .probing ∨ tag.toNat = 0 ∨ s.ports[p].asksSent < tag.toNat ∨ classOf cls = none
      ∨ count.toNat = 0 ∨ 4 < count.toNat) : s.identOf p tag cls count serial = none := by
  cases hident : s.identOf p tag cls count serial with
  | none => rfl
  | some i =>
    exfalso
    unfold State.identOf at hident
    obtain ⟨c, hclass, hc⟩ := Option.bind_eq_some_iff.1 hident
    obtain ⟨htest, -⟩ := guarded_eq_some.1 hc
    simp only [Bool.and_eq_true, beq_iff_eq, decide_eq_true_eq] at htest
    obtain ⟨⟨hstate, htag⟩, hcount⟩ := htest
    rcases h with h | h | h | h | h | h
    · exact h hstate
    · omega
    · omega
    · rw [h] at hclass
      cases hclass
    · omega
    · omega

theorem takeIdent_none {s : State} {p : Port} {tag cls count : Octet} {serial : BitVec 32} (keys : Keys)
    (h : s.identOf p tag cls count serial = none) : s.takeIdent p tag cls count serial keys = s := by
  simp only [State.takeIdent, h]

theorem takeIdent_some {s : State} {p : Port} {tag cls count : Octet} {serial : BitVec 32} {i : Ident} (keys : Keys)
    (h : s.identOf p tag cls count serial = some i) :
    s.takeIdent p tag cls count serial keys = s.judgeIdent p i keys := by
  simp only [State.takeIdent, h]

theorem expectedClassAccepts_iff (e : ExpectedClass) (c : StationClass) :
    ExpectedClassAccepts e c = true ↔ e = .any ∨ e = .only c := by
  cases e with
  | any => simp [ExpectedClassAccepts]
  | only x => simp [ExpectedClassAccepts]

theorem judgeIdent_accepted {s : State} {p : Port} {i : Ident} (keys : Keys)
    (h : s.profiles[p].expected = .any ∨ s.profiles[p].expected = .only i.cls) :
    s.judgeIdent p i keys = s.enterUp p i keys := if_pos ((expectedClassAccepts_iff _ _).2 h)

theorem judgeIdent_mismatched {s : State} {p : Port} {i : Ident} {x : StationClass} (keys : Keys)
    (h : s.profiles[p].expected = .only x) (hx : x ≠ i.cls) :
    s.judgeIdent p i keys = s.enterFault p (some i) (.classMismatch i.cls (.only x)) := by
  refine (if_neg ?_).trans (by rw [h])
  rw [expectedClassAccepts_iff, h]
  rintro (h | h)
  · cases h
  · exact hx (ExpectedClass.only.inj h)

/-! ### The entry to UP -/

/-- R159: the record of a port identified. -/
def PortRecord.identified (x : PortRecord) (i : Ident) (keys : Keys) : PortRecord :=
  { x with state := .up, ident := some i, asksSent := 0, askDeadline := none, keyRef := some keys }

/-- R161: the queue without the asks not begun. -/
def asksKept (q : List TxEntry) : List TxEntry :=
  q.filter fun e =>
    match e.content with
    | .identAsk _ => e.sent != 0
    | _ => true

theorem dropAsks_eq (s : State) (p : Port) : s.dropAsks p = s.setQueue p (asksKept s.queues[p]) := by
  refine congrArg (s.setQueue p) (List.filter_congr fun e _ => ?_)
  unfold TxEntry.isWaitingAsk
  cases e.content with
  | identAsk n => rfl
  | _ => rfl

theorem regainsPort_iff (r : ActiveCue) (p : Port) :
    r.regainsPort p = true ↔ (r.state = .standby ∨ r.state = .held) ∧ r.absent.mem p = true := by
  simp [ActiveCue.regainsPort]

/-- R26: a returning port is awaited again in each record in which it was absent, and the desks are told. -/
theorem portReturned_eq (s : State) (p : Port) (hn : (s.active.map ActiveCue.slot).Nodup) :
    s.portReturned p =
      (s.setActive (s.active.map fun r =>
        if (r.state = .standby ∨ r.state = .held) ∧ r.absent.mem p = true then r.regained p else r)).toldAll
        ((s.active.filter fun r => (r.state = .standby ∨ r.state = .held) ∧ r.absent.mem p = true).map
          fun r => r.regained p) := by
  have heach := changeEach_eq s (fun r => r.regainsPort p) (fun _ r => r.regained p) (fun r => r.regained p)
    (fun _ _ _ => rfl) (fun _ => rfl) hn
  have hfilter : (s.active.filter fun r => r.regainsPort p) =
      s.active.filter fun r => (r.state = .standby ∨ r.state = .held) ∧ r.absent.mem p = true :=
    List.filter_congr fun r _ => by rw [Bool.eq_iff_iff, regainsPort_iff, decide_eq_true_iff]
  rw [hfilter] at heach
  simp only [regainsPort_iff] at heach
  rw [State.portReturned, hfilter]
  exact heach

theorem portReturned_active (s : State) (p : Port) (hn : (s.active.map ActiveCue.slot).Nodup) :
    (s.portReturned p).active = s.active.map fun r =>
      if (r.state = .standby ∨ r.state = .held) ∧ r.absent.mem p = true then r.regained p else r := by
  have heach := filter_changeCue_active s (fun r => r.regainsPort p) (fun _ r => r.regained p) (fun r => r.regained p)
    (fun _ _ _ => rfl) (fun _ => rfl) hn
  simp only [regainsPort_iff] at heach
  exact heach

/-- R159: the port identified, its assembly emptied and its asks dropped, before the records take it back. -/
def State.identified (s : State) (p : Port) (i : Ident) (keys : Keys) : State :=
  ((s.setPort p (s.ports[p].identified i keys)).setAssembly p .empty).setQueue p (asksKept s.queues[p])

theorem enterUp_eq (s : State) (p : Port) (i : Ident) (keys : Keys) :
    s.enterUp p i keys =
      (((s.identified p i keys).portReturned p).offer p).raise (.portUp p i.cls i.keyCount) :=
  congrArg (fun t : State => ((t.portReturned p).offer p).raise (.portUp p i.cls i.keyCount)) (dropAsks_eq _ p)

theorem enterUp_ports (s : State) (p : Port) (i : Ident) (keys : Keys) :
    (s.enterUp p i keys).ports = put s.ports p (s.ports[p].identified i keys) := by
  simp only [enterUp_eq, raise_fields, offer_fields, portReturned_fields]
  rfl

theorem enterUp_portUp (s : State) (p : Port) (i : Ident) (keys : Keys) :
    (s.enterUp p i keys).notices[(0 : NoticeKind)].detail = some (.portUp p i.cls i.keyCount) :=
  (raise_detail _ _ _).trans (if_pos rfl)

theorem enterUp_active (s : State) (p : Port) (i : Ident) (keys : Keys) :
    (s.enterUp p i keys).active = ((s.identified p i keys).portReturned p).active := by
  simp only [enterUp_eq, raise_fields, offer_fields]

theorem enterUp_slots (s : State) (p : Port) (i : Ident) (keys : Keys) :
    (s.enterUp p i keys).active.map ActiveCue.slot = s.active.map ActiveCue.slot := by
  rw [enterUp_active]
  exact foldl_changeCue_slots _ _ _

/-- R159: what the entry to UP leaves as it is. -/
theorem enterUp_kept (s : State) (p : Port) (i : Ident) (keys : Keys) :
    (s.enterUp p i keys).talk = s.talk ∧ (s.enterUp p i keys).calls = s.calls
      ∧ (s.enterUp p i keys).samples = s.samples ∧ (s.enterUp p i keys).profiles = s.profiles
      ∧ TablesKept s (s.enterUp p i keys) := by
  simp only [TablesKept, enterUp_eq, raise_fields, offer_fields, portReturned_fields]
  simp only [State.identified, setQueue_fields, setAssembly_fields, setPort_fields, and_self]

/-! ### The entry to FAULT -/

/-- R161, R162: a port enters FAULT with its queue empty, and one notice is raised. -/
theorem enterFault_leaves (s : State) (p : Port) (i : Option Ident) (cause : FaultCause) :
    MessagesAside (s.enterFault p i cause)
        { s with
          ports := put s.ports p { s.ports[p] with state := .fault, ident := i, askDeadline := none }
          assemblies := put s.assemblies p .empty }
      ∧ (s.enterFault p i cause).queues[p] = []
      ∧ (s.enterFault p i cause).notices[(2 : NoticeKind)].detail = some (.portFault p cause) := by
  refine ⟨(messagesAside_iff _ _).2 (raise_sansMsgs _ _), ?_, (raise_detail _ _ _).trans (if_pos rfl)⟩
  refine (raise_absent _ _ p ?_).1.trans ?_
  · simp [State.present, PortState.present]
  · simp

/-! ### Ask deadlines -/

theorem askExpiry_due {s : State} {p : Port} {d : Time} (hstate : s.ports[p].state = .probing)
    (hd : s.ports[p].askDeadline = some d) (hdue : d ≤ s.clock) : s.askExpiry p = s.askExpired p :=
  if_pos ⟨hstate, by rw [hd, reached_some]; exact hdue⟩

theorem askExpiry_early {s : State} {p : Port} {d : Time} (hd : s.ports[p].askDeadline = some d) (hearly : s.clock < d) :
    s.askExpiry p = s :=
  if_neg fun h => Nat.not_le.2 hearly ((reached_some s d).1 (hd ▸ h.2))

/-! ### Complete messages -/

/-- R161: in PROBING, a message of another kind or length is discarded. -/
theorem probingMessage_other {kind : Octet} {payload : List Octet} (s : State) (p : Port) (tag : Octet) (keys : Keys)
    (h : kind ≠ 0xF1 ∨ payload.length ≠ 6) : s.probingMessage p kind tag payload keys = s := by
  unfold State.probingMessage
  split
  · refine if_neg fun hk => ?_
    rcases h with h | h
    · exact h hk
    · exact h rfl
  · rfl

theorem completeMessage_probing {s : State} {p : Port} (h : s.ports[p].state = .probing) (kind tag : Octet)
    (payload : List Octet) (keys : Keys) :
    s.completeMessage p kind tag payload keys = s.probingMessage p kind tag payload keys := by
  simp only [State.completeMessage, h]

/-- Settles O16: by the judgement of a reply taken, the two entries, and the hand-on of a message by the port's state. -/
theorem identRepliesAndDeadlines : Obligations.IdentRepliesAndDeadlines := by
  refine ⟨fun s p tag cls count serial keys => ⟨fun c hstate htag1 htag2 hclass hcount1 hcount4 => ?_, fun h => ?_⟩,
    fun s p d hstate hd => ⟨fun hdue hasks hroom => ?_, fun hdue hasks => ?_, fun hearly => ?_⟩,
    fun s p kind tag payload keys => ⟨fun hstate => ⟨?_, fun h => ?_⟩, fun h => ?_⟩⟩
  · have htaken := takeIdent_some keys (identOf_pass serial hstate ⟨htag1, htag2⟩ hclass ⟨hcount1, hcount4⟩)
    refine ⟨fun haccept hsound => ?_, fun haccept => ?_, fun x hx hne => ?_⟩
    · obtain ⟨-, hn, -⟩ := hsound
      refine congrArg Host.Outcome.next ?_
      rw [htaken, judgeIdent_accepted keys haccept, enterUp_eq,
        portReturned_eq (s.identified p _ keys) p hn]
      rfl
    · rw [judgeIdent_accepted keys haccept] at htaken
      obtain ⟨htalk, hcalls, hsamples, hprofiles, htables⟩ :=
        enterUp_kept s p { cls := c, keyCount := count.toNat, serial := serial } keys
      refine ⟨_, congrArg Host.Outcome.next htaken, ?_, enterUp_portUp s p _ keys, fun q hq => ?_, fun hsound => ?_,
        enterUp_slots s p _ keys, htalk, hcalls, hsamples, hprofiles, htables⟩
      · rw [enterUp_ports, get_put, if_pos rfl]
        rfl
      · rw [enterUp_ports, get_put, if_neg hq]
      · obtain ⟨-, hn, -⟩ := hsound
        rw [enterUp_active]
        exact portReturned_active (s.identified p _ keys) p hn
    · rw [judgeIdent_mismatched keys hx hne] at htaken
      exact ⟨_, congrArg Host.Outcome.next htaken, enterFault_leaves s p _ _⟩
  · exact congrArg Host.Outcome.next (takeIdent_none keys (identOf_fail serial h))
  · refine congrArg Host.Outcome.next ((askExpiry_due hstate hd hdue).trans ((if_pos hasks).trans ?_))
    exact if_pos hroom
  · exact ⟨_, congrArg Host.Outcome.next ((askExpiry_due hstate hd hdue).trans (if_neg (Nat.not_lt.2 hasks))),
      enterFault_leaves s p none .identTimeout⟩
  · exact congrArg Host.Outcome.next (askExpiry_early hd hearly)
  · rintro cls count a b c d rfl rfl
    rw [completeMessage_probing hstate]
    rfl
  · rw [completeMessage_probing hstate, probingMessage_other s p tag keys h]
  · rcases h with h | h | h
    · exact completeMessage_ident tag payload keys (by rw [State.present, h]; rfl)
    · exact completeMessage_ident tag payload keys (by rw [State.present, h]; rfl)
    · exact completeMessage_absent tag payload keys _ (by rw [State.present, h]; rfl) (by rw [h]; decide)

end Sys2Proof.Machine
end

section
/-! The successor link of a record that a GO has sent (R40, R42, R45, R49–R53, R72). -/

namespace Sys2Proof.Machine

/-! ### What the tests of the Cue Engine read -/

theorem blocked_congr {s t : State} (h : t.sansCues = s.sansCues) (slot : CueSlot) : t.blocked slot = s.blocked slot :=
  (congrArg (fun x : State => x.blocked slot) h :)

theorem goingCue_congr {s t : State} (h : t.sansCues = s.sansCues) (r : ActiveCue) : t.goingCue r = s.goingCue r :=
  (congrArg (fun x : State => x.goingCue r) h :)

theorem newCue_congr {s t : State} (h : t.sansCues = s.sansCues) (slot : CueSlot) (o : Origin) (f : Option Time) :
    t.newCue slot o f = s.newCue slot o f := (congrArg (fun x : State => x.newCue slot o f) h :)

/-- R17: of the list the tests of STANDBY read the slots alone. -/
theorem standbyRefusal_congr {s t : State} (h : t.sansCues = s.sansCues)
    (hslots : t.active.map ActiveCue.slot = s.active.map ActiveCue.slot) (slot : CueSlot) :
    t.standbyRefusal slot = s.standbyRefusal slot := by
  have hswap : t.swapPending = s.swapPending := (congrArg State.swapPending h :)
  have hresolve : t.resolve (s.cue slot) = s.resolve (s.cue slot) := (congrArg (fun x : State => x.resolve (s.cue slot)) h :)
  have hfind : (t.findCue slot).isSome = (s.findCue slot).isSome := by
    rw [Bool.eq_iff_iff, findCue_isSome, findCue_isSome, hslots]
  have hlength : t.active.length = s.active.length := by simpa using congrArg List.length hslots
  unfold State.standbyRefusal
  rw [cue_congr h, hswap, hfind, hlength, hresolve]

/-- R39: of the list the tests of GO read the record of their slot alone. -/
theorem goTarget_congr {s t : State} (h : t.sansCues = s.sansCues) {slot : CueSlot}
    (hfind : t.findCue slot = s.findCue slot) : t.goTarget slot = s.goTarget slot := by
  unfold State.goTarget
  rw [hfind, cue_congr h, blocked_congr h]

/-! ### The list after a record has been sent -/

/-- R40: the list with a record GOING. -/
def State.goneList (s : State) (r : ActiveCue) : List ActiveCue := replaceCue s.active (s.goingCue r)

/-- R42: the desks told of a record sent, over a list. -/
def State.toldGoing (s : State) (r : ActiveCue) (l : List ActiveCue) : State :=
  (s.setActive l).told (s.goingCue r) (.inList .going)

section
variable (s : State) (r : ActiveCue) (l : List ActiveCue)

theorem enterGoing_eq_toldGoing : s.enterGoing r = s.toldGoing r (s.goneList r) := changeCue_eq_told s (s.goingCue r)

theorem toldGoing_sansCues : (s.toldGoing r l).sansCues = s.sansCues := told_setActive_sansCues s l _ _

theorem toldGoing_told_sansCues (y : ActiveCue) (d : DeskState) : ((s.toldGoing r l).told y d).sansCues = s.sansCues :=
  (sansCues_of_sansMsgs (told_sansMsgs _ y d)).trans (toldGoing_sansCues s r l)

theorem toldGoing_active : (s.toldGoing r l).active = l := told_active _ _ _

theorem toldGoing_clock : (s.toldGoing r l).clock = s.clock := (congrArg State.clock (toldGoing_sansCues s r l) :)

theorem toldGoing_swapPending : (s.toldGoing r l).swapPending = s.swapPending := told_swapPending _ _ _

theorem toldGoing_setActive (k : List ActiveCue) : (s.toldGoing r l).setActive k = s.toldGoing r k :=
  told_setActive _ _ _ _

theorem toldGoing_joinList (c : ActiveCue) : (s.toldGoing r l).joinList c = s.toldGoing r (l ++ [c]) := by
  rw [State.joinList, toldGoing_setActive, toldGoing_active]

theorem toldGoing_putCue (y : ActiveCue) : (s.toldGoing r l).putCue y = s.toldGoing r (replaceCue l y) := by
  rw [putCue_eq, toldGoing_setActive, toldGoing_active]

/-- R42: a second record sent over the same list. -/
theorem toldGoing_enterGoing (y : ActiveCue) :
    (s.toldGoing r l).enterGoing y = (s.toldGoing r (replaceCue l (s.goingCue y))).told (s.goingCue y) (.inList .going) := by
  rw [State.enterGoing, goingCue_congr (toldGoing_sansCues s r l), changeCue_eq_told, toldGoing_setActive, toldGoing_active]
  rfl

/-- R36: a record stood by over the list with another sent. -/
theorem toldGoing_appendCue (c : ActiveCue) :
    (s.toldGoing r l).appendCue c = ((s.toldGoing r (l ++ [c])).told c (.inList c.state)).noticeAbsent c := by
  rw [State.appendCue, toldGoing_joinList]
  rfl

theorem toldGoing_findCue (next : CueSlot) : (s.toldGoing r l).findCue next = l.find? fun x => x.slot == next := by
  rw [State.findCue, toldGoing_active]

theorem toldGoing_newCue (next : CueSlot) (o : Origin) (f : Option Time) :
    (s.toldGoing r l).newCue next o f = s.stoodBy next o f :=
  (newCue_congr (toldGoing_sansCues s r l) _ _ _).trans (newCue_eq_stoodBy s next o f)

end

section
variable {s : State} {r : ActiveCue} {next : CueSlot}

theorem toldGone_standbyRefusal (s : State) (r : ActiveCue) (next : CueSlot) :
    (s.toldGoing r (s.goneList r)).standbyRefusal next = s.standbyRefusal next :=
  standbyRefusal_congr (toldGoing_sansCues s r _) (by rw [toldGoing_active]; exact replaceCue_slots _ _) next

theorem toldGone_findCue (h : next ≠ r.slot) : (s.toldGoing r (s.goneList r)).findCue next = s.findCue next :=
  (toldGoing_findCue s r _ next).trans (replaceCue_find_other (s.goingCue r) h s.active)

theorem toldGone_goTarget (h : next ≠ r.slot) : (s.toldGoing r (s.goneList r)).goTarget next = s.goTarget next :=
  goTarget_congr (toldGoing_sansCues s r _) (toldGone_findCue h)

theorem toldGone_findCue_self (hr : r ∈ s.active) :
    (s.toldGoing r (s.goneList r)).findCue r.slot = some (s.goingCue r) :=
  (toldGoing_findCue s r _ _).trans (replaceCue_find_same (s.goingCue r) ⟨r, hr, rfl⟩)

theorem ne_of_findCue_none (hr : r ∈ s.active) (h : s.findCue next = none) : next ≠ r.slot :=
  fun e => findCue_none.1 h r hr e.symm

end

/-! ### A record stood by and tested for GO in one event -/

section
variable {s : State} {r c : ActiveCue} {next : CueSlot}

/-- R39: the tests of GO of a record that has just joined the list. -/
theorem goTarget_joined (hr : r ∈ s.active) (hnew : s.findCue next = none) (hslot : c.slot = next)
    (hstate : c.state = .standby ∨ c.state = .ready) :
    (s.toldGoing r (s.goneList r ++ [c])).goTarget next =
      if c.state = .standby ∧ (s.cue next).goPolicy = .readyOnly then .error .notReady
      else if s.blocked next then .error .zoneBlocked
      else .ok c := by
  have hgone : (s.goneList r).find? (fun x => x.slot == next) = none :=
    (replaceCue_find_other (s.goingCue r) (ne_of_findCue_none (r := r) hr hnew) s.active).trans hnew
  have hfind : (s.toldGoing r (s.goneList r ++ [c])).findCue next = some c := by
    rw [toldGoing_findCue, List.find?_append, hgone, List.find?_cons_of_pos (by simpa using hslot)]
    rfl
  have hcongr := toldGoing_sansCues s r (s.goneList r ++ [c])
  have hgoing : c.state ≠ .going := by rcases hstate with h | h <;> rw [h] <;> nofun
  have hheld : c.state ≠ .held := by rcases hstate with h | h <;> rw [h] <;> nofun
  rw [goTarget_some hfind, if_neg hgoing, if_neg hheld, cue_congr hcongr, blocked_congr hcongr]

/-- R72: a record that has just joined the list is replaced at its end. -/
theorem replaceCue_joined {x : ActiveCue} (hnew : s.findCue next = none) (hc : c.slot = next)
    (hx : x.slot = next) : replaceCue (s.goneList r ++ [c]) x = s.goneList r ++ [x] := by
  have hother : ∀ y ∈ s.goneList r, y.slot ≠ x.slot := fun y hy e => by
    have hmem : y.slot ∈ s.active.map ActiveCue.slot :=
      replaceCue_slots s.active (s.goingCue r) ▸ List.mem_map_of_mem hy
    obtain ⟨z, hz, hslot⟩ := List.mem_map.1 hmem
    exact findCue_none.1 hnew z hz (hslot.trans (e.trans hx))
  have hkept : (s.goneList r).map (fun y => if y.slot = x.slot then x else y) = s.goneList r :=
    (List.map_congr_left fun y hy => if_neg (hother y hy)).trans (List.map_id _)
  rw [replaceCue, List.map_append, hkept, List.map_cons, if_pos (hc.trans hx.symm), List.map_nil]

end

theorem stoodBy_state (s : State) (next : CueSlot) (o : Origin) (f : Option Time) :
    (s.stoodBy next o f).state = .standby ∨ (s.stoodBy next o f).state = .ready := by
  show (if _ then _ else _) = _ ∨ (if _ then _ else _) = _
  split
  · exact .inr rfl
  · exact .inl rfl

/-! ### The link of a record sent -/

/-- R40: a record without a successor, whatever has been told since. -/
theorem applyLink_none {s t : State} {r : ActiveCue} (n : Nat) (hcongr : t.sansCues = s.sansCues)
    (h : (s.cue r.slot).successor = none) : State.applyLink n r t = t := by
  cases n with
  | zero => rfl
  | succ n => rw [State.applyLink, cue_congr hcongr, h]

section
variable {s : State} {y : ActiveCue} (slot : CueSlot) (delay : Nat)

/-- R52: the deadline of a record that waits. -/
theorem linkStanding_waiting (h : y.state = .standby ∨ y.state = .ready) :
    s.linkStanding y slot delay = s.putCue { y with followDeadline := some (s.clock + 8 * delay) } := by
  unfold State.linkStanding
  rcases h with h | h <;> rw [h] <;> rfl

/-- R52: the remaining time of a record that is held. -/
theorem linkStanding_held (h : y.state = .held) :
    s.linkStanding y slot delay = s.putCue { y with remaining := some (8 * delay) } := by
  unfold State.linkStanding
  rw [h]
  rfl

/-- R53: a record that is GOING is refused. -/
theorem linkStanding_going (h : y.state = .going) :
    s.linkStanding y slot delay = s.refuseCue y.slot .alreadyGoing (.follow (some slot)) := by
  unfold State.linkStanding
  rw [h]

end

section
variable {s : State} {r : ActiveCue} {next : CueSlot}

theorem takeGo_eq (s : State) (r : ActiveCue) :
    s.takeGo r = State.applyLink (s.active.length + 8 + 1) r (s.toldGoing r (s.goneList r)) :=
  congrArg (State.applyLink _ r) (enterGoing_eq_toldGoing s r)

theorem toldGone_successor (s : State) (r : ActiveCue) :
    ((s.toldGoing r (s.goneList r)).cue r.slot).successor = (s.cue r.slot).successor := by
  rw [cue_congr (toldGoing_sansCues s r _)]

/-- R49: the next record is stood by. -/
theorem takeGo_standbyNext (hlink : (s.cue r.slot).successor = some (.standbyNext next))
    (hpasses : s.standbyRefusal next = none) :
    s.takeGo r = (s.toldGoing r (s.goneList r)).appendCue (s.stoodBy next (.follow r.slot) none) := by
  rw [takeGo_eq, State.applyLink]
  simp only [toldGone_successor, hlink, toldGone_standbyRefusal, hpasses, toldGoing_newCue]

/-- R45: a STANDBY of the next record that is refused. -/
theorem takeGo_standbyNext_refused {st : Status} (hlink : (s.cue r.slot).successor = some (.standbyNext next))
    (hrefused : s.standbyRefusal next = some st) :
    s.takeGo r = (s.toldGoing r (s.goneList r)).refuseCue next st (.follow (some r.slot)) := by
  rw [takeGo_eq, State.applyLink]
  simp only [toldGone_successor, hlink, toldGone_standbyRefusal, hrefused]

section
variable {delay : Nat} (hlink : (s.cue r.slot).successor = some (.autofollow next delay))
include hlink

/-- R52, R53: a record that stands already, after a delay. -/
theorem takeGo_delayed_standing {y : ActiveCue} (hdelay : 0 < delay)
    (hfind : (s.toldGoing r (s.goneList r)).findCue next = some y) :
    s.takeGo r = (s.toldGoing r (s.goneList r)).linkStanding y r.slot delay := by
  rw [takeGo_eq, State.applyLink]
  simp only [toldGone_successor, hlink, hfind, if_neg hdelay.ne']

/-- R50: a record that stands already is refused GO. -/
theorem takeGo_refused {y : ActiveCue} {st : Status} (hdelay : delay = 0)
    (hfind : (s.toldGoing r (s.goneList r)).findCue next = some y)
    (hgo : (s.toldGoing r (s.goneList r)).goTarget next = .error st) :
    s.takeGo r = (s.toldGoing r (s.goneList r)).refuseCue next st (.follow (some r.slot)) := by
  rw [takeGo_eq, State.applyLink]
  simp only [toldGone_successor, hlink, hfind, if_pos hdelay, hgo]

/-- R50: a record that stands already is sent, and its own link follows. -/
theorem takeGo_sends {y : ActiveCue} (hdelay : delay = 0) (hne : next ≠ r.slot) (hgo : s.goTarget next = .ok y) :
    s.takeGo r = State.applyLink (s.active.length + 8) y
      ((s.toldGoing r (replaceCue (s.goneList r) (s.goingCue y))).told (s.goingCue y) (.inList .going)) := by
  rw [takeGo_eq, State.applyLink]
  simp only [toldGone_successor, hlink, toldGone_findCue hne, goTarget_mem hgo, if_pos hdelay,
    toldGone_goTarget hne, hgo, toldGoing_enterGoing]

/-- R53: a GO to the slot itself meets a record that is GOING. -/
theorem takeGo_own_slot (hr : r ∈ s.active) (hnext : next = r.slot) :
    s.takeGo r = (s.toldGoing r (s.goneList r)).refuseCue next .alreadyGoing (.follow (some r.slot)) := by
  subst hnext
  have hfind := toldGone_findCue_self hr
  rcases Nat.eq_zero_or_pos delay with hdelay | hdelay
  · exact takeGo_refused hlink hdelay hfind ((goTarget_some hfind).trans (if_pos rfl))
  · exact takeGo_delayed_standing hlink hdelay hfind

section
variable (hr : r ∈ s.active)
include hr

/-- R45: no record stands at the next slot, and STANDBY is refused. -/
theorem takeGo_autofollow_refused {st : Status} (hnew : s.findCue next = none)
    (hrefused : s.standbyRefusal next = some st) :
    s.takeGo r = (s.toldGoing r (s.goneList r)).refuseCue next st (.follow (some r.slot)) := by
  rw [takeGo_eq, State.applyLink]
  simp only [toldGone_successor, hlink, toldGone_findCue (ne_of_findCue_none hr hnew), hnew,
    toldGone_standbyRefusal, hrefused]

/-- R51: the next record is stood by with a follow deadline. -/
theorem takeGo_delayed_new (hdelay : 0 < delay) (hpasses : s.standbyRefusal next = none) :
    s.takeGo r = (s.toldGoing r (s.goneList r)).appendCue
      (s.stoodBy next (.follow r.slot) (some (s.clock + 8 * delay))) := by
  obtain ⟨-, -, hnew, -⟩ := standbyRefusal_none hpasses
  rw [takeGo_eq, State.applyLink]
  simp only [toldGone_successor, hlink, toldGone_findCue (ne_of_findCue_none hr hnew), hnew,
    toldGone_standbyRefusal, hpasses, if_neg hdelay.ne', toldGoing_newCue, toldGoing_clock]
  rfl

/-- R50: the next record is stood by, and GO is refused. -/
theorem takeGo_new_refused {st : Status} (hdelay : delay = 0) (hpasses : s.standbyRefusal next = none)
    (hgo : (s.toldGoing r (s.goneList r ++ [s.stoodBy next (.follow r.slot) none])).goTarget next = .error st) :
    s.takeGo r = ((s.toldGoing r (s.goneList r)).appendCue (s.stoodBy next (.follow r.slot) none)).refuseCue next st
      (.follow (some r.slot)) := by
  obtain ⟨-, -, hnew, -⟩ := standbyRefusal_none hpasses
  rw [takeGo_eq, State.applyLink]
  simp only [toldGone_successor, hlink, toldGone_findCue (ne_of_findCue_none hr hnew), hnew,
    toldGone_standbyRefusal, hpasses, if_pos hdelay, toldGoing_newCue, toldGoing_joinList, hgo]

/-- R50, R72: the next record is stood by and sent in one event, and its own link follows. -/
theorem takeGo_new_sends (hdelay : delay = 0) (hpasses : s.standbyRefusal next = none)
    (hgo : (s.toldGoing r (s.goneList r ++ [s.stoodBy next (.follow r.slot) none])).goTarget next =
      .ok (s.stoodBy next (.follow r.slot) none)) :
    s.takeGo r = State.applyLink (s.active.length + 8) (s.stoodBy next (.follow r.slot) none)
      (((s.toldGoing r (s.goneList r ++ [s.goingCue (s.stoodBy next (.follow r.slot) none)])).told
        (s.goingCue (s.stoodBy next (.follow r.slot) none)) (.inList .going)).noticeAbsent
        (s.stoodBy next (.follow r.slot) none)) := by
  obtain ⟨-, -, hnew, -⟩ := standbyRefusal_none hpasses
  have hjoined := replaceCue_joined (r := r) (c := s.stoodBy next (.follow r.slot) none)
    (x := s.goingCue (s.stoodBy next (.follow r.slot) none)) hnew rfl rfl
  rw [takeGo_eq, State.applyLink]
  simp only [toldGone_successor, hlink, toldGone_findCue (ne_of_findCue_none hr hnew), hnew,
    toldGone_standbyRefusal, hpasses, if_pos hdelay, toldGoing_newCue, toldGoing_joinList, hgo, toldGoing_enterGoing,
    hjoined]

end
end
end

/-! ### A record sent stays, whatever its own link does -/

/-- R53: a list with the slots of a sound one, and a record of it that is GOING: the links that follow leave the record. -/
theorem applyLink_mem {t v : State} {x : ActiveCue} (hsound : CueListSound t)
    (hslots : v.active.map ActiveCue.slot = t.active.map ActiveCue.slot) (hswap : v.swapPending = t.swapPending)
    (hgoing : x.state = .going) (hx : x ∈ v.active) (n : Nat) (y : ActiveCue) : x ∈ (State.applyLink n y v).active :=
  applyLink_keeps_going hgoing n y v (hsound.of_slots hslots fun h => .inl (hswap ▸ h)) hx

section
variable {s : State} {r : ActiveCue} {next : CueSlot} (hsound : CueListSound s)
    (hlink : (s.cue r.slot).successor = some (.autofollow next 0))
include hsound hlink

theorem takeGo_sends_mem {y : ActiveCue} (hne : next ≠ r.slot) (hgo : s.goTarget next = .ok y) :
    s.goingCue y ∈ (s.takeGo r).active := by
  obtain ⟨hy, rfl⟩ := findCue_some (goTarget_mem hgo)
  rw [takeGo_sends hlink rfl hne hgo]
  refine applyLink_mem (x := s.goingCue y) hsound ?_ ?_ rfl ?_ _ _
  · rw [told_active, toldGoing_active, replaceCue_slots]
    exact replaceCue_slots _ _
  · rw [told_swapPending, toldGoing_swapPending]
  · rw [told_active, toldGoing_active]
    exact mem_replaceCue ⟨y, mem_replaceCue_of_ne hy hne, rfl⟩

theorem takeGo_new_sends_mem (hr : r ∈ s.active) (hpasses : s.standbyRefusal next = none)
    (hgo : (s.toldGoing r (s.goneList r ++ [s.stoodBy next (.follow r.slot) none])).goTarget next =
      .ok (s.stoodBy next (.follow r.slot) none)) :
    s.goingCue (s.stoodBy next (.follow r.slot) none) ∈ (s.takeGo r).active := by
  rw [takeGo_new_sends hlink hr rfl hpasses hgo]
  have hjoined := joinList_keeps_list (.follow r.slot) none hpasses hsound
  refine applyLink_mem (x := s.goingCue (s.stoodBy next (.follow r.slot) none)) hjoined ?_ ?_ rfl ?_ _ _
  · simp only [noticeAbsent_fields, told_active, toldGoing_active, joinList_active, List.map_append, newCue_eq_stoodBy]
    exact congrArg (· ++ [next]) (replaceCue_slots s.active (s.goingCue r))
  · simp only [noticeAbsent_fields, told_swapPending, toldGoing_swapPending]
    rfl
  · simp only [noticeAbsent_fields, told_active, toldGoing_active, List.mem_append, List.mem_singleton, or_true]

end

/-! ### The link of a GO taken -/

theorem noticeAbsent_answer (c : ActiveCue) (t : State) (p : Port) (kind tag : Octet) (a : Answer)
    (ha : a.waits ≠ .deferred) : (t.noticeAbsent c).answer p kind tag a = (t.answer p kind tag a).noticeAbsent c := by
  unfold State.noticeAbsent
  split
  · rfl
  · exact raise_answer _ _ p kind tag a ha

/-- R36, R179: the messages of a record stood by do not meet a reply. -/
theorem stood_passes (p : Port) (c x : ActiveCue) (d : DeskState) :
    PassesReply p fun t => (t.told x d).noticeAbsent c := fun t kind tag a ha => by
  rw [noticeAbsent_answer _ _ p kind tag a ha, told_answer _ _ _ p kind tag a ha]

section
variable {s : State} {p : Port} {r : ActiveCue} (tag : Octet)

/-- The list that a GO leaves, whatever its messages. -/
theorem go_mem {slot : CueSlot} {x : ActiveCue} (hs : MaySend s p .cue) (hgo : s.goTarget slot = .ok r)
    (hx : x ∈ ((s.reserve p).takeGo r).active) : ∃ t, exec (.go p tag slot) s = .next t ∧ x ∈ t.active := by
  have ho : owner p (.go slot) (s.reserve p) = ((s.reserve p).takeGo r, Answer.with .ok (.cue slot .going)) :=
    goRequest_taken (s := s.reserve p) hgo
  have haside := request_sansMsgs (r := .go slot) tag hs
  rw [ho] at haside
  have hactive : (s.request p tag (.go slot)).active = ((s.reserve p).takeGo r).active := (congrArg State.active haside :)
  exact ⟨_, rfl, hactive ▸ hx⟩

/-- R42: a GO taken and answered, the desks told of its record over a list. -/
def State.sentFrom (s : State) (p : Port) (tag : Octet) (r : ActiveCue) (l : List ActiveCue) : State :=
  ((s.setActive l).replied p (replyOf 0x91 tag .ok (.cue r.slot .going))).told (s.goingCue r) (.inList .going)

variable (hs : MaySend s p .cue) (hgo : s.goTarget r.slot = .ok r)
include hs hgo

/-- R40, R179: a GO whose link leaves a list and some messages: the reply, the record sent, then those messages. -/
theorem go_linked {l : List ActiveCue} {tail : State → State} (htail : PassesReply p tail)
    (hlinked : (s.reserve p).takeGo r = tail ((s.reserve p).toldGoing r l)) :
    exec (.go p tag r.slot) s = .next (tail (s.sentFrom p tag r l)) := by
  have hreserved : (s.reserve p).goTarget r.slot = .ok r := hgo
  have ho : owner p (.go r.slot) (s.reserve p) =
      (tail (((s.setActive l).reserve p).told (s.goingCue r) (.inList .going)), Answer.with .ok (.cue r.slot .going)) :=
    (goRequest_taken hreserved).trans (congrArg (·, _) hlinked)
  refine congrArg Host.Outcome.next (request_through (r := .go r.slot) tag (s.setActive l)
    (fun t => tail (t.told (s.goingCue r) (.inList .going))) .ok _ hs ho fun t kind tag a ha => ?_)
  rw [htail _ _ _ _ ha, told_answer _ _ _ p kind tag a ha]

/-- R45: the link of a GO is refused. -/
theorem go_link_refused {slot : CueSlot} {st : Status}
    (hlinked : (s.reserve p).takeGo r =
      ((s.reserve p).toldGoing r (s.goneList r)).refuseCue slot st (.follow (some r.slot))) :
    exec (.go p tag r.slot) s =
      .next ((s.sentFrom p tag r (s.goneList r)).raise (.cueRefused slot st (.follow (some r.slot)))) :=
  go_linked tag hs hgo (tail := (·.raise _)) (fun t kind tag a ha => raise_answer t _ p kind tag a ha) hlinked

/-- R49: the link of a GO stands a record by. -/
theorem go_link_stands {c : ActiveCue}
    (hlinked : (s.reserve p).takeGo r = ((s.reserve p).toldGoing r (s.goneList r)).appendCue c) :
    exec (.go p tag r.slot) s =
      .next (((s.sentFrom p tag r (s.goneList r ++ [c])).told c (.inList c.state)).noticeAbsent c) :=
  go_linked tag hs hgo (stood_passes p c c _) (hlinked.trans (toldGoing_appendCue _ _ _ _))

/-- R50: the link of a GO stands a record by, and does not send it. -/
theorem go_link_stands_refused {c : ActiveCue} {slot : CueSlot} {st : Status}
    (hlinked : (s.reserve p).takeGo r =
      (((s.reserve p).toldGoing r (s.goneList r)).appendCue c).refuseCue slot st (.follow (some r.slot))) :
    exec (.go p tag r.slot) s =
      .next ((((s.sentFrom p tag r (s.goneList r ++ [c])).told c (.inList c.state)).noticeAbsent c).raise
        (.cueRefused slot st (.follow (some r.slot)))) :=
  go_linked tag hs hgo
    (PassesReply.comp (g := (·.raise _)) (fun t kind tag a ha => raise_answer t _ p kind tag a ha)
      (stood_passes p c c (.inList c.state)))
    (hlinked.trans (congrArg (fun t : State => t.refuseCue slot st _) (toldGoing_appendCue _ _ _ _)))

/-- R52: the link of a GO changes a record that stands. -/
theorem go_link_puts {x : ActiveCue}
    (hlinked : (s.reserve p).takeGo r = ((s.reserve p).toldGoing r (s.goneList r)).putCue x) :
    exec (.go p tag r.slot) s = .next (s.sentFrom p tag r (replaceCue (s.goneList r) x)) :=
  go_linked tag hs hgo (tail := id) (fun _ _ _ _ _ => rfl) (hlinked.trans (toldGoing_putCue _ _ _ _))

end

/-- Settles O27: the link of the record sent, case by case, over the list with that record GOING; none of its messages
meets the reply. -/
theorem successorLinkIsApplied : Obligations.SuccessorLinkIsApplied := by
  intro s p tag slot next r hs hsound hgo
  obtain ⟨hmem, rfl⟩ := findCue_some (goTarget_mem hgo)
  refine ⟨fun hlink => ⟨fun hpasses => ?_, fun st hrefused => ?_⟩, fun delay hlink => ⟨fun hown => ?_,
    fun st hnew hrefused => ?_, fun hdelay => ⟨fun hpasses => ?_, fun y hne hfind => ?_⟩, fun hdelay => ?_⟩⟩
  · exact go_link_stands tag hs hgo (takeGo_standbyNext (s := s.reserve p) hlink hpasses)
  · exact go_link_refused tag hs hgo (takeGo_standbyNext_refused (s := s.reserve p) hlink hrefused)
  · exact go_link_refused tag hs hgo (takeGo_own_slot (s := s.reserve p) hlink hmem hown)
  · exact go_link_refused tag hs hgo (takeGo_autofollow_refused (s := s.reserve p) hlink hmem hnew hrefused)
  · exact go_link_stands tag hs hgo (takeGo_delayed_new (s := s.reserve p) hlink hmem hdelay hpasses)
  · obtain ⟨-, rfl⟩ := findCue_some hfind
    have hstands : (s.reserve p).takeGo r =
        ((s.reserve p).toldGoing r (s.goneList r)).linkStanding y r.slot delay :=
      takeGo_delayed_standing (s := s.reserve p) hlink hdelay ((toldGone_findCue (s := s.reserve p) hne).trans hfind)
    refine ⟨fun hwaits => ?_, fun hheld => ?_, fun hgoing => ?_⟩
    · rw [linkStanding_waiting _ _ hwaits, toldGoing_clock] at hstands
      exact go_link_puts tag hs hgo hstands
    · exact go_link_puts tag hs hgo (hstands.trans (linkStanding_held _ _ hheld))
    · exact go_link_refused tag hs hgo (hstands.trans (linkStanding_going _ _ hgoing))
  · subst hdelay
    refine ⟨fun hpasses => ?new, fun st y hne hfind hrefused => ?refused, fun y hne htarget => ?sent⟩
    case new =>
      obtain ⟨-, -, hnew, -⟩ := standbyRefusal_none hpasses
      have htarget := goTarget_joined (s := s.reserve p) hmem hnew rfl (stoodBy_state s next (.follow r.slot) none)
      refine ⟨fun hearly => ?early, fun hnot hblocked => ?blocked, fun hnot hfree => ?free⟩
      case early =>
        exact go_link_stands_refused tag hs hgo
          (takeGo_new_refused (s := s.reserve p) hlink hmem rfl hpasses (htarget.trans (if_pos hearly)))
      case blocked =>
        exact go_link_stands_refused tag hs hgo
          (takeGo_new_refused (s := s.reserve p) hlink hmem rfl hpasses
            (htarget.trans ((if_neg hnot).trans (if_pos hblocked))))
      case free =>
        have hok := htarget.trans ((if_neg hnot).trans (if_neg (ne_true_of_eq_false hfree)))
        refine ⟨fun hlast => ?_, go_mem tag hs hgo (takeGo_new_sends_mem (s := s.reserve p) hsound hlink hmem hpasses hok)⟩
        exact go_linked tag hs hgo (stood_passes p _ _ _)
          ((takeGo_new_sends (s := s.reserve p) hlink hmem rfl hpasses hok).trans
            (applyLink_none _ ((sansCues_of_sansMsgs (noticeAbsent_sansMsgs _ _)).trans
              (toldGoing_told_sansCues (s.reserve p) _ _ _ _)) hlast))
    case refused =>
      exact go_link_refused tag hs hgo (takeGo_refused (s := s.reserve p) hlink rfl
        ((toldGone_findCue (s := s.reserve p) hne).trans hfind) ((toldGone_goTarget (s := s.reserve p) hne).trans hrefused))
    case sent =>
      obtain ⟨-, rfl⟩ := findCue_some (goTarget_mem htarget)
      refine ⟨fun hlast => ?_, go_mem tag hs hgo (takeGo_sends_mem (s := s.reserve p) hsound hlink hne htarget)⟩
      exact go_linked tag hs hgo (tail := fun t => t.told (s.goingCue y) (.inList .going))
        (fun t kind tag a ha => told_answer t _ _ p kind tag a ha)
        ((takeGo_sends (s := s.reserve p) hlink rfl hne htarget).trans
          (applyLink_none _ (toldGoing_told_sansCues (s.reserve p) _ _ _ _) hlast))

end Sys2Proof.Machine
end
